-- ==== Sys2Proof/Word.lean ====
section
/-! DEFINITION. The plain data words of the model: bytes, lane words and sparse tables keyed by a number. -/

namespace Sys2Proof

/-- One byte. -/
abbrev Byte := BitVec 8

/-- One 32-bit lane register (Table 5-8). -/
abbrev Word := BitVec 32

/-- A table of units or cells keyed by number. Keys rise strictly and no entry equals the value that an
unlisted key reads as, so that equal tables are equal lists. -/
abbrev Map (α : Type) := List (Nat × α)

end Sys2Proof
end

