-- ==== Sys2Proof/Syntax.lean ====
section
/-! DEFINITION. The commands the block takes: one constructor per row of the table of operations and events
(spec/opcode_table.json), with the row's operands. -/

namespace Sys2Proof

/-- Where a register write goes: a dictionary object, a BAR offset, or a setting in the PCIe configuration space (Table 3-1,
R97): Max_Payload_Size, Max_Read_Request_Size, 10-bit tags, ASPM, MSI-X Message Control (bit 1 Enable, bit 0 Function Mask),
and the AER log, cleared by ones. -/
inductive RegTarget where
  | object (index sub : Nat)
  | bar (bar offset size : Nat)
  | maxPayload
  | maxReadRequest
  | tenBitTags
  | aspm
  | msixControl
  | aerLog
deriving DecidableEq, Repr

/-- One access of BAR0 or BAR2 (R69, R72): the BAR, the offset in it, the size in bytes, and the value of a write. -/
structure BarAccess where
  bar : Nat
  offset : Nat
  size : Nat
  value : Nat
deriving DecidableEq, Repr

/-- One pulse of a beam detector (R198): the stamp of its edge in 1/16 tick, whether that edge falls, and its length in ns. -/
structure BdPulse where
  t16 : Nat
  falling : Bool
  ns : Nat
deriving DecidableEq, Repr

/-- How a PCIe read of a descriptor or a buffer ended (R88, R93). -/
inductive ReadStatus where
  | ok | busError | timeout | poisoned
deriving DecidableEq, Repr

/-- Header of a Haling frame as received (Table 12-1); TYPE and LENGTH are the row's and the payload's. -/
structure Header where
  src : Nat
  dest : Nat := 0
  bcast : Bool := true
  hops : Nat := 0
  gen : Nat := 0
  fseq : Nat := 0
  stamp : Nat := 0
deriving DecidableEq, Repr

/-- One cross-part join as a ROLL frame carries it (R361): side (0 operator, 1 drive), station, peer, overlap, ramp
shape and tile. -/
structure JoinInfo where
  side : Nat
  station : Nat
  peer : Nat
  overlap : Nat
  ramp : Nat
  tile : Nat
deriving DecidableEq, Repr

/-- Payload of a ROLL frame (R361, R369). -/
structure RollInfo where
  state : Nat := 0
  owner : Bool := false
  prefect : Nat := 0
  largestD : Int := 0
  nextOrigin : Int := 0
  aligned : Bool := false
  listener : Bool := false
  joins : List JoinInfo := []
  /-- Another source uses the sender's seat (R359); its UP ports, A in bit 0 and B in bit 1 (R364). -/
  duplicate : Bool := false
  ports : Nat := 0
deriving DecidableEq, Repr

/-- Payload of a STATE frame (R371, R372). -/
structure StateInfo where
  state : Nat := 0
  wd : Int := 0
  wrest : Int := 0
  vr : Rat := 0
  reached : Bool := false
  delta : Int := 0
deriving DecidableEq, Repr

/-- One USDO request over CAN FD (R441 to R443): a read, a write in one piece, or the start of a segmented write. -/
inductive UsdoOp where
  | read
  | write (bytes : List Nat)
  | begin (bytes : List Nat)
  | unknown
deriving DecidableEq, Repr

inductive Instr where
  -- chapters 1 and 2
  | masterWebEncoderWrite (v : Nat)
  | webScaleWrite (v : Nat)
  | webDirectionWrite (v : Nat)
  | webPositionPreset (w : Int)
  | printableWidthWrite (st v : Nat)
  | nextOriginWrite (w : Int)
  | declare (slot : Nat)
  | withdraw (slot : Nat)
  | storeGrant (slot : Nat)
  | commit (slot : Nat)
  | commitDeadline (slot : Nat)
  | bell (slot st : Nat)
  | decelerationStart
  | webAtRest
  | reverseComplete
  | correctiveMoveDone
  | restart
  | restartSpeedReached
  | fuserNipClosePoint
  | timetableRun
  | timetableHalt
  | timetableEnd
  | bandModeWrite (st v : Nat)
  -- chapter 3
  | barAbsentAccess (write : Bool) (access : BarAccess)
  | diagnosticStoreRead (offset size failure : Nat)
  | diagnosticStoreWrite (offset size value : Nat)
  | ringEnable (q : Nat)
  | ringReset (q : Nat)
  | doorbell (q v : Nat)
  | eventRingDoorbell (q v : Nat)
  | descriptorFetch (q : Nat) (desc : Option Nat)
  | dmaBeat (die : Nat)
  | dmaReadCompletion (q : Nat) (status : ReadStatus) (bytes : List Nat)
  | completionTimeout (q : Nat)
  | lineStored (q : Nat)
  | descriptorComplete (q : Nat)
  | functionLevelReset
  | hotReset
  | pcieLinkLoss
  | pcieLinkTrained (speed width : Nat)
  -- chapter 4
  | playbackLineDecode (slot lane y chan : Nat) (failed undecodable : List Nat)
  | channelLost (c : Nat)
  | arbiterWindowStart
  | arbiterGrant (port : Nat) (pending : List Nat)
  | grantWithdrawn (port : Nat)
  | compressorBlockEmit (q : Nat) (block : List Nat)
  | codecCompressJob (q : Nat) (blocks : List (List Nat))
  | codecDecompressJob (q : Nat)
  -- chapter 5
  | programStart (lane slot n facet : Nat)
  | lineStartCommitment (g : Nat)
  | windowFill (slot lane y : Nat)
  | nop (lane : Nat)
  | add (lane sd sa sb : Nat)
  | sub (lane sd sa sb : Nat)
  | and_ (lane sd sa sb : Nat)
  | or_ (lane sd sa sb : Nat)
  | shl (lane sd sa sb : Nat)
  | shr (lane sd sa sb : Nat)
  | mul (lane sd sa sb : Nat)
  | addi (lane sd sa : Nat) (imm : Int)
  | andi (lane sd sa imm : Nat)
  | ori (lane sd sa imm : Nat)
  | shli (lane sd sa imm : Nat)
  | shri (lane sd sa imm : Nat)
  | lui (lane sd imm : Nat)
  | ldw (lane sd sa : Nat) (imm : Int)
  | stw (lane sd sa : Nat) (imm : Int)
  | gets (lane sd sel : Nat)
  | jmp (lane target : Nat)
  | beq (lane sa sb target : Nat)
  | bne (lane sa sb target : Nat)
  | blt (lane sa sb target : Nat)
  | bge (lane sa sb target : Nat)
  | loop (lane sa target : Nat)
  | call (lane target : Nat)
  | ret (lane : Nat)
  | endl (lane : Nat)
  | wld (lane v line sa : Nat) (off : Int)
  | edge (lane v sa : Nat) (off : Int)
  | vld (lane v sa : Nat) (off : Int)
  | vst (lane v sa : Nat) (off : Int)
  | vadds (lane vd va vb : Nat)
  | vsubs (lane vd va vb : Nat)
  | vmin (lane vd va vb : Nat)
  | vmax (lane vd va vb : Nat)
  | vand (lane vd va vb : Nat)
  | vor (lane vd va vb : Nat)
  | vsplat (lane vd sa : Nat)
  | vshr (lane vd va imm : Nat)
  | vcmpgt (lane vd va vb : Nat)
  | vsel (lane vd va vb : Nat)
  | vlut (lane vd va imm : Nat)
  | twid (lane vd va : Nat)
  | tstart (lane vd va vb : Nat)
  | emit (lane va vb sa : Nat)
  | illegalInstruction (lane : Nat)
  | laneMemoryWrite (lane offset size value : Nat)
  | laneLoad (image scope l : Nat)
  | laneStart (scope l : Nat)
  | laneStop (scope l : Nat)
  | laneRelease (scope l : Nat)
  | applyToneTable (st v : Nat)
  -- chapter 6
  | draftWrite (lane offset size value : Nat)
  | draftObjectWrite (lane : Nat) (bytes : List Nat)
  | flipNextFacet (scope l : Nat)
  | flipNamedBell (seq scope l : Nat)
  | flipCancel (scope l : Nat)
  | draftCopyComplete (lane : Nat)
  | knotWriteDescriptor (q : Nat)
  | facetWriteDescriptor (q : Nat)
  | flipDescriptor (q : Nat)
  | applyStitchSettings (st v : Nat)
  -- chapter 7
  | bdEdge (g : Nat) (pulse : BdPulse)
  | bdMissing (g : Nat)
  | phaseSample (g : Nat)
  | lineStart (g : Nat)
  | lineEnd (g : Nat)
  | scannerStart (g : Nat)
  | scannerStop (g : Nat)
  | scannerRelease (g : Nat)
  | scannerRelearn (g : Nat)
  | spinUpElapsed (g : Nat)
  -- chapter 8
  | codeFrameSend (g : Nat)
  | trimFrameSend (g : Nat)
  | timeFrameSend (g : Nat)
  | backChannelLock (g : Nat)
  | statusFrame (g raw : Nat)
  | powerFrame (g raw : Nat)
  | identFrame (g raw : Nat)
  | badBackChannelFrame (g : Nat)
  | statusTimeout (g : Nat)
  | identTimeout (g : Nat)
  | retrainElapsed (g : Nat)
  | linkEnable (g : Nat)
  | linkDisable (g : Nat)
  | linkClear (g : Nat)
  | laserEnReadbackMismatch (g : Nat)
  | bdWatchdog (g : Nat)
  | bdRetryElapsed (g : Nat)
  -- chapter 9
  | countEdge (ch : Nat) (a b : Bool) (t : Nat)
  | encoderAlarm (ch : Nat)
  | indexEdge (ch t : Nat)
  | serialReadStart (ch t : Nat) (low : Bool)
  | serialWord (ch word : Nat)
  | serialWordTimeout (ch : Nat)
  | channelClear (ch : Nat)
  | channelArm (ch : Nat)
  | channelSet (ch : Nat)
  | latchCapture (n t : Nat) (rising : Bool)
  | latchQueueRead (n : Nat)
  | comparePulseEnd (n : Nat)
  | compareAppend (n : Nat) (entries : List Int)
  | compareAppendDescriptor (q : Nat)
  | compareConfigWrite (n v : Nat)
  | axisEnable (a : Nat)
  | axisDisable (a : Nat)
  | move (a : Nat)
  | jog (a : Nat)
  | gear (a : Nat)
  | axisHalt (a : Nat)
  | axisStop (a : Nat)
  | setPosition (a : Nat)
  | axisClear (a : Nat)
  | tension (a : Nat)
  | moveComplete (a : Nat)
  | haltComplete (a : Nat)
  | gearArmCrossing (a : Nat)
  | hallChange (a levels : Nat)
  | pwmPeriod (a : Nat)
  | stepEmit (a : Nat)
  -- chapter 10
  | conversionComplete (conv code : Nat)
  | loopTrigger (j : Nat)
  | loopComputation (j : Nat)
  | slotEnable (j : Nat)
  | slotDisable (j : Nat)
  | slotSelectBank0 (j : Nat)
  | slotSelectBank1 (j : Nat)
  | slotClearFlags (j : Nat)
  | deltaSigmaOutput (i n : Nat)
  | fastFilterOutput (i n : Nat)
  | deltaSigmaInputLost (i : Nat)
  | arcBlankingElapsed (h : Nat)
  | hvEnable (h : Nat)
  | hvDisable (h : Nat)
  | hvClear (h : Nat)
  | zeroCrossing (z t : Nat) (rising : Bool)
  | firingDelayElapsed (z : Nat)
  | zeroCrossTimeout (z : Nat)
  | fuserSample (z : Nat)
  | bandHoldElapsed (z : Nat)
  | zoneStart (z : Nat)
  | zoneStop (z : Nat)
  | zoneClear (z : Nat)
  | zoneSetback (z : Nat)
  | zoneResume (z : Nat)
  | fuserRunSetpointWrite (z v : Nat)
  | nipOpen
  | nipClose
  -- chapter 11
  | pllLock (die pll : Nat)
  | pllLockTimeout (die pll : Nat)
  | pllLossOfLock (die pll : Nat)
  | refclkLost
  | dividerCommit (die v : Nat)
  | outputEnableWrite (die v : Nat)
  | auxPllConfigWrite (die sub v : Nat)
  -- chapter 12
  | vote (port : Nat) (h : Header) (seq : Nat) (ready : Bool) (origin : Int) (hg : Nat) (restart : Bool)
  | commitFrame (port : Nat) (h : Header) (seq : Nat)
  | late (port : Nat) (h : Header) (seq : Nat)
  | portUp (port : Nat)
  | portDown (port : Nat)
  | badHalingFrame (port : Nat)
  | roll (port : Nat) (h : Header) (r : RollInfo)
  | rollSend
  | census (port : Nat) (h : Header) (seats : List Nat) (dGroup : Int)
  | censusSend
  | partNotHeard (seat : Nat)
  | sync (port : Nat) (h : Header) (time : Nat)
  | syncSend (port : Nat)
  | syncReply (port : Nat) (h : Header) (t2 t3 time : Nat)
  | state_ (port : Nat) (h : Header) (x : StateInfo)
  | stateSend
  | haltReport (port : Nat) (h : Header) (wrest : Int)
  | align_ (port : Nat) (h : Header) (w : Int)
  | alignSend
  | stitch (port : Nat) (h : Header) (station side : Nat) (err : Int) (locked : Bool)
  | stitchSend
  | tunnelReq (port : Nat) (h : Header) (op index sub : Nat) (bytes : List Nat)
  | tunnelRsp (port : Nat) (h : Header) (result : Nat) (bytes : List Nat)
  | tunnelSend (v : Nat)
  | tunnelTimeout
  | hazardSet (port origin hops : Nat)
  | hazardSetRepeat
  | hazardSetTimeout (origin : Nat)
  | minorityStop
  -- chapter 13
  | hazardDemand (src cause : Nat)
  | hazardSourceClear (src : Nat)
  | automaticRelease (src : Nat)
  | discrepancyTimeout (pair : Nat)
  | hazardRelease (v : Nat)
  | fuseProgram (key : Nat)
  | fuseProgramDone (copyA copyB : Nat)
  | seal_ (key : Nat)
  | faultCollect (codes : List Nat)
  | faultPulseEnd
  | clearFaultLatch (v : Nat)
  | faultnExternalLow
  | clearLog (v : Nat)
  | lockstepMismatch (die cause : Nat)
  | supervisorWatchdogExpiry (die : Nat)
  | leadDieMove
  | injectionArm
  | injectionCancel
  | gateReadbackMismatch (n : Nat)
  | hazardNodeDisagreement (die : Nat)
  -- chapter 14
  | vstbyApplied
  | vstbyLoss
  | onDelayElapsed (r : Nat)
  | powerUpStepComplete (readings : List Nat)
  | pgTimeout (r : Nat) (readings : List Nat)
  | shutdownStepComplete (readings : List Nat)
  | dischargeTimeout (r : Nat) (readings : List Nat)
  | railDeparture (r : Nat) (readings : List Nat)
  | thermalModelTick (die power : Nat)
  | flashGraceExpiry
  | housekeepingRound (diodes readings : List Nat) (tdcBad clockBad nodeBad : Nat)
  | speedRequestTimer (die : Nat)
  | coolDownElapsed
  | recessEntry (die : Nat)
  | recessExit (die : Nat)
  | standby (v : Nat)
  | wakeEdge (falling : Bool)
  | rtcAlarm
  -- chapter 15
  | usdoRequest (ctrl index sub : Nat) (op : UsdoOp)
  | usdoSegment (ctrl : Nat) (bytes : List Nat) (last : Bool)
  | usdoTimeout
  | mirrorRead (n index sub : Nat) (irq : Bool) (vector tag : Nat)
  | mirrorWrite (n index sub len : Nat) (irq : Bool) (vector tag : Nat)
  | registerWrite (target : RegTarget) (v : List Nat)
  | nmtStart
  | nmtStop
  | nmtEnterPreOperational
  | nmtResetNode
  | nmtResetCommunication
  | nmtDeferredTransition
  | canBusOff (ctrl : Nat)
  | canErrorPassive (ctrl : Nat)
  | heartbeatTimeout (k : Nat)
  | heartbeatSend
  | heartbeatReceived (node : Nat)
  | busOffRecovery (ctrl : Nat)
  | rpdo (k : Nat) (bytes : List Nat)
  | tpdoTransmit (k : Nat)
  | syncMessage (counter : Nat)
  | timeMessage (value t : Nat)
  | errorListClear (v : Nat)
  | traceRead
  | traceEnableWrite (v : Nat)
  -- chapter 16
  | hostAreaRead
  | hostAreaProgram
  | hostAreaErase
  | flashOperationComplete (ok : Bool)
  | storeSettings (index : Nat)
  | restoreDefaults (v : Nat)
  | transferBegin
  | transferCancel
  | transferVerify
  | piece (bytes : List Nat)
  | confirm
  | revert
  | boot
  -- chapter 17
  | porn (high : Bool) (legacy boot0 boot1 : Bool)
  | rstn
  | strapSample (levels : Nat)
  | mfioFunctionWrite (n sub v : Nat)
  | tckEdge (tms tdi : Bool)
deriving DecidableEq, Repr

end Sys2Proof
end

