-- ==== Sys2Proof/Config.lean ====
section
/-! DEFINITION. What the spec leaves open: opaque constants that no proof can see the value of. A free value that
must differ from use to use is one of these applied to the counter State.freeCount. -/

namespace Sys2Proof.Config

/-- Order in which the positions of blend tile t take the values 0 to 255, sixteen each (R181 gives their distribution only). -/
opaque blendTile : Nat → Nat → Nat

/-- A free number, by draw. -/
opaque freeNat : Nat → Nat

/-- A free integer, by draw. -/
opaque freeInt : Nat → Int

/-- Whether a BLDC sector gives the shunt's current a negative sign (R279: the signs are not stated). -/
opaque sectorNegative : Nat → Bool

/-- Magnitude of the output limits that the part sets in a velocity slot that feeds a current slot (R298: not stated). -/
opaque slotTop : Nat → Nat

/-- Input word and setpoint that the part sets in the tension slot of an axis (R298: neither is stated). -/
opaque tensionInput : Nat → Nat
opaque tensionSetpoint : Nat → Rat

/-- Legs of a BLDC channel in a commutation sector (R278: which phases is not stated): v mod 3 is the phase whose high side is switched,
and v div 3 mod 2 chooses which of the other two has its low side on. -/
opaque sectorLegs : Nat → Nat

/-- Supply voltage of a bridge that a converter code stands for (R281: the divider's ratio is not given). -/
opaque supplyVolts : Nat → Nat

/-- Whether a signature (second list) over a digest (first list) verifies under the OTP key named (R485): the keys are not given. -/
opaque signatureValid : Nat → List Nat → List Nat → Bool

/-- Bytes of the flash header, which the spec reserves (Table 16-1), by offset. -/
opaque flashHeader : Nat → Nat

/-- SECDED check byte of a 64-bit word, and address tag of a 512-byte group of the panel store (R100: neither code is given). -/
opaque checkByte : Nat → Nat
opaque groupTag : Nat → Nat

/-- Bytes of the image that the part shipped with and runs at reset (the spec gives no image). -/
opaque shippedImage : List Nat

/-- Payload of a Haling frame of a type as its 4-byte words (R361 to R377 name what each carries and give no layout). -/
opaque halingWords : Nat → List Nat → List Nat

/-- Whether memory channel c trains at a start (R99), by draw. -/
opaque channelTrains : Nat → Nat → Bool

/-- Refresh multiplier that a temperature reading of the devices of memory channel c requires (Table 14-5: no value is stated). -/
opaque refreshRequired : Nat → Nat → Nat

/-- Stepping as 0x1009 shows it and as IDCODE numbers it (R508), firmware build (0x1018:3) and serial number (0x1018:4): set at manufacture. -/
opaque stepping : List Nat
opaque steppingCode : Nat
opaque firmwareBuild : Nat
opaque serialNumber : Nat

end Sys2Proof.Config
end

