-- ==== Sys2Proof/Machine/Bits.lean ====
section
/-! DEFINITION. Bit fields, signed readings, byte order and CRC-32C, as the spec writes them: fields are
NAME[msb:lsb] and bit 0 is the least significant; values are little-endian in every path (R452). -/

namespace Sys2Proof.Machine

/-- Field [hi:lo] of `v`. -/
def bits (v hi lo : Nat) : Nat := v / 2 ^ lo % 2 ^ (hi + 1 - lo)

/-- Bit `i` of `v`. -/
def bit (v i : Nat) : Bool := v / 2 ^ i % 2 = 1

/-- A Bool as one bit. -/
def b2n (b : Bool) : Nat := if b then 1 else 0

/-- Bit `i` of `v` set to `b`. -/
def setBit (v i : Nat) (b : Bool) : Nat :=
  if bit v i = b then v else if b then v + 2 ^ i else v - 2 ^ i

/-- The `n`-bit two's-complement reading of a raw image. -/
def toSigned (n v : Nat) : Int :=
  let u := v % 2 ^ n
  if u < 2 ^ (n - 1) then (u : Int) else (u : Int) - 2 ^ n

/-- The `n`-bit raw image of a signed value. -/
def ofSigned (n : Nat) (i : Int) : Nat := (i % 2 ^ n).toNat

/-- Serial-number arithmetic (R30): `a` follows `b`. -/
def follows32 (a b : Nat) : Bool :=
  let d := ((a : Int) - b) % 2 ^ 32
  decide (1 ≤ d) && decide (d ≤ 2 ^ 31 - 1)

/-- A saturating count of `w` bits, one more. -/
def satInc (w v : Nat) : Nat := if v + 1 < 2 ^ w then v + 1 else v

/-- A wrapping count of `w` bits, one more. -/
def wrapInc (w v : Nat) : Nat := (v + 1) % 2 ^ w

/-- The `n` bytes of `v`, little-endian. -/
def leBytes : Nat → Nat → List Byte
  | 0, _ => []
  | n + 1, v => BitVec.ofNat 8 v :: leBytes n (v / 256)

/-- The number that bytes spell, little-endian. -/
def leNat : List Byte → Nat
  | [] => 0
  | b :: bs => b.toNat + 256 * leNat bs

/-- A number as `n` bytes, little-endian, and the number that bytes spell. -/
def numBytes (n v : Nat) : List Nat := (leBytes n v).map (·.toNat)

def bytesNum (bs : List Nat) : Nat := leNat (bs.map fun b => BitVec.ofNat 8 b)

/-- Clamp an integer between two bounds. -/
def clampI (lo hi x : Int) : Int := if x < lo then lo else if hi < x then hi else x

/-- Round a quotient to the nearest integer, halves away from minus infinity upwards (floor(a/b + 1/2)). -/
def roundDiv (a : Int) (b : Int) : Int := (2 * a + b) / (2 * b)

/-- One bit of the reflected CRC-32C register (R230: polynomial 0x1EDC6F41). -/
def crcBit (c : Nat) : Nat := if c % 2 = 1 then Nat.xor (c / 2) 0x82F63B78 else c / 2

/-- One byte of the CRC-32C register. -/
def crcByte (c : Nat) (b : Byte) : Nat :=
  let x := Nat.xor c b.toNat
  crcBit (crcBit (crcBit (crcBit (crcBit (crcBit (crcBit (crcBit x)))))))

/-- CRC-32C of a byte list: all ones at the start, complemented at the end (R230). -/
def crc32c (bs : List Byte) : Nat := Nat.xor (bs.foldl crcByte 0xFFFFFFFF) 0xFFFFFFFF

/-- The numbers `0 .. n-1` as one list. -/
def upTo (n : Nat) : List Nat := List.range n

end Sys2Proof.Machine
end

