-- ==== Sys2Proof/Machine/Map.lean ====
section
/-! DEFINITION. Reading and writing the sparse tables of State in their one canonical form. -/

namespace Sys2Proof.Machine

/-- What key `k` reads as, `d` where it is not listed. -/
def mapGet {α : Type} (d : α) : Map α → Nat → α
  | [], _ => d
  | (k, v) :: rest, q => if k = q then v else if q < k then d else mapGet d rest q

/-- Key `q` set to `v`, the canonical form kept: writing the default removes the entry. -/
def mapSet {α : Type} [DecidableEq α] (d : α) : Map α → Nat → α → Map α
  | [], q, v => if v = d then [] else [(q, v)]
  | (k, w) :: rest, q, v =>
    if q < k then (if v = d then (k, w) :: rest else (q, v) :: (k, w) :: rest)
    else if q = k then (if v = d then rest else (q, v) :: rest)
    else (k, w) :: mapSet d rest q v

/-- Every key of `m` is above `k`. -/
def mapAbove {α : Type} (k : Nat) : Map α → Bool
  | [] => true
  | (j, _) :: rest => decide (k < j) && mapAbove k rest

/-- The canonical form: keys rise strictly, and no entry equals the default. -/
def mapWf {α : Type} [DecidableEq α] (d : α) : Map α → Bool
  | [] => true
  | (k, v) :: rest => decide (v ≠ d) && mapAbove k rest && mapWf d rest

/-- Key `q` changed by `f`. -/
def mapMod {α : Type} [DecidableEq α] (d : α) (m : Map α) (q : Nat) (f : α → α) : Map α :=
  mapSet d m q (f (mapGet d m q))

/-- Every listed entry changed by `f` (an unlisted unit stays at its reset value: `f` is applied to units that
left it). -/
def mapEach {α : Type} [DecidableEq α] (d : α) (m : Map α) (f : Nat → α → α) : Map α :=
  m.filterMap fun kv => let v := f kv.1 kv.2; if v = d then none else some (kv.1, v)

/-- Write the bytes `bs` from address `a` on. -/
def mapSetList {α : Type} [DecidableEq α] (d : α) (m : Map α) (a : Nat) : List α → Map α
  | [] => m
  | b :: bs => mapSetList d (mapSet d m a b) (a + 1) bs

/-- Read `n` entries from `a` on. -/
def mapGetList {α : Type} (d : α) (m : Map α) (a : Nat) : Nat → List α
  | 0 => []
  | n + 1 => mapGet d m a :: mapGetList d m (a + 1) n

end Sys2Proof.Machine
end

