-- ==== Sys2Proof/Machine/ObjTable.lean ====
section
/-! DEFINITION. The object tables of every chapter in one list: index range, sub-index range, type, access, PDO
direction, default image, stated range (tenths for REAL32) and the states that permit a write. -/

namespace Sys2Proof.Machine

/-- Data types (R7, R452). -/
inductive ObjType where
  | u8 | u16 | u32 | u64 | i16 | i32 | i64 | f32 | dom | str
deriving DecidableEq, Repr

/-- Access codes (R7). -/
inductive Access where
  | ro | wo | rw | const | rws
deriving DecidableEq, Repr

/-- PDO direction an object may be mapped in (R459). -/
inductive PdoDir where
  | none | tpdo | rpdo
deriving DecidableEq, Repr

/-- When a write is permitted, beside the rules of the object's own command. -/
inductive WriteWhen where
  | any
  /-- Only in PRE-OPERATIONAL. -/
  | preOp
deriving DecidableEq, Repr

/-- One row of an object table. -/
structure Obj where
  lo : Nat
  hi : Nat
  subLo : Nat
  subHi : Nat
  ty : ObjType
  access : Access
  pdo : PdoDir
  dflt : Nat
  range : Option (Int × Int)
  cond : WriteWhen
deriving DecidableEq, Repr

/-- Size in bytes; 0 for DOMAIN and VISIBLE_STRING. -/
def ObjType.size : ObjType → Nat
  | .u8 => 1
  | .u16 => 2
  | .u32 => 4
  | .u64 => 8
  | .i16 => 2
  | .i32 => 4
  | .i64 => 8
  | .f32 => 4
  | .dom => 0
  | .str => 0

/-- Object rows (ch15). -/
def objRows1 : List Obj := [
  ⟨0x1000, 0x1000, 0, 0, .u32, .const, .none, 0, none, .any⟩,
  ⟨0x1001, 0x1001, 0, 0, .u8, .ro, .tpdo, 0, none, .any⟩,
  ⟨0x1003, 0x1003, 0, 0, .u8, .rw, .none, 0, none, .any⟩,
  ⟨0x1003, 0x1003, 1, 16, .u32, .ro, .none, 0, none, .any⟩,
  ⟨0x1005, 0x1005, 0, 0, .u32, .rw, .none, 128, none, .preOp⟩,
  ⟨0x1008, 0x1008, 0, 0, .str, .const, .none, 0, none, .any⟩,
  ⟨0x1009, 0x1009, 0, 0, .str, .const, .none, 0, none, .any⟩,
  ⟨0x100A, 0x100A, 0, 0, .str, .const, .none, 0, none, .any⟩,
  ⟨0x1012, 0x1012, 0, 0, .u32, .rw, .none, 0x80000100, none, .preOp⟩,
  ⟨0x1014, 0x1014, 0, 0, .u32, .rw, .none, 128, none, .preOp⟩,
  ⟨0x1015, 0x1015, 0, 0, .u16, .rw, .none, 0, none, .preOp⟩,
  ⟨0x1016, 0x1016, 1, 8, .u32, .rw, .none, 0, none, .preOp⟩,
  ⟨0x1017, 0x1017, 0, 0, .u16, .rw, .none, 0, none, .any⟩,
  ⟨0x1018, 0x1018, 1, 1, .u32, .const, .none, 2685, none, .any⟩,
  ⟨0x1018, 0x1018, 2, 2, .u32, .const, .none, 0, none, .any⟩,
  ⟨0x1018, 0x1018, 3, 3, .u32, .const, .none, 65536, none, .any⟩,
  ⟨0x1018, 0x1018, 4, 4, .u32, .const, .none, 0, none, .any⟩,
  ⟨0x1019, 0x1019, 0, 0, .u8, .rw, .none, 0, some (0, 240), .preOp⟩,
  ⟨0x1029, 0x1029, 1, 1, .u8, .rw, .none, 1, some (0, 2), .preOp⟩,
  ⟨0x1400, 0x143F, 1, 1, .u32, .rw, .none, 0x80000000, none, .preOp⟩,
  ⟨0x1400, 0x143F, 2, 2, .u8, .rw, .none, 0, some (0, 255), .preOp⟩,
  ⟨0x1600, 0x163F, 0, 0, .u8, .rw, .none, 0, none, .preOp⟩,
  ⟨0x1600, 0x163F, 1, 64, .u32, .rw, .none, 0, none, .preOp⟩,
  ⟨0x1800, 0x183F, 1, 1, .u32, .rw, .none, 0x80000000, none, .preOp⟩,
  ⟨0x1800, 0x183F, 2, 2, .u8, .rw, .none, 0, some (0, 255), .preOp⟩,
  ⟨0x1800, 0x183F, 3, 3, .u16, .rw, .none, 0, none, .preOp⟩,
  ⟨0x1800, 0x183F, 5, 5, .u16, .rw, .none, 0, none, .preOp⟩,
  ⟨0x1800, 0x183F, 6, 6, .u8, .rw, .none, 0, some (0, 240), .preOp⟩,
  ⟨0x1A00, 0x1A3F, 0, 0, .u8, .rw, .none, 0, none, .preOp⟩,
  ⟨0x1A00, 0x1A3F, 1, 64, .u32, .rw, .none, 0, none, .preOp⟩,
  ⟨0x2000, 0x2000, 0, 0, .u8, .const, .none, 3, none, .any⟩,
  ⟨0x2000, 0x2000, 1, 3, .u8, .const, .none, 0, none, .any⟩,
  ⟨0x2001, 0x2001, 0, 0, .u8, .const, .none, 6, none, .any⟩,
  ⟨0x2001, 0x2001, 1, 1, .u8, .rw, .none, 127, some (1, 127), .preOp⟩,
  ⟨0x2001, 0x2001, 2, 2, .u8, .rw, .none, 0, some (0, 1), .preOp⟩,
  ⟨0x2001, 0x2001, 3, 3, .u8, .ro, .none, 127, none, .any⟩,
  ⟨0x2001, 0x2001, 4, 4, .u16, .rw, .none, 500, none, .preOp⟩,
  ⟨0x2001, 0x2001, 5, 5, .u16, .rw, .none, 2000, none, .preOp⟩,
  ⟨0x2001, 0x2001, 6, 6, .u8, .rw, .none, 0, some (0, 1), .preOp⟩,
  ⟨0x2008, 0x2008, 0, 0, .u8, .const, .none, 5, none, .any⟩]

/-- Object rows (ch15). -/
def objRows2 : List Obj := [
  ⟨0x2008, 0x2008, 1, 1, .u8, .ro, .tpdo, 127, none, .any⟩,
  ⟨0x2008, 0x2008, 2, 2, .u8, .ro, .none, 0, none, .any⟩,
  ⟨0x2008, 0x2008, 3, 3, .u8, .ro, .tpdo, 0, none, .any⟩,
  ⟨0x2008, 0x2008, 4, 5, .u32, .ro, .none, 0, none, .any⟩,
  ⟨0x2010, 0x2010, 0, 0, .u8, .const, .none, 15, none, .any⟩,
  ⟨0x2010, 0x2010, 1, 2, .u8, .ro, .tpdo, 0, none, .any⟩,
  ⟨0x2010, 0x2010, 3, 3, .u8, .ro, .none, 0, none, .any⟩,
  ⟨0x2010, 0x2010, 4, 4, .u32, .ro, .none, 0, none, .any⟩,
  ⟨0x2010, 0x2010, 5, 5, .u8, .ro, .none, 0, none, .any⟩,
  ⟨0x2010, 0x2010, 6, 6, .u16, .ro, .none, 0, none, .any⟩,
  ⟨0x2010, 0x2010, 7, 7, .u64, .ro, .none, 0, none, .any⟩,
  ⟨0x2010, 0x2010, 8, 8, .u16, .ro, .none, 0, none, .any⟩,
  ⟨0x2010, 0x2010, 9, 9, .u8, .ro, .none, 0, none, .any⟩,
  ⟨0x2010, 0x2010, 10, 12, .u64, .ro, .none, 0, none, .any⟩,
  ⟨0x2010, 0x2010, 13, 13, .u32, .ro, .none, 0, none, .any⟩,
  ⟨0x2010, 0x2010, 14, 14, .u8, .ro, .none, 0, none, .any⟩,
  ⟨0x2010, 0x2010, 15, 15, .u16, .ro, .tpdo, 0, none, .any⟩,
  ⟨0x2020, 0x2020, 1, 1, .u8, .ro, .none, 0, none, .any⟩,
  ⟨0x2020, 0x2020, 2, 2, .u8, .rw, .none, 0, some (0, 7), .preOp⟩]

/-- Object rows (ch2). -/
def objRows3 : List Obj := [
  ⟨0x2100, 0x2100, 0, 0, .u8, .const, .none, 12, none, .any⟩,
  ⟨0x2100, 0x2100, 1, 1, .u8, .wo, .rpdo, 0, none, .any⟩,
  ⟨0x2100, 0x2100, 2, 2, .u32, .rw, .none, 2048, some (512, 65536), .preOp⟩,
  ⟨0x2100, 0x2100, 3, 3, .u32, .rw, .none, 4096, some (256, 262144), .preOp⟩,
  ⟨0x2100, 0x2100, 4, 4, .u32, .rw, .none, 256, some (16, 4096), .preOp⟩,
  ⟨0x2100, 0x2100, 5, 6, .f32, .rw, .none, 0x46B88C00, some (10000, 5000000), .preOp⟩,
  ⟨0x2100, 0x2100, 7, 7, .f32, .rw, .none, 0x46B88C00, some (5000, 472440), .preOp⟩,
  ⟨0x2100, 0x2100, 8, 8, .u32, .rw, .none, 4096, some (1, 4294967295), .preOp⟩,
  ⟨0x2100, 0x2100, 9, 9, .u32, .rw, .none, 1024, some (0, 65536), .preOp⟩,
  ⟨0x2100, 0x2100, 10, 10, .u8, .rw, .none, 0, none, .preOp⟩,
  ⟨0x2100, 0x2100, 11, 11, .u16, .rw, .none, 64, some (1, 1024), .preOp⟩,
  ⟨0x2100, 0x2100, 12, 12, .i64, .rw, .none, 0, none, .preOp⟩,
  ⟨0x2101, 0x2101, 0, 0, .u8, .const, .none, 7, none, .any⟩,
  ⟨0x2101, 0x2101, 1, 1, .u8, .ro, .tpdo, 0, none, .any⟩,
  ⟨0x2101, 0x2101, 2, 2, .i64, .rw, .none, 0, none, .any⟩,
  ⟨0x2101, 0x2101, 3, 3, .u32, .ro, .tpdo, 0, none, .any⟩,
  ⟨0x2101, 0x2101, 4, 4, .u32, .ro, .none, 0, none, .any⟩,
  ⟨0x2101, 0x2101, 5, 5, .i64, .ro, .none, 0, none, .any⟩,
  ⟨0x2101, 0x2101, 6, 6, .f32, .ro, .tpdo, 0, none, .any⟩,
  ⟨0x2101, 0x2101, 7, 7, .i32, .ro, .none, 0, none, .any⟩,
  ⟨0x2110, 0x212F, 0, 0, .u8, .const, .none, 8, none, .any⟩,
  ⟨0x2110, 0x212F, 1, 3, .u32, .rw, .none, 0, none, .any⟩,
  ⟨0x2110, 0x212F, 4, 4, .u8, .rw, .none, 0, none, .any⟩,
  ⟨0x2110, 0x212F, 5, 5, .u8, .wo, .rpdo, 0, none, .any⟩,
  ⟨0x2110, 0x212F, 6, 6, .u8, .ro, .tpdo, 0, none, .any⟩,
  ⟨0x2110, 0x212F, 7, 7, .i64, .ro, .none, 0, none, .any⟩,
  ⟨0x2110, 0x212F, 8, 8, .u32, .ro, .none, 0, none, .any⟩,
  ⟨0x2140, 0x2140, 0, 0, .u8, .const, .none, 3, none, .any⟩,
  ⟨0x2140, 0x2140, 1, 1, .u8, .ro, .none, 0, none, .any⟩,
  ⟨0x2140, 0x2140, 2, 2, .u64, .ro, .none, 0, none, .any⟩,
  ⟨0x2140, 0x2140, 3, 3, .i64, .ro, .none, 0, none, .any⟩,
  ⟨0x2141, 0x2141, 0, 0, .u8, .const, .none, 8, none, .any⟩,
  ⟨0x2141, 0x2141, 1, 8, .u64, .ro, .none, 0xFFFFFFFF, none, .any⟩,
  ⟨0x2150, 0x2150, 0, 0, .u8, .const, .none, 8, none, .any⟩,
  ⟨0x2150, 0x2150, 1, 8, .u8, .rw, .tpdo, 0, some (0, 0), .any⟩,
  ⟨0x2151, 0x2151, 0, 0, .u8, .const, .none, 32, none, .any⟩,
  ⟨0x2151, 0x2151, 1, 32, .u8, .ro, .tpdo, 0, none, .any⟩]

/-- Object rows (ch1). -/
def objRows4 : List Obj := [
  ⟨0x2180, 0x2180, 0, 0, .u8, .const, .none, 6, none, .any⟩,
  ⟨0x2180, 0x2180, 1, 1, .u8, .rw, .none, 0, some (0, 23), .preOp⟩,
  ⟨0x2180, 0x2180, 2, 2, .u64, .rw, .none, 0, none, .preOp⟩,
  ⟨0x2180, 0x2180, 3, 3, .u8, .rw, .none, 0, some (0, 1), .preOp⟩,
  ⟨0x2180, 0x2180, 4, 4, .i64, .ro, .tpdo, 0, none, .any⟩,
  ⟨0x2180, 0x2180, 5, 5, .i64, .wo, .none, 0, none, .any⟩,
  ⟨0x2180, 0x2180, 6, 6, .f32, .ro, .tpdo, 0, none, .any⟩,
  ⟨0x2181, 0x2181, 0, 0, .u8, .const, .none, 8, none, .any⟩,
  ⟨0x2181, 0x2181, 1, 8, .i64, .rw, .none, 0, some (0, 140737488355328), .preOp⟩,
  ⟨0x2182, 0x2182, 0, 0, .u8, .const, .none, 8, none, .any⟩,
  ⟨0x2182, 0x2182, 1, 8, .u32, .rw, .none, 0, none, .preOp⟩,
  ⟨0x2183, 0x2183, 0, 0, .u8, .const, .none, 8, none, .any⟩,
  ⟨0x2183, 0x2183, 1, 8, .u32, .rw, .none, 76800, some (1, 76800), .preOp⟩]

/-- Object rows (nip ch10). -/
def objRows5 : List Obj := [
  ⟨0x2190, 0x2190, 0, 0, .u8, .const, .none, 9, none, .any⟩,
  ⟨0x2190, 0x2190, 1, 1, .u8, .rw, .none, 0, some (0, 2), .preOp⟩,
  ⟨0x2190, 0x2190, 2, 2, .u8, .rw, .none, 0, none, .preOp⟩,
  ⟨0x2190, 0x2190, 3, 4, .i64, .rw, .none, 0, none, .preOp⟩,
  ⟨0x2190, 0x2190, 5, 6, .f32, .rw, .none, 0, none, .preOp⟩,
  ⟨0x2190, 0x2190, 7, 7, .u8, .rw, .none, 0, some (0, 3), .preOp⟩,
  ⟨0x2190, 0x2190, 8, 8, .u8, .ro, .tpdo, 0, none, .any⟩,
  ⟨0x2190, 0x2190, 9, 9, .u8, .wo, .none, 0, none, .any⟩]

/-- Object rows (ch3). -/
def objRows6 : List Obj := [
  ⟨0x2200, 0x2200, 0, 0, .u8, .const, .none, 8, none, .any⟩,
  ⟨0x2200, 0x2200, 1, 2, .u8, .ro, .none, 0, none, .any⟩,
  ⟨0x2200, 0x2200, 3, 3, .u16, .ro, .none, 128, none, .any⟩,
  ⟨0x2200, 0x2200, 4, 6, .u32, .ro, .none, 0, none, .any⟩,
  ⟨0x2200, 0x2200, 7, 7, .u16, .rw, .none, 0, some (0, 2047), .preOp⟩,
  ⟨0x2200, 0x2200, 8, 8, .u8, .rw, .none, 0, some (0, 1), .preOp⟩,
  ⟨0x2208, 0x220F, 0, 0, .u8, .const, .none, 64, none, .any⟩,
  ⟨0x2208, 0x220F, 1, 64, .u8, .rw, .none, 0, some (0, 15), .preOp⟩,
  ⟨0x2210, 0x2217, 0, 0, .u8, .const, .none, 128, none, .any⟩,
  ⟨0x2210, 0x2217, 1, 128, .u8, .rw, .none, 0, none, .preOp⟩]

/-- Object rows (ch4). -/
def objRows7 : List Obj := [
  ⟨0x2300, 0x2300, 0, 0, .u8, .const, .none, 8, none, .any⟩,
  ⟨0x2300, 0x2300, 1, 2, .u64, .ro, .none, 0, none, .any⟩,
  ⟨0x2300, 0x2300, 3, 3, .u16, .rw, .none, 8533, none, .preOp⟩,
  ⟨0x2300, 0x2300, 4, 4, .u64, .ro, .none, 0, none, .any⟩,
  ⟨0x2300, 0x2300, 5, 5, .u32, .ro, .none, 0, none, .any⟩,
  ⟨0x2300, 0x2300, 6, 6, .u64, .ro, .tpdo, 0, none, .any⟩,
  ⟨0x2300, 0x2300, 7, 8, .u32, .ro, .none, 0, none, .any⟩,
  ⟨0x2310, 0x2310, 0, 0, .u8, .const, .none, 7, none, .any⟩,
  ⟨0x2311, 0x2317, 0, 0, .u8, .const, .none, 6, none, .any⟩,
  ⟨0x2310, 0x2317, 1, 1, .u16, .rw, .none, 6, none, .preOp⟩,
  ⟨0x2310, 0x2317, 2, 3, .u16, .rw, .none, 12, none, .preOp⟩,
  ⟨0x2310, 0x2317, 4, 4, .u16, .rw, .none, 16, none, .preOp⟩,
  ⟨0x2310, 0x2317, 5, 5, .u16, .rw, .none, 1, none, .preOp⟩,
  ⟨0x2310, 0x2317, 6, 6, .u16, .rw, .none, 2, none, .preOp⟩,
  ⟨0x2310, 0x2310, 7, 7, .u16, .rw, .none, 4, none, .preOp⟩,
  ⟨0x2320, 0x2320, 0, 0, .u8, .const, .none, 1, none, .any⟩,
  ⟨0x2320, 0x2320, 1, 1, .f32, .rw, .none, 0x47388C00, some (10000, 472440), .preOp⟩,
  ⟨0x2321, 0x2321, 0, 0, .u8, .const, .none, 8, none, .any⟩,
  ⟨0x2321, 0x2321, 1, 8, .u16, .ro, .none, 0, none, .any⟩,
  ⟨0x2330, 0x2330, 0, 0, .u8, .const, .none, 3, none, .any⟩,
  ⟨0x2330, 0x2330, 1, 1, .u16, .rw, .none, 16, some (1, 65535), .preOp⟩,
  ⟨0x2330, 0x2330, 2, 3, .u32, .ro, .none, 0, none, .any⟩,
  ⟨0x2331, 0x2331, 0, 0, .u8, .const, .none, 8, none, .any⟩,
  ⟨0x2331, 0x2331, 1, 8, .u32, .ro, .none, 0, none, .any⟩]

/-- Object rows (ch5). -/
def objRows8 : List Obj := [
  ⟨0x2400, 0x241F, 0, 0, .u8, .const, .none, 32, none, .any⟩,
  ⟨0x2400, 0x241F, 1, 32, .u32, .ro, .tpdo, 0, none, .any⟩,
  ⟨0x2500, 0x2500, 0, 0, .u8, .const, .none, 3, none, .any⟩,
  ⟨0x2500, 0x2500, 1, 1, .u32, .wo, .none, 0, none, .any⟩,
  ⟨0x2500, 0x2500, 2, 2, .u32, .ro, .none, 0, none, .any⟩,
  ⟨0x2500, 0x2500, 3, 3, .u8, .ro, .none, 0, none, .any⟩,
  ⟨0x2508, 0x250F, 0, 0, .u8, .const, .none, 17, none, .any⟩,
  ⟨0x2508, 0x250F, 1, 1, .u8, .rw, .none, 64, some (0, 191), .any⟩,
  ⟨0x2508, 0x250F, 2, 2, .u8, .rw, .none, 68, some (0, 191), .any⟩,
  ⟨0x2508, 0x250F, 3, 3, .u8, .rw, .none, 72, some (0, 191), .any⟩,
  ⟨0x2508, 0x250F, 4, 4, .u8, .rw, .none, 77, some (0, 191), .any⟩,
  ⟨0x2508, 0x250F, 5, 5, .u8, .rw, .none, 81, some (0, 191), .any⟩,
  ⟨0x2508, 0x250F, 6, 6, .u8, .rw, .none, 85, some (0, 191), .any⟩,
  ⟨0x2508, 0x250F, 7, 7, .u8, .rw, .none, 89, some (0, 191), .any⟩,
  ⟨0x2508, 0x250F, 8, 8, .u8, .rw, .none, 93, some (0, 191), .any⟩,
  ⟨0x2508, 0x250F, 9, 9, .u8, .rw, .none, 98, some (0, 191), .any⟩,
  ⟨0x2508, 0x250F, 10, 10, .u8, .rw, .none, 102, some (0, 191), .any⟩,
  ⟨0x2508, 0x250F, 11, 11, .u8, .rw, .none, 106, some (0, 191), .any⟩,
  ⟨0x2508, 0x250F, 12, 12, .u8, .rw, .none, 110, some (0, 191), .any⟩,
  ⟨0x2508, 0x250F, 13, 13, .u8, .rw, .none, 114, some (0, 191), .any⟩,
  ⟨0x2508, 0x250F, 14, 14, .u8, .rw, .none, 119, some (0, 191), .any⟩,
  ⟨0x2508, 0x250F, 15, 15, .u8, .rw, .none, 123, some (0, 191), .any⟩,
  ⟨0x2508, 0x250F, 16, 16, .u8, .rw, .none, 127, some (0, 191), .any⟩,
  ⟨0x2508, 0x250F, 17, 17, .u8, .wo, .none, 0, none, .any⟩,
  ⟨0x2520, 0x253F, 0, 0, .u8, .const, .none, 32, none, .any⟩,
  ⟨0x2520, 0x253F, 1, 32, .u32, .ro, .none, 0, none, .any⟩,
  ⟨0x2540, 0x254F, 0, 0, .dom, .rw, .none, 0, none, .any⟩,
  ⟨0x2560, 0x256F, 0, 0, .dom, .rw, .none, 0, none, .any⟩]

/-- Object rows (ch6). -/
def objRows9 : List Obj := [
  ⟨0x2800, 0x2800, 0, 0, .u8, .const, .none, 5, none, .any⟩,
  ⟨0x2800, 0x2800, 1, 1, .u64, .wo, .rpdo, 0, none, .any⟩,
  ⟨0x2800, 0x2800, 2, 4, .u32, .ro, .none, 0, none, .any⟩,
  ⟨0x2800, 0x2800, 5, 5, .u16, .ro, .tpdo, 0, none, .any⟩,
  ⟨0x2801, 0x2801, 0, 0, .u8, .const, .none, 5, none, .any⟩,
  ⟨0x2801, 0x2801, 1, 1, .u16, .rw, .none, 64, none, .preOp⟩,
  ⟨0x2801, 0x2801, 2, 2, .u8, .rw, .none, 4, none, .preOp⟩,
  ⟨0x2801, 0x2801, 3, 3, .u16, .rw, .none, 205, some (0, 4095), .preOp⟩,
  ⟨0x2801, 0x2801, 4, 4, .u16, .rw, .none, 64, none, .preOp⟩,
  ⟨0x2801, 0x2801, 5, 5, .u8, .rw, .none, 4, none, .preOp⟩,
  ⟨0x2808, 0x280F, 0, 0, .u8, .const, .none, 14, none, .any⟩,
  ⟨0x2808, 0x280F, 1, 1, .u8, .rw, .none, 4, some (1, 4), .any⟩,
  ⟨0x2808, 0x280F, 2, 2, .u32, .rw, .none, 19200, none, .any⟩,
  ⟨0x2808, 0x280F, 3, 3, .u32, .rw, .none, 38400, none, .any⟩,
  ⟨0x2808, 0x280F, 4, 4, .u32, .rw, .none, 57600, none, .any⟩,
  ⟨0x2808, 0x280F, 5, 7, .u16, .rw, .none, 32, some (0, 512), .any⟩,
  ⟨0x2808, 0x280F, 8, 10, .u8, .rw, .none, 0, some (0, 2), .any⟩,
  ⟨0x2808, 0x280F, 11, 11, .u8, .rw, .none, 1, some (0, 15), .any⟩,
  ⟨0x2808, 0x280F, 12, 12, .u8, .rw, .none, 2, some (0, 15), .any⟩,
  ⟨0x2808, 0x280F, 13, 13, .u8, .rw, .none, 3, some (0, 15), .any⟩,
  ⟨0x2808, 0x280F, 14, 14, .u8, .wo, .none, 0, none, .any⟩,
  ⟨0x2810, 0x2817, 0, 0, .u8, .const, .none, 11, none, .any⟩,
  ⟨0x2810, 0x2817, 1, 1, .u8, .rw, .none, 0, some (0, 1), .preOp⟩,
  ⟨0x2810, 0x2817, 2, 2, .u16, .rw, .none, 0, none, .preOp⟩,
  ⟨0x2810, 0x2817, 3, 3, .u16, .rw, .none, 32, some (1, 512), .preOp⟩,
  ⟨0x2810, 0x2817, 4, 4, .u8, .rw, .none, 0, some (0, 2), .preOp⟩,
  ⟨0x2810, 0x2817, 5, 5, .u8, .rw, .none, 0, some (0, 15), .preOp⟩,
  ⟨0x2810, 0x2817, 6, 6, .u8, .rw, .none, 0, some (0, 1), .preOp⟩,
  ⟨0x2810, 0x2817, 7, 7, .u16, .rw, .none, 0, none, .preOp⟩,
  ⟨0x2810, 0x2817, 8, 8, .u16, .rw, .none, 32, some (1, 512), .preOp⟩,
  ⟨0x2810, 0x2817, 9, 9, .u8, .rw, .none, 0, some (0, 2), .preOp⟩,
  ⟨0x2810, 0x2817, 10, 10, .u8, .rw, .none, 0, some (0, 15), .preOp⟩,
  ⟨0x2810, 0x2817, 11, 11, .u8, .ro, .tpdo, 0, none, .any⟩,
  ⟨0x2820, 0x283F, 0, 0, .u8, .const, .none, 32, none, .any⟩,
  ⟨0x2820, 0x283F, 1, 32, .u32, .ro, .tpdo, 0, none, .any⟩,
  ⟨0x2840, 0x285F, 0, 0, .u8, .const, .none, 32, none, .any⟩,
  ⟨0x2840, 0x285F, 1, 32, .dom, .rw, .none, 0, none, .any⟩,
  ⟨0x2860, 0x287F, 0, 0, .u8, .const, .none, 32, none, .any⟩,
  ⟨0x2860, 0x287F, 1, 32, .dom, .ro, .none, 0, none, .any⟩,
  ⟨0x2880, 0x288F, 0, 0, .dom, .const, .none, 0, none, .any⟩]

/-- Object rows (ch7). -/
def objRows10 : List Obj := [
  ⟨0x2900, 0x291F, 0, 0, .u8, .const, .none, 50, none, .any⟩,
  ⟨0x2900, 0x291F, 1, 1, .u8, .wo, .rpdo, 0, none, .any⟩,
  ⟨0x2900, 0x291F, 2, 2, .u8, .ro, .tpdo, 0, none, .any⟩,
  ⟨0x2900, 0x291F, 3, 3, .u8, .rw, .none, 8, some (4, 16), .any⟩,
  ⟨0x2900, 0x291F, 4, 4, .u8, .rw, .none, 0, some (0, 2), .any⟩,
  ⟨0x2900, 0x291F, 5, 5, .u8, .rw, .none, 0, some (0, 63), .any⟩,
  ⟨0x2900, 0x291F, 6, 6, .u8, .rw, .none, 0, some (0, 1), .any⟩,
  ⟨0x2900, 0x291F, 7, 7, .u8, .rw, .none, 0, some (0, 31), .any⟩,
  ⟨0x2900, 0x291F, 8, 8, .u16, .rw, .none, 24, some (1, 4096), .any⟩,
  ⟨0x2900, 0x291F, 9, 9, .f32, .rw, .none, 0x44FA0000, some (1000, 20000), .any⟩,
  ⟨0x2900, 0x291F, 10, 10, .u32, .rw, .none, 32000, none, .any⟩,
  ⟨0x2900, 0x291F, 11, 11, .u32, .rw, .none, 28000, some (1024, 28000), .any⟩,
  ⟨0x2900, 0x291F, 12, 12, .u8, .rw, .none, 224, some (128, 240), .any⟩,
  ⟨0x2900, 0x291F, 13, 13, .u8, .rw, .none, 32, some (8, 64), .any⟩,
  ⟨0x2900, 0x291F, 14, 14, .u32, .rw, .none, 4096, some (256, 65536), .any⟩,
  ⟨0x2900, 0x291F, 15, 15, .u8, .rw, .none, 32, some (8, 255), .any⟩,
  ⟨0x2900, 0x291F, 16, 16, .u32, .rw, .none, 16384, some (0, 262144), .any⟩,
  ⟨0x2900, 0x291F, 17, 17, .u16, .rw, .none, 1311, some (66, 6554), .any⟩,
  ⟨0x2900, 0x291F, 18, 18, .u32, .rw, .none, 16384, some (1024, 131072), .any⟩,
  ⟨0x2900, 0x291F, 19, 19, .u16, .rw, .none, 256, some (64, 4096), .any⟩,
  ⟨0x2900, 0x291F, 20, 20, .f32, .rw, .none, 0x43FA0000, some (100, 100000), .any⟩,
  ⟨0x2900, 0x291F, 21, 21, .f32, .rw, .none, 0x44B88C00, some (1000, 20000), .any⟩,
  ⟨0x2900, 0x291F, 22, 22, .u32, .rw, .none, 10000, some (100, 120000), .any⟩,
  ⟨0x2900, 0x291F, 23, 23, .u16, .rw, .none, 64, some (16, 4096), .any⟩,
  ⟨0x2900, 0x291F, 24, 24, .u16, .rw, .none, 32, some (1, 4096), .any⟩,
  ⟨0x2900, 0x291F, 25, 26, .i32, .ro, .tpdo, 0, none, .any⟩,
  ⟨0x2900, 0x291F, 27, 28, .i32, .ro, .tpdo, 0x80000000, none, .any⟩,
  ⟨0x2900, 0x291F, 29, 29, .f32, .ro, .tpdo, 0, none, .any⟩,
  ⟨0x2900, 0x291F, 30, 34, .u32, .ro, .none, 0, none, .any⟩,
  ⟨0x2900, 0x291F, 35, 50, .i16, .ro, .none, 0, none, .any⟩]

/-- Object rows (ch8). -/
def objRows11 : List Obj := [
  ⟨0x2A00, 0x2A1F, 0, 0, .u8, .const, .none, 50, none, .any⟩,
  ⟨0x2A00, 0x2A1F, 1, 1, .u8, .wo, .rpdo, 0, none, .any⟩,
  ⟨0x2A00, 0x2A1F, 2, 2, .u8, .ro, .tpdo, 1, none, .any⟩,
  ⟨0x2A00, 0x2A1F, 3, 3, .u8, .rw, .none, 0, some (0, 1), .any⟩,
  ⟨0x2A00, 0x2A1F, 4, 4, .u16, .rws, .none, 1024, some (1, 4096), .preOp⟩,
  ⟨0x2A00, 0x2A1F, 5, 5, .u16, .rw, .none, 100, some (10, 10000), .preOp⟩,
  ⟨0x2A00, 0x2A1F, 6, 6, .u16, .rws, .none, 1638, some (164, 8192), .preOp⟩,
  ⟨0x2A00, 0x2A1F, 7, 7, .u8, .rw, .none, 3, some (0, 7), .preOp⟩,
  ⟨0x2A00, 0x2A1F, 8, 8, .u8, .ro, .tpdo, 0, none, .any⟩,
  ⟨0x2A00, 0x2A1F, 9, 9, .u32, .ro, .none, 0, none, .any⟩,
  ⟨0x2A00, 0x2A1F, 10, 10, .u16, .ro, .none, 0, none, .any⟩,
  ⟨0x2A00, 0x2A1F, 11, 11, .u32, .ro, .none, 0, none, .any⟩,
  ⟨0x2A00, 0x2A1F, 12, 12, .u32, .ro, .tpdo, 0, none, .any⟩,
  ⟨0x2A00, 0x2A1F, 13, 18, .u32, .ro, .none, 0, none, .any⟩,
  ⟨0x2A00, 0x2A1F, 19, 50, .u16, .ro, .none, 65535, none, .any⟩]

/-- Object rows (ch9). -/
def objRows12 : List Obj := [
  ⟨0x3000, 0x303F, 0, 0, .u8, .const, .none, 22, none, .any⟩,
  ⟨0x3000, 0x303F, 1, 1, .u8, .wo, .rpdo, 0, none, .any⟩,
  ⟨0x3000, 0x303F, 2, 2, .u8, .ro, .tpdo, 0, none, .any⟩,
  ⟨0x3000, 0x303F, 3, 3, .i64, .rw, .rpdo, 0, none, .any⟩,
  ⟨0x3000, 0x303F, 4, 4, .i64, .rw, .none, 0x8000000000000000, none, .any⟩,
  ⟨0x3000, 0x303F, 5, 5, .f32, .rw, .rpdo, 0, none, .any⟩,
  ⟨0x3000, 0x303F, 6, 7, .f32, .rw, .none, 0, none, .any⟩,
  ⟨0x3000, 0x303F, 8, 9, .i64, .ro, .tpdo, 0, none, .any⟩,
  ⟨0x3000, 0x303F, 10, 10, .f32, .ro, .tpdo, 0, none, .any⟩,
  ⟨0x3000, 0x303F, 11, 11, .u16, .ro, .tpdo, 0, none, .any⟩,
  ⟨0x3000, 0x303F, 12, 12, .u8, .rw, .none, 255, none, .any⟩,
  ⟨0x3000, 0x303F, 13, 13, .u32, .rw, .none, 0xFFFFFFFF, none, .any⟩,
  ⟨0x3000, 0x303F, 14, 14, .u32, .rw, .none, 1000, none, .any⟩,
  ⟨0x3000, 0x303F, 15, 15, .u8, .rw, .none, 2, some (0, 7), .any⟩,
  ⟨0x3000, 0x303F, 16, 16, .u32, .rws, .none, 0, none, .any⟩,
  ⟨0x3000, 0x300F, 17, 17, .u64, .rw, .none, 0xC80A3204000000, none, .any⟩,
  ⟨0x3010, 0x303F, 17, 17, .u64, .rw, .none, 0xFA08000A014000, none, .any⟩,
  ⟨0x3000, 0x303F, 18, 18, .u16, .rws, .none, 4095, none, .any⟩,
  ⟨0x3000, 0x303F, 19, 19, .u32, .rw, .none, 4096, none, .any⟩,
  ⟨0x3000, 0x303F, 20, 20, .f32, .rw, .none, 0x40000000, none, .any⟩,
  ⟨0x3000, 0x303F, 21, 21, .f32, .rw, .none, 0, none, .any⟩,
  ⟨0x3000, 0x303F, 22, 22, .u32, .rw, .none, 0x640008, none, .any⟩,
  ⟨0x3100, 0x3117, 0, 0, .u8, .const, .none, 10, none, .any⟩,
  ⟨0x3100, 0x3117, 1, 1, .u8, .wo, .none, 0, none, .any⟩,
  ⟨0x3100, 0x3117, 2, 2, .u8, .ro, .tpdo, 0, none, .any⟩,
  ⟨0x3100, 0x3117, 3, 3, .i64, .ro, .tpdo, 0, none, .any⟩,
  ⟨0x3100, 0x3117, 4, 4, .i64, .rw, .none, 0, none, .any⟩,
  ⟨0x3100, 0x3117, 5, 5, .u64, .rw, .none, 0, none, .any⟩,
  ⟨0x3100, 0x3117, 6, 6, .i64, .ro, .none, 0, none, .any⟩,
  ⟨0x3100, 0x3117, 7, 8, .u32, .ro, .none, 0, none, .any⟩,
  ⟨0x3100, 0x3117, 9, 9, .u16, .ro, .none, 0, none, .any⟩,
  ⟨0x3100, 0x3117, 10, 10, .u16, .rw, .none, 3, none, .any⟩,
  ⟨0x311F, 0x311F, 0, 0, .u8, .const, .none, 6, none, .any⟩,
  ⟨0x311F, 0x311F, 1, 1, .u8, .rw, .none, 255, none, .any⟩,
  ⟨0x311F, 0x311F, 2, 2, .i64, .rw, .none, 0, none, .any⟩,
  ⟨0x311F, 0x311F, 3, 3, .u8, .rw, .none, 255, none, .any⟩,
  ⟨0x311F, 0x311F, 4, 4, .f32, .rw, .rpdo, 0, some (0, 472440), .any⟩,
  ⟨0x311F, 0x311F, 5, 5, .f32, .ro, .tpdo, 0, none, .any⟩,
  ⟨0x311F, 0x311F, 6, 6, .u32, .rw, .none, 23622, none, .any⟩]

/-- Object rows (ch10). -/
def objRows13 : List Obj := [
  ⟨0x3200, 0x33FF, 0, 0, .u8, .const, .none, 28, none, .any⟩,
  ⟨0x3200, 0x33FF, 1, 1, .u8, .wo, .rpdo, 0, none, .any⟩,
  ⟨0x3200, 0x33FF, 2, 2, .u16, .ro, .tpdo, 0, none, .any⟩,
  ⟨0x3200, 0x33FF, 3, 3, .u8, .rw, .none, 0, some (0, 3), .any⟩,
  ⟨0x3200, 0x33FF, 4, 5, .u32, .rw, .none, 0, none, .any⟩,
  ⟨0x3200, 0x33FF, 6, 8, .f32, .rw, .rpdo, 0, none, .any⟩,
  ⟨0x3200, 0x33FF, 9, 9, .f32, .rw, .none, 0x3F800000, none, .any⟩,
  ⟨0x3200, 0x33FF, 10, 12, .f32, .rw, .none, 0, none, .any⟩,
  ⟨0x3200, 0x33FF, 13, 13, .f32, .rw, .none, 0, some (0, 100), .any⟩,
  ⟨0x3200, 0x33FF, 14, 19, .f32, .rw, .none, 0, none, .any⟩,
  ⟨0x3200, 0x33FF, 20, 20, .f32, .rw, .none, 0, some (0, 100), .any⟩,
  ⟨0x3200, 0x33FF, 21, 23, .f32, .rw, .none, 0, none, .any⟩,
  ⟨0x3200, 0x33FF, 24, 25, .f32, .ro, .tpdo, 0, none, .any⟩,
  ⟨0x3200, 0x33FF, 26, 27, .u32, .ro, .none, 0, none, .any⟩,
  ⟨0x3200, 0x33FF, 28, 28, .f32, .ro, .none, 0, none, .any⟩,
  ⟨0x3400, 0x343F, 0, 0, .u8, .const, .none, 25, none, .any⟩,
  ⟨0x3400, 0x343F, 1, 1, .u8, .wo, .rpdo, 0, none, .any⟩,
  ⟨0x3400, 0x343F, 2, 2, .u8, .ro, .tpdo, 0, none, .any⟩,
  ⟨0x3400, 0x343F, 3, 4, .u8, .rw, .none, 0, some (0, 1), .any⟩,
  ⟨0x3400, 0x343F, 5, 5, .u32, .rw, .none, 0x186A0, some (10000, 1000000), .any⟩,
  ⟨0x3400, 0x343F, 6, 6, .u32, .rw, .none, 0x30D40, none, .any⟩,
  ⟨0x3400, 0x343F, 7, 7, .u16, .rw, .none, 460, some (1, 972), .any⟩,
  ⟨0x3400, 0x343F, 8, 8, .u16, .rw, .none, 100, some (20, 2000), .any⟩,
  ⟨0x3400, 0x343F, 9, 9, .u8, .rw, .none, 255, none, .any⟩,
  ⟨0x3400, 0x343F, 10, 10, .u16, .rw, .none, 8, none, .any⟩,
  ⟨0x3400, 0x343F, 11, 11, .f32, .rw, .rpdo, 0, none, .any⟩,
  ⟨0x3400, 0x343F, 12, 12, .f32, .rw, .none, 0, none, .any⟩,
  ⟨0x3400, 0x343F, 13, 13, .f32, .rw, .none, 0x447A0000, none, .any⟩,
  ⟨0x3400, 0x343F, 14, 14, .f32, .rw, .none, 0x42C80000, none, .any⟩,
  ⟨0x3400, 0x343F, 15, 15, .u8, .rw, .none, 5, none, .any⟩,
  ⟨0x3400, 0x343F, 16, 16, .u16, .rw, .none, 128, none, .any⟩,
  ⟨0x3400, 0x343F, 17, 18, .f32, .rws, .none, 0, none, .any⟩,
  ⟨0x3400, 0x343F, 19, 19, .f32, .rw, .none, 0, none, .any⟩,
  ⟨0x3400, 0x343F, 20, 20, .u16, .rw, .none, 20, some (1, 10000), .any⟩,
  ⟨0x3400, 0x343F, 21, 21, .u8, .rw, .none, 8, some (1, 255), .any⟩,
  ⟨0x3400, 0x343F, 22, 22, .u16, .rw, .none, 10, some (1, 3600), .any⟩,
  ⟨0x3400, 0x343F, 23, 24, .f32, .ro, .tpdo, 0, none, .any⟩,
  ⟨0x3400, 0x343F, 25, 25, .u32, .ro, .none, 0, none, .any⟩,
  ⟨0x3500, 0x351F, 0, 0, .u8, .const, .none, 26, none, .any⟩,
  ⟨0x3500, 0x351F, 1, 1, .u8, .wo, .rpdo, 0, none, .any⟩]

/-- Object rows (ch10). -/
def objRows14 : List Obj := [
  ⟨0x3500, 0x351F, 2, 3, .u8, .ro, .tpdo, 0, none, .any⟩,
  ⟨0x3500, 0x351F, 4, 4, .u8, .rw, .none, 0, some (0, 1), .any⟩,
  ⟨0x3500, 0x351F, 5, 5, .u32, .rw, .none, 0x640000, none, .any⟩,
  ⟨0x3500, 0x351F, 6, 6, .u32, .rw, .none, 0, none, .any⟩,
  ⟨0x3500, 0x351F, 7, 7, .dom, .rw, .none, 0, none, .any⟩,
  ⟨0x3500, 0x351F, 8, 9, .f32, .rw, .none, 0, none, .any⟩,
  ⟨0x3500, 0x351F, 10, 10, .u16, .rw, .none, 100, some (10, 1000), .any⟩,
  ⟨0x3500, 0x351F, 11, 11, .u8, .rw, .none, 255, none, .any⟩,
  ⟨0x3500, 0x351F, 12, 12, .f32, .rw, .rpdo, 0, none, .any⟩,
  ⟨0x3500, 0x351F, 13, 13, .f32, .rw, .none, 0, none, .any⟩,
  ⟨0x3500, 0x351F, 14, 14, .f32, .rw, .none, 0x40000000, some (1, 500), .any⟩,
  ⟨0x3500, 0x351F, 15, 15, .f32, .rw, .none, 0x40400000, some (5, 500), .any⟩,
  ⟨0x3500, 0x351F, 16, 16, .u16, .rw, .none, 2000, some (0, 60000), .any⟩,
  ⟨0x3500, 0x351F, 17, 17, .f32, .rws, .none, 0x41200000, none, .any⟩,
  ⟨0x3500, 0x351F, 18, 18, .f32, .rws, .none, 0, none, .any⟩,
  ⟨0x3500, 0x351F, 19, 19, .u16, .rws, .none, 1024, some (0, 1024), .any⟩,
  ⟨0x3500, 0x351F, 20, 20, .u16, .rw, .none, 30, some (5, 600), .any⟩,
  ⟨0x3500, 0x351F, 21, 21, .f32, .rw, .none, 0x40000000, none, .any⟩,
  ⟨0x3500, 0x351F, 22, 23, .f32, .ro, .tpdo, 0, none, .any⟩,
  ⟨0x3500, 0x351F, 24, 24, .u32, .ro, .none, 0, none, .any⟩,
  ⟨0x3500, 0x351F, 25, 25, .u16, .rw, .none, 200, some (0, 2000), .any⟩,
  ⟨0x3500, 0x351F, 26, 26, .u32, .ro, .none, 0, none, .any⟩]

/-- Object rows (ch11). -/
def objRows15 : List Obj := [
  ⟨0x3800, 0x3800, 0, 0, .u8, .const, .none, 5, none, .any⟩,
  ⟨0x3800, 0x3800, 1, 2, .u64, .ro, .tpdo, 0, none, .any⟩,
  ⟨0x3800, 0x3800, 3, 3, .i64, .ro, .none, 0, none, .any⟩,
  ⟨0x3800, 0x3800, 4, 4, .i32, .ro, .none, 0, none, .any⟩,
  ⟨0x3800, 0x3800, 5, 5, .u16, .ro, .none, 0, none, .any⟩,
  ⟨0x3801, 0x3801, 0, 0, .u8, .const, .none, 8, none, .any⟩,
  ⟨0x3801, 0x3801, 1, 8, .u16, .ro, .tpdo, 0, none, .any⟩,
  ⟨0x3804, 0x3804, 0, 0, .u8, .const, .none, 2, none, .any⟩,
  ⟨0x3804, 0x3804, 1, 1, .u16, .rw, .none, 100, some (20, 1000), .preOp⟩,
  ⟨0x3804, 0x3804, 2, 2, .u16, .rw, .none, 256, some (16, 4096), .preOp⟩,
  ⟨0x3808, 0x380F, 0, 0, .u8, .const, .none, 14, none, .any⟩,
  ⟨0x3808, 0x380F, 1, 1, .u32, .rw, .none, 0x20000000, some (469762048, 603979776), .any⟩,
  ⟨0x3808, 0x380F, 2, 2, .u32, .rw, .none, 0x80000001, none, .any⟩,
  ⟨0x3808, 0x380F, 3, 7, .u64, .rw, .none, 0x640000000, some (134217728, 281474976710655), .any⟩,
  ⟨0x3808, 0x380F, 8, 12, .u64, .ro, .none, 0x640000000, none, .any⟩,
  ⟨0x3808, 0x380F, 13, 13, .u8, .rw, .none, 0, some (0, 31), .any⟩,
  ⟨0x3808, 0x380F, 14, 14, .u8, .wo, .rpdo, 0, none, .any⟩,
  ⟨0x3810, 0x3810, 0, 0, .u8, .const, .none, 2, none, .any⟩,
  ⟨0x3810, 0x3810, 1, 2, .u64, .ro, .none, 0, none, .any⟩]

/-- Object rows (ch12). -/
def objRows16 : List Obj := [
  ⟨0x3900, 0x3900, 0, 0, .u8, .const, .none, 6, none, .any⟩,
  ⟨0x3900, 0x3900, 1, 2, .u16, .rw, .none, 0, some (0, 1023), .preOp⟩,
  ⟨0x3900, 0x3900, 3, 3, .u8, .rw, .none, 3, some (0, 3), .any⟩,
  ⟨0x3900, 0x3900, 4, 5, .i16, .rw, .none, 0, some (-10000, 10000), .any⟩,
  ⟨0x3900, 0x3900, 6, 6, .u8, .rw, .none, 0, some (0, 1), .preOp⟩,
  ⟨0x3901, 0x3901, 0, 0, .u8, .const, .none, 10, none, .any⟩,
  ⟨0x3901, 0x3901, 1, 1, .u8, .ro, .tpdo, 0, none, .any⟩,
  ⟨0x3901, 0x3901, 2, 3, .u16, .ro, .tpdo, 0, none, .any⟩,
  ⟨0x3901, 0x3901, 4, 5, .u16, .ro, .none, 1, none, .any⟩,
  ⟨0x3901, 0x3901, 6, 7, .u8, .ro, .tpdo, 0, none, .any⟩,
  ⟨0x3901, 0x3901, 8, 8, .u16, .ro, .none, 0, none, .any⟩,
  ⟨0x3901, 0x3901, 9, 9, .u8, .ro, .tpdo, 0, none, .any⟩,
  ⟨0x3901, 0x3901, 10, 10, .i32, .ro, .none, 0, none, .any⟩,
  ⟨0x3902, 0x3902, 0, 0, .dom, .ro, .none, 0, none, .any⟩,
  ⟨0x3903, 0x3903, 0, 0, .u8, .const, .none, 3, none, .any⟩,
  ⟨0x3903, 0x3903, 1, 3, .u32, .ro, .none, 0, none, .any⟩,
  ⟨0x3908, 0x3908, 0, 0, .u8, .const, .none, 8, none, .any⟩,
  ⟨0x3908, 0x3908, 1, 1, .u16, .rw, .none, 0, some (0, 1023), .any⟩,
  ⟨0x3908, 0x3908, 2, 2, .u16, .rw, .none, 0, none, .any⟩,
  ⟨0x3908, 0x3908, 3, 3, .u8, .rw, .none, 0, none, .any⟩,
  ⟨0x3908, 0x3908, 4, 4, .u8, .rw, .none, 1, some (1, 2), .any⟩,
  ⟨0x3908, 0x3908, 5, 5, .dom, .rw, .none, 0, none, .any⟩,
  ⟨0x3908, 0x3908, 6, 6, .u8, .wo, .none, 0, none, .any⟩,
  ⟨0x3908, 0x3908, 7, 7, .u8, .ro, .none, 0, none, .any⟩,
  ⟨0x3908, 0x3908, 8, 8, .u32, .ro, .none, 0, none, .any⟩]

/-- Object rows (ch13). -/
def objRows17 : List Obj := [
  ⟨0x4000, 0x4000, 0, 0, .u8, .const, .none, 10, none, .any⟩,
  ⟨0x4000, 0x4000, 1, 1, .u32, .ro, .tpdo, 0, none, .any⟩,
  ⟨0x4000, 0x4000, 2, 2, .u32, .ro, .none, 0, none, .any⟩,
  ⟨0x4000, 0x4000, 3, 3, .u8, .wo, .rpdo, 0, none, .any⟩,
  ⟨0x4000, 0x4000, 4, 4, .u32, .ro, .none, 0, none, .any⟩,
  ⟨0x4000, 0x4000, 5, 5, .u64, .ro, .none, 0, none, .any⟩,
  ⟨0x4000, 0x4000, 6, 6, .u16, .rws, .none, 512, some (0, 1023), .any⟩,
  ⟨0x4000, 0x4000, 7, 7, .u8, .rws, .none, 0, none, .any⟩,
  ⟨0x4000, 0x4000, 8, 8, .u16, .rws, .none, 100, some (1, 1000), .any⟩,
  ⟨0x4000, 0x4000, 9, 9, .u16, .rws, .none, 100, some (10, 10000), .any⟩,
  ⟨0x4000, 0x4000, 10, 10, .u16, .ro, .tpdo, 0, none, .any⟩,
  ⟨0x4008, 0x4008, 0, 0, .u8, .const, .none, 4, none, .any⟩,
  ⟨0x4008, 0x4008, 1, 1, .u32, .wo, .none, 0, none, .any⟩,
  ⟨0x4008, 0x4008, 2, 2, .u8, .ro, .tpdo, 0, none, .any⟩,
  ⟨0x4008, 0x4008, 3, 3, .u64, .ro, .none, 0, none, .any⟩,
  ⟨0x4008, 0x4008, 4, 4, .u32, .ro, .none, 0, none, .any⟩,
  ⟨0x4010, 0x4010, 1, 8, .u16, .ro, .none, 0, none, .any⟩,
  ⟨0x4011, 0x4011, 1, 8, .u8, .ro, .none, 0, none, .any⟩,
  ⟨0x4012, 0x4012, 1, 64, .u16, .ro, .none, 0, none, .any⟩,
  ⟨0x4013, 0x4013, 1, 64, .u16, .ro, .none, 0, none, .any⟩,
  ⟨0x4014, 0x4014, 1, 32, .u16, .ro, .none, 0, none, .any⟩,
  ⟨0x4015, 0x4015, 1, 32, .u16, .ro, .none, 0, none, .any⟩,
  ⟨0x4016, 0x4016, 1, 64, .u32, .ro, .none, 0, none, .any⟩,
  ⟨0x4017, 0x4017, 0, 0, .dom, .ro, .none, 0, none, .any⟩,
  ⟨0x4018, 0x4018, 0, 0, .u8, .const, .none, 5, none, .any⟩,
  ⟨0x4018, 0x4018, 1, 1, .u16, .rw, .none, 0, some (16400, 16406), .any⟩,
  ⟨0x4018, 0x4018, 2, 2, .u8, .rw, .none, 0, none, .any⟩,
  ⟨0x4018, 0x4018, 3, 3, .u32, .rw, .none, 0, none, .any⟩,
  ⟨0x4018, 0x4018, 4, 4, .u32, .wo, .none, 0, none, .any⟩,
  ⟨0x4018, 0x4018, 5, 5, .u32, .ro, .none, 0, none, .any⟩,
  ⟨0x4100, 0x4100, 0, 0, .u8, .const, .none, 8, none, .any⟩,
  ⟨0x4100, 0x4100, 1, 1, .u8, .ro, .tpdo, 0, none, .any⟩,
  ⟨0x4100, 0x4100, 2, 2, .u8, .wo, .rpdo, 0, none, .any⟩,
  ⟨0x4100, 0x4100, 3, 6, .u32, .ro, .none, 0, none, .any⟩,
  ⟨0x4100, 0x4100, 7, 7, .u32, .ro, .tpdo, 0, none, .any⟩,
  ⟨0x4100, 0x4100, 8, 8, .u8, .wo, .none, 0, none, .any⟩,
  ⟨0x4101, 0x4101, 0, 0, .dom, .ro, .none, 0, none, .any⟩,
  ⟨0x4102, 0x4102, 0, 0, .dom, .ro, .none, 0, none, .any⟩,
  ⟨0x4104, 0x4104, 1, 8, .u8, .ro, .tpdo, 0, none, .any⟩,
  ⟨0x4105, 0x4105, 0, 0, .u8, .ro, .tpdo, 0, none, .any⟩]

/-- Object rows (ch13). -/
def objRows18 : List Obj := [
  ⟨0x4108, 0x4108, 0, 0, .u8, .const, .none, 4, none, .any⟩,
  ⟨0x4108, 0x4108, 1, 1, .u32, .rw, .none, 0, none, .any⟩,
  ⟨0x4108, 0x4108, 2, 2, .u8, .wo, .none, 0, none, .any⟩,
  ⟨0x4108, 0x4108, 3, 3, .u8, .ro, .none, 0, none, .any⟩,
  ⟨0x4108, 0x4108, 4, 4, .u32, .ro, .none, 0, none, .any⟩,
  ⟨0x4109, 0x4109, 0, 0, .dom, .const, .none, 0, none, .any⟩]

/-- Object rows (ch14). -/
def objRows19 : List Obj := [
  ⟨0x4200, 0x4200, 0, 0, .u8, .const, .none, 9, none, .any⟩,
  ⟨0x4200, 0x4200, 1, 1, .u8, .wo, .none, 0, none, .any⟩,
  ⟨0x4200, 0x4200, 2, 2, .u8, .rw, .none, 1, some (0, 7), .any⟩,
  ⟨0x4200, 0x4200, 3, 3, .u8, .rw, .none, 1, some (0, 1), .any⟩,
  ⟨0x4200, 0x4200, 4, 4, .u64, .rw, .none, 0, none, .any⟩,
  ⟨0x4200, 0x4200, 5, 5, .u8, .ro, .none, 0, none, .any⟩,
  ⟨0x4200, 0x4200, 6, 6, .u32, .ro, .none, 0, none, .any⟩,
  ⟨0x4200, 0x4200, 7, 8, .u64, .ro, .none, 0, none, .any⟩,
  ⟨0x4200, 0x4200, 9, 9, .u16, .rw, .none, 60, some (10, 3600), .any⟩,
  ⟨0x4201, 0x4208, 0, 0, .u8, .const, .none, 10, none, .any⟩,
  ⟨0x4201, 0x4201, 1, 1, .u8, .rw, .none, 1, some (0, 6), .preOp⟩,
  ⟨0x4202, 0x4202, 1, 1, .u8, .rw, .none, 1, some (0, 6), .preOp⟩,
  ⟨0x4203, 0x4203, 1, 1, .u8, .rw, .none, 4, some (0, 6), .preOp⟩,
  ⟨0x4204, 0x4204, 1, 1, .u8, .rw, .none, 4, some (0, 6), .preOp⟩,
  ⟨0x4205, 0x4205, 1, 1, .u8, .rw, .none, 1, some (0, 6), .preOp⟩,
  ⟨0x4206, 0x4206, 1, 1, .u8, .rw, .none, 1, some (0, 6), .preOp⟩,
  ⟨0x4207, 0x4207, 1, 1, .u8, .rw, .none, 0, some (0, 6), .preOp⟩,
  ⟨0x4208, 0x4208, 1, 1, .u8, .rw, .none, 0, some (0, 6), .preOp⟩,
  ⟨0x4201, 0x4201, 2, 2, .u8, .rw, .none, 0, some (0, 7), .preOp⟩,
  ⟨0x4202, 0x4202, 2, 2, .u8, .rw, .none, 1, some (0, 7), .preOp⟩,
  ⟨0x4203, 0x4203, 2, 2, .u8, .rw, .none, 1, some (0, 7), .preOp⟩,
  ⟨0x4204, 0x4204, 2, 2, .u8, .rw, .none, 2, some (0, 7), .preOp⟩,
  ⟨0x4205, 0x4205, 2, 2, .u8, .rw, .none, 3, some (0, 7), .preOp⟩,
  ⟨0x4206, 0x4206, 2, 2, .u8, .rw, .none, 3, some (0, 7), .preOp⟩,
  ⟨0x4207, 0x4207, 2, 2, .u8, .rw, .none, 0, some (0, 7), .preOp⟩,
  ⟨0x4208, 0x4208, 2, 2, .u8, .rw, .none, 0, some (0, 7), .preOp⟩,
  ⟨0x4201, 0x4208, 3, 3, .u16, .rw, .none, 0, none, .preOp⟩,
  ⟨0x4201, 0x4208, 4, 4, .u16, .rw, .none, 10, some (1, 1000), .preOp⟩,
  ⟨0x4201, 0x4201, 5, 5, .u8, .rw, .none, 142, none, .preOp⟩,
  ⟨0x4202, 0x4202, 5, 5, .u8, .rw, .none, 171, none, .preOp⟩,
  ⟨0x4203, 0x4203, 5, 5, .u8, .rw, .none, 200, none, .preOp⟩,
  ⟨0x4204, 0x4204, 5, 5, .u8, .rw, .none, 95, none, .preOp⟩,
  ⟨0x4205, 0x4205, 5, 5, .u8, .rw, .none, 171, none, .preOp⟩,
  ⟨0x4206, 0x4206, 5, 5, .u8, .rw, .none, 171, none, .preOp⟩,
  ⟨0x4207, 0x4207, 5, 5, .u8, .rw, .none, 0, none, .preOp⟩,
  ⟨0x4208, 0x4208, 5, 5, .u8, .rw, .none, 0, none, .preOp⟩,
  ⟨0x4201, 0x4201, 6, 6, .u8, .rw, .none, 158, none, .preOp⟩,
  ⟨0x4202, 0x4202, 6, 6, .u8, .rw, .none, 189, none, .preOp⟩,
  ⟨0x4203, 0x4203, 6, 6, .u8, .rw, .none, 220, none, .preOp⟩,
  ⟨0x4204, 0x4204, 6, 6, .u8, .rw, .none, 105, none, .preOp⟩]

/-- Object rows (ch14). -/
def objRows20 : List Obj := [
  ⟨0x4205, 0x4205, 6, 6, .u8, .rw, .none, 189, none, .preOp⟩,
  ⟨0x4206, 0x4206, 6, 6, .u8, .rw, .none, 189, none, .preOp⟩,
  ⟨0x4207, 0x4207, 6, 6, .u8, .rw, .none, 0, none, .preOp⟩,
  ⟨0x4208, 0x4208, 6, 6, .u8, .rw, .none, 0, none, .preOp⟩,
  ⟨0x4201, 0x4208, 7, 7, .u8, .rw, .none, 20, none, .preOp⟩,
  ⟨0x4201, 0x4208, 8, 8, .u16, .rw, .none, 20, some (1, 1000), .preOp⟩,
  ⟨0x4201, 0x4208, 9, 9, .u16, .rw, .none, 2, some (1, 1000), .preOp⟩,
  ⟨0x4201, 0x4208, 10, 10, .u8, .ro, .tpdo, 0, none, .any⟩,
  ⟨0x4210, 0x4210, 0, 0, .dom, .ro, .none, 0, none, .any⟩,
  ⟨0x4211, 0x4211, 0, 0, .dom, .ro, .none, 0, none, .any⟩,
  ⟨0x4212, 0x4212, 0, 0, .dom, .ro, .none, 0, none, .any⟩,
  ⟨0x4220, 0x4220, 0, 0, .u8, .const, .none, 8, none, .any⟩,
  ⟨0x4220, 0x4220, 1, 1, .f32, .rw, .none, 0x42C80000, some (700, 1100), .any⟩,
  ⟨0x4220, 0x4220, 2, 2, .f32, .rws, .none, 0x42E60000, some (900, 1200), .any⟩,
  ⟨0x4220, 0x4220, 3, 3, .f32, .rws, .none, 0x42D20000, none, .any⟩,
  ⟨0x4220, 0x4220, 4, 4, .f32, .rw, .none, 0x46388C00, some (10000, 472440), .any⟩,
  ⟨0x4220, 0x4220, 5, 5, .f32, .ro, .tpdo, 0, none, .any⟩,
  ⟨0x4220, 0x4220, 6, 6, .u8, .rw, .none, 12, some (0, 16), .any⟩,
  ⟨0x4220, 0x4220, 7, 7, .u16, .rw, .none, 10, some (1, 1000), .any⟩,
  ⟨0x4220, 0x4220, 8, 8, .dom, .rw, .none, 0, none, .any⟩,
  ⟨0x4221, 0x4221, 1, 8, .f32, .ro, .tpdo, 0, none, .any⟩,
  ⟨0x4222, 0x4222, 1, 8, .u16, .ro, .tpdo, 0, none, .any⟩,
  ⟨0x4223, 0x4223, 1, 8, .f32, .ro, .tpdo, 0, none, .any⟩,
  ⟨0x4224, 0x4224, 1, 8, .u32, .ro, .none, 0, none, .any⟩]

/-- Object rows (ch16). -/
def objRows21 : List Obj := [
  ⟨0x4300, 0x4300, 0, 0, .u8, .const, .none, 7, none, .any⟩,
  ⟨0x4300, 0x4300, 1, 1, .u32, .ro, .none, 0, none, .any⟩,
  ⟨0x4300, 0x4300, 2, 2, .u8, .ro, .none, 0, none, .any⟩,
  ⟨0x4300, 0x4300, 3, 3, .u32, .ro, .none, 0, none, .any⟩,
  ⟨0x4300, 0x4300, 4, 4, .u32, .rw, .none, 0, none, .any⟩,
  ⟨0x4300, 0x4300, 5, 5, .u8, .wo, .none, 0, none, .any⟩,
  ⟨0x4300, 0x4300, 6, 6, .dom, .rw, .none, 0, none, .any⟩,
  ⟨0x4300, 0x4300, 7, 7, .u8, .ro, .none, 0, none, .any⟩,
  ⟨0x4310, 0x4310, 0, 0, .u8, .const, .none, 5, none, .any⟩,
  ⟨0x4310, 0x4310, 1, 1, .u16, .wo, .none, 0, none, .any⟩,
  ⟨0x4310, 0x4310, 2, 2, .u8, .wo, .none, 0, none, .any⟩,
  ⟨0x4310, 0x4310, 3, 4, .u32, .ro, .none, 0, none, .any⟩,
  ⟨0x4310, 0x4310, 5, 5, .u16, .ro, .none, 0, none, .any⟩,
  ⟨0x4320, 0x4320, 0, 0, .u8, .const, .none, 7, none, .any⟩,
  ⟨0x4320, 0x4320, 1, 4, .u8, .ro, .none, 0, none, .any⟩,
  ⟨0x4320, 0x4320, 5, 5, .u8, .wo, .none, 0, none, .any⟩,
  ⟨0x4320, 0x4320, 6, 6, .u8, .ro, .none, 0, none, .any⟩,
  ⟨0x4320, 0x4320, 7, 7, .u16, .ro, .none, 0, none, .any⟩,
  ⟨0x4330, 0x4330, 0, 0, .u8, .const, .none, 7, none, .any⟩,
  ⟨0x4330, 0x4330, 1, 1, .u8, .wo, .none, 0, none, .any⟩,
  ⟨0x4330, 0x4330, 2, 2, .u32, .rw, .none, 0, none, .any⟩,
  ⟨0x4330, 0x4330, 3, 3, .u8, .ro, .tpdo, 0, none, .any⟩,
  ⟨0x4330, 0x4330, 4, 4, .dom, .wo, .none, 0, none, .any⟩,
  ⟨0x4330, 0x4330, 5, 5, .u16, .ro, .none, 0, none, .any⟩,
  ⟨0x4330, 0x4330, 6, 6, .dom, .ro, .none, 0, none, .any⟩,
  ⟨0x4330, 0x4330, 7, 7, .u8, .ro, .none, 0, none, .any⟩]

/-- Object rows (ch15 trace). -/
def objRows22 : List Obj := [
  ⟨0x4400, 0x4400, 0, 0, .u8, .const, .none, 6, none, .any⟩,
  ⟨0x4400, 0x4400, 1, 1, .u8, .rw, .none, 1, some (0, 1), .any⟩,
  ⟨0x4400, 0x4400, 2, 2, .u16, .rw, .none, 65342, none, .any⟩,
  ⟨0x4400, 0x4400, 3, 3, .u8, .rw, .none, 0, some (0, 1), .any⟩,
  ⟨0x4400, 0x4400, 4, 5, .u32, .ro, .none, 0, none, .any⟩,
  ⟨0x4400, 0x4400, 6, 6, .u32, .const, .none, 0x400000, none, .any⟩,
  ⟨0x4401, 0x4401, 0, 0, .u8, .const, .none, 2, none, .any⟩,
  ⟨0x4401, 0x4401, 1, 1, .u32, .rw, .none, 0, none, .any⟩,
  ⟨0x4401, 0x4401, 2, 2, .u32, .ro, .none, 0, none, .any⟩,
  ⟨0x4402, 0x4402, 0, 0, .dom, .ro, .none, 0, none, .any⟩]

/-- Object rows (ch17). -/
def objRows23 : List Obj := [
  ⟨0x5000, 0x50DF, 0, 0, .u8, .const, .none, 4, none, .any⟩,
  ⟨0x5000, 0x50DF, 1, 1, .u32, .rw, .none, 0, none, .any⟩,
  ⟨0x5000, 0x50DF, 2, 2, .u8, .rw, .none, 0, none, .any⟩,
  ⟨0x5000, 0x50DF, 3, 3, .u8, .ro, .tpdo, 0, none, .any⟩,
  ⟨0x5000, 0x50DF, 4, 4, .u8, .rw, .rpdo, 0, some (0, 3), .any⟩,
  ⟨0x3118, 0x3118, 1, 64, .u32, .rw, .none, 0x1F000000, none, .any⟩,
  ⟨0x3119, 0x3119, 1, 64, .dom, .ro, .none, 0, none, .any⟩,
  ⟨0x311A, 0x311A, 1, 64, .u64, .rw, .none, 1, none, .any⟩,
  ⟨0x311B, 0x311B, 1, 64, .i64, .rw, .none, 0, none, .any⟩,
  ⟨0x311C, 0x311C, 1, 64, .i64, .rw, .none, 0, none, .any⟩,
  ⟨0x311D, 0x311D, 1, 64, .dom, .wo, .none, 0, none, .any⟩,
  ⟨0x311E, 0x311E, 1, 64, .u64, .ro, .none, 0, none, .any⟩]

/-- Every object row. -/
def objTable : List Obj :=
  objRows1 ++ objRows2 ++ objRows3 ++ objRows4 ++ objRows5 ++ objRows6 ++ objRows7 ++ objRows8 ++ objRows9 ++ objRows10 ++ objRows11 ++ objRows12 ++ objRows13 ++ objRows14 ++ objRows15 ++ objRows16 ++ objRows17 ++ objRows18 ++ objRows19 ++ objRows20 ++ objRows21 ++ objRows22 ++ objRows23

/-- The row of an object. -/
def findObj (index sub : Nat) : Option Obj :=
  objTable.find? fun o => decide (o.lo ≤ index) && decide (index ≤ o.hi) && decide (o.subLo ≤ sub) && decide (sub ≤ o.subHi)

/-- Whether any row has the index. -/
def indexListed (index : Nat) : Bool :=
  objTable.any fun o => decide (o.lo ≤ index) && decide (index ≤ o.hi)

/-- Default image of an object; 0 where it has none. -/
def objDefault (index sub : Nat) : Nat :=
  match findObj index sub with
  | some o => o.dflt
  | none => 0

end Sys2Proof.Machine
end

