-- ==== Sys2Proof/Machine/Real.lean ====
section
/-! DEFINITION. REAL32, the IEEE 754 binary32 format (R452), as raw images read and written through exact
rationals. Rounding is to nearest, ties to even: PRESUMED, the spec states no rounding. -/

namespace Sys2Proof.Machine

/-- The value of an image; none for a NaN or an infinity. -/
def realVal (v : Nat) : Option Rat :=
  let e := bits v 30 23
  let m := bits v 22 0
  let sg : Rat := if bit v 31 then -1 else 1
  if e = 255 then none
  else if e = 0 then some (sg * m / (2 ^ 149 : Nat))
  else
    let mm : Nat := m + 2 ^ 23
    if 150 ≤ e then some (sg * ((mm * 2 ^ (e - 150) : Nat) : Rat))
    else some (sg * mm / ((2 ^ (150 - e) : Nat) : Rat))

/-- Whether an image is a NaN or an infinity (R452). -/
def realBad (v : Nat) : Bool := decide (bits v 30 23 = 255)

/-- The value of an image that is neither, 0 otherwise. -/
def realOr0 (v : Nat) : Rat := (realVal v).getD 0

/-- Quotient rounded to nearest, ties to even. -/
def rneDiv (n d : Nat) : Nat :=
  let q := n / d
  let r := n % d
  if 2 * r < d then q else if d < 2 * r then q + 1 else if q % 2 = 0 then q else q + 1

/-- Image of a positive quotient n/d. -/
def realPos (n d : Nat) : Nat :=
  let e0 : Int := (Nat.log2 n : Int) - Nat.log2 d
  let below : Bool := if 0 ≤ e0 then decide (n < d * 2 ^ e0.toNat) else decide (n * 2 ^ (-e0).toNat < d)
  let e1 : Int := if below then e0 - 1 else e0
  let e : Int := if e1 < -126 then -126 else e1
  let sh : Int := 23 - e
  let m := if 0 ≤ sh then rneDiv (n * 2 ^ sh.toNat) d else rneDiv n (d * 2 ^ (-sh).toNat)
  let m2 := if m = 2 ^ 24 then 2 ^ 23 else m
  let e2 : Int := if m = 2 ^ 24 then e + 1 else e
  if 127 < e2 then 0x7F800000
  else if m2 < 2 ^ 23 then m2
  else (e2 + 127).toNat * 2 ^ 23 + (m2 - 2 ^ 23)

/-- Image nearest to a rational. -/
def realOf (q : Rat) : Nat :=
  if q.num = 0 then 0
  else if q.num < 0 then 2 ^ 31 + realPos q.num.natAbs q.den
  else realPos q.num.natAbs q.den

/-- The nearest REAL32 value of a rational, none on overflow: one rounded operation of R304. -/
def realRound (q : Rat) : Option Rat := realVal (realOf q)

/-- Floor of a rational. -/
def ratFloor (q : Rat) : Int := q.num / (q.den : Int)

/-- Magnitude of a rational. -/
def ratAbs (q : Rat) : Rat := if q < 0 then -q else q

/-- A rational number of line units as a position in 1/65,536, rounded down. -/
def ratPos (q : Rat) : Int := ratFloor (q * 65536)

end Sys2Proof.Machine
end

