-- ==== Sys2Proof/Machine/Units/Base.lean ====
section
/-! DEFINITION. The variants, the abort codes and the records of what the part sends to the outside. -/

namespace Sys2Proof.Machine

/-- The variants of Table 0-1. -/
inductive Variant where
  | yk8c | yk4c | yk4n | yk2c | yk2n
deriving DecidableEq, Repr

/-- Dies fitted (Table 0-1). -/
def Variant.dies : Variant → Nat
  | .yk8c => 8
  | .yk4c => 4
  | .yk4n => 4
  | .yk2c => 2
  | .yk2n => 2

/-- Whether the variant has a codec (Table 0-1, R6). -/
def Variant.codec : Variant → Bool
  | .yk8c => true
  | .yk4c => true
  | .yk4n => false
  | .yk2c => true
  | .yk2n => false

/-- Memory channels fitted (Table 0-1). -/
def Variant.channels : Variant → Nat
  | .yk8c => 2
  | .yk4c => 2
  | .yk4n => 2
  | .yk2c => 2
  | .yk2n => 1

/-- The value of 0x2000:1. -/
def Variant.number : Variant → Nat
  | .yk8c => 1
  | .yk4c => 2
  | .yk4n => 3
  | .yk2c => 4
  | .yk2n => 5

/-- The abort codes the part draws (Tables 15-4 and 15-5), and no others (R453). -/
inductive Abort where
  | usdoTimeout | unknownCommand | readOfWo | writeOfRo | noObject | notMappable | mappingTooLong
  | lengthMismatch | lengthHigh | lengthLow | noSub | invalid | leadMove | state | noData
  | noSuchUnit | panelIllegal | isSealed | slewLimit | meshRange | seatUnreachable
  | imageIncomplete | imageVerification | journalFull
deriving DecidableEq, Repr

/-- The 32-bit code of an abort (Tables 15-4 and 15-5). -/
def Abort.code : Abort → Nat
  | .usdoTimeout => 0x05040000
  | .unknownCommand => 0x05040001
  | .readOfWo => 0x06010001
  | .writeOfRo => 0x06010002
  | .noObject => 0x06020000
  | .notMappable => 0x06040041
  | .mappingTooLong => 0x06040042
  | .lengthMismatch => 0x06070010
  | .lengthHigh => 0x06070012
  | .lengthLow => 0x06070013
  | .noSub => 0x06090011
  | .invalid => 0x06090030
  | .leadMove => 0x08000020
  | .state => 0x08000022
  | .noData => 0x08000024
  | .noSuchUnit => 0x080000A0
  | .panelIllegal => 0x080000A1
  | .isSealed => 0x080000A2
  | .slewLimit => 0x080000A3
  | .meshRange => 0x080000A4
  | .seatUnreachable => 0x080000A5
  | .imageIncomplete => 0x080000A6
  | .imageVerification => 0x080000A7
  | .journalFull => 0x080000A8

/-- What the part sends or drives, by kind. The unit is a host address, vector, scanner, port, axis or output as
the kind needs; the data are the fields in the order of the spec's layout. -/
inductive OutKind where
  /-- Bytes written to host memory (unit: address). -/
  | hostWrite
  /-- Single bytes written to host memory (unit: address). -/
  | hostBytes
  /-- A completion with Unsupported Request for a BAR access (unit: BAR; data: offset, size). -/
  | unsupported
  /-- An MSI-X message (unit: vector; data: address, data). -/
  | msix
  /-- A CAN frame (unit: controller; data: COB-ID, then the bytes). -/
  | can
  /-- A USDO response (unit: controller; data: COB-ID, abort code or 0, then the bytes read). -/
  | usdo
  /-- Forward frames of pulse link g (unit: g). LINE data: SWEEP_TAG, then the block's fields. -/
  | lineFrame | trimFrame | codeFrame | timeFrame | blankFrame | abortFrame
  /-- Frames of the Haling link (unit: port). -/
  | rollFrame | censusFrame | syncFrame | syncReplyFrame | voteFrame | commitFrame | lateFrame | stateFrame
  | haltReportFrame | alignFrame | stitchFrame | tunnelReqFrame | tunnelRspFrame
  /-- A hazard set sent on a Haling port (unit: port; data: origin seat). -/
  | hazardSet
  /-- One compare pulse begins (unit: output). -/
  | comparePulse
  /-- One step or microstep (unit: axis; data: 1 forward, 0 reverse). -/
  | step
  /-- A triac gate pulse (unit: zone). -/
  | gatePulse
  /-- A serial read is started (unit: channel). -/
  | serialClock
  /-- A record written to the retention store (unit: slot). -/
  | retentionWrite
  /-- TDO after a TCK edge (data: the bit). -/
  | tdo
deriving DecidableEq, Repr

/-- One thing sent. -/
structure Out where
  kind : OutKind
  unit : Nat
  data : List Nat
deriving DecidableEq, Repr

end Sys2Proof.Machine
end

