-- ==== Sys2Proof/Machine/Units/Clocks.lean ====
section
/-! DEFINITION. State of the clocks and of group time (chapter 11). -/

namespace Sys2Proof.Machine

/-- Dither LFSR of a modulator of the auxiliary synthesiser (R339): the value that it restarted from and the tick of that restart.
Its steps come at the modulator's updates, which no command shows. -/
structure Lfsr where
  value : Nat := 1
  since : Nat := 0
deriving DecidableEq, Repr

/-- Clocks of one die: PLLs 0 system, 1 edge, 2 memory, 3 PCIe, 4 pulse link, 5 Haling, 6 auxiliary. -/
structure DieClock where
  /-- Bit k: PLL k is locked. -/
  lock : Nat := 0
  relocks : Nat := 0
  /-- Bit k: PLL k has locked once since start; bit k: its band search has been repeated. -/
  ever : Nat := 0
  repeated : Nat := 0
  /-- LFSRs of the auxiliary PLL's feedback divider (0) and of output k (k + 1); those not listed hold the reset seed. -/
  lfsrs : Map Lfsr := []
  /-- Ticks by which the die's copy of the timebase differs from the others' (R344, R345). -/
  skew : Int := 0
deriving DecidableEq, Repr

/-- Group time (R347). -/
structure GroupTime where
  /-- O in 1/65,536 tick, r in 2^-40, T_u in ticks. -/
  offset : Int := 0
  rate : Int := 0
  since : Nat := 0
  synced : Bool := false
  /-- A step has made ages unknown (R347): tick of the last step. -/
  stepAt : Option Nat := none
deriving DecidableEq, Repr

end Sys2Proof.Machine
end

