-- ==== Sys2Proof/Machine/Units/Dict.lean ====
section
/-! DEFINITION. State of NMT, the CAN controllers, the dictionary paths and the trace unit (chapter 15). -/

namespace Sys2Proof.Machine

/-- NMT states (R446). -/
inductive NmtState where
  | preOperational | operational | stopped
deriving DecidableEq, Repr

/-- Heartbeat state codes (R446). -/
def NmtState.code : NmtState → Nat
  | .preOperational => 0x7F
  | .operational => 0x05
  | .stopped => 0x04

/-- A pending NMT transition (R447). -/
inductive NmtPending where
  | none | stop | preOperational | resetNode
deriving DecidableEq, Repr

def NmtPending.code : NmtPending → Nat
  | .none => 0
  | .stop => 0x04
  | .preOperational => 0x7F
  | .resetNode => 0x81

/-- NMT and node (R445 to R450, R464). -/
structure Nmt where
  state : NmtState := .preOperational
  pending : NmtPending := .none
  refusal : Nat := 0
  rpdosDiscarded : Nat := 0
  emcysDropped : Nat := 0
  /-- Active node ID (0x2001:3). -/
  node : Nat := 127
  /-- Value sampled at MFIO216 to MFIO222 (R445). -/
  straps : Nat := 0
  /-- Bit rates in use, nominal and data. -/
  nominal : Nat := 500
  dataRate : Nat := 2000
  /-- Dies and devices have left boot: the dictionary answers. -/
  booted : Bool := true
deriving DecidableEq, Repr

/-- One EMCY: error code, error register and fault code (R461). -/
structure Emcy where
  error : Nat
  register : Nat
  fault : Nat
deriving DecidableEq, Repr

/-- Error state of a CAN controller (ISO 11898-1). -/
inductive CanState where
  | active | passive | busOff
deriving DecidableEq, Repr

/-- A heartbeat consumer (0x1016). -/
structure Consumer where
  lastHeard : Option Nat := none
  timedOut : Bool := false
deriving DecidableEq, Repr

/-- A TPDO's dynamic state (R459). -/
structure Tpdo where
  lastSent : Option Nat := none
  lastValue : List Nat := []
  syncCount : Nat := 0
deriving DecidableEq, Repr

/-- The CAN side (R443 to R461). -/
structure Can where
  ctrl0 : CanState := .active
  ctrl1 : CanState := .active
  emcy : List Emcy := []
  lastEmcyAt : Option Nat := none
  /-- 0x1003, newest first, at most 16. -/
  errors : List Nat := []
  consumers : Map Consumer := []
  tpdos : Map Tpdo := []
  /-- RPDO data waiting for the next SYNC, by RPDO. -/
  rpdoWaiting : Map (List Nat) := []
  syncCounter : Nat := 0
  timeValue : Nat := 0
  timeStamp : Nat := 0
  /-- An error-reset EMCY is due once all is clear (R461). -/
  errorShown : Bool := false
deriving DecidableEq, Repr

/-- A segmented USDO transfer in progress (R442). -/
structure Usdo where
  index : Nat
  sub : Nat
  bytes : List Nat
  lastAt : Nat
deriving DecidableEq, Repr

/-- One mirror slot (Tables 15-6 to 15-8). -/
structure Mirror where
  request : Nat := 0
  /-- REQUEST as it stood when the access in progress was started (R456). -/
  started : Nat := 0
  result : Nat := 0
  length : Nat := 0
  busy : Bool := false
  discarded : Bool := false
  tag : Nat := 0
  vectorOn : Bool := false
  vector : Nat := 0
  data : Map Nat := []
deriving DecidableEq, Repr

/-- The trace unit (R468 to R470). -/
structure Trace where
  on : Bool := true
  detained : Bool := false
  /-- Every healthy supervisor pair is in recess: nothing is traced (R435). -/
  paused : Bool := false
  /-- Buffer words by position. -/
  buf : Map Nat := []
  written : Nat := 0
  /-- Words held, at most 4,194,304. -/
  held : Nat := 0
  reference : Nat := 0
  readPos : Nat := 0
  /-- Words in the staging buffer, at most 1,024, oldest first. -/
  staged : List Nat := []
  dropped : Nat := 0
  /-- Entries lost since the last marker 5. -/
  lost : Nat := 0
deriving DecidableEq, Repr

end Sys2Proof.Machine
end

