-- ==== Sys2Proof/Machine/Units/Flash.lean ====
section
/-! DEFINITION. State of the flash manager, the record journal and the firmware images (chapter 16), and of the boot
straps and the JTAG port (chapter 17). -/

namespace Sys2Proof.Machine

/-- An operation of the device at an offset of Table 16-1 (R474, R475): a host read, a read by firmware, a page program, an
append-mark of one state byte, an erase. -/
inductive FlashStep where
  | read (a : Nat)
  | scan
  | program (a : Nat) (bytes : List Nat)
  | mark (a state : Nat)
  | erase (a size : Nat)
deriving DecidableEq, Repr

/-- What is asked of the flash manager, in order of arrival (R474); `judge` follows the last piece (R486 step 3), and `hold` the first
OPERATIONAL of a TRIAL image (R491). -/
inductive FlashOp where
  | read (offset : Nat)
  | program (offset : Nat) (bytes : List Nat)
  | erase (offset : Nat)
  | store (values : List (Nat × List Nat))
  | restore
  | begin (id : Nat)
  | cancel
  | piece (n : Nat) (bytes : List Nat)
  | judge
  | verify
  | confirm
  | revert
  | hold
deriving DecidableEq, Repr

/-- Who waits for an operation: its command itself, or a path to the dictionary that is answered when it completes
(R477, R483, R486). -/
inductive Asker where
  | direct
  | usdo (ctrl : Nat)
  | mirror (n : Nat)
  | tunnel (seat : Nat)
deriving DecidableEq, Repr

structure FlashJob where
  op : FlashOp
  asker : Asker := .direct
  /-- Its device operations that remain, the one in flight first; none: it has not begun. -/
  steps : Option (List FlashStep) := none
deriving DecidableEq, Repr

/-- A journal record as the scan of its block finds it (Table 16-3): its HCHECK is good. -/
structure JRecord where
  /-- Offset of its state byte. -/
  addr : Nat := 0
  state : Nat := 0xFC
  cls : Nat
  key : Nat
  format : Nat
  data : List Nat
  crcGood : Bool := true
deriving DecidableEq, Repr

/-- Image slot states with the codes of 0x4320:2. -/
inductive ImageState where
  | empty | confirmed | trial | previous | failed | copying
deriving DecidableEq, Repr

def ImageState.code : ImageState → Nat
  | .empty => 0
  | .confirmed => 1
  | .trial => 2
  | .previous => 3
  | .failed => 4
  | .copying => 5

def ImageState.ofCode : Nat → ImageState
  | 1 => .confirmed
  | 2 => .trial
  | 3 => .previous
  | 4 => .failed
  | 5 => .copying
  | _ => .empty

/-- What a boot record holds: the slot states, the trial count, and whether it is held at 0 (R489, R491). -/
structure BootRec where
  slot0 : ImageState := .confirmed
  slot1 : ImageState := .empty
  count : Nat := 0
  held : Bool := false
deriving DecidableEq, Repr

/-- Transfer states with the codes of 0x4330:3. -/
inductive TransferState where
  | empty | receiving | verifying | staged | rejected
deriving DecidableEq, Repr

def TransferState.code : TransferState → Nat
  | .empty => 0
  | .receiving => 1
  | .verifying => 2
  | .staged => 3
  | .rejected => 4

/-- The device as its parameter table describes it (R472). Size 0: none is fitted. -/
structure FlashDevice where
  size : Nat := 33554432
  octal : Bool := true
  parameters : Bool := true
  pages : Bool := true
  sectors : Bool := true
  suspends : Bool := true
  fast : Bool := true
deriving DecidableEq, Repr

structure Flash where
  device : FlashDevice := {}
  /-- Capacity in bytes that the start found; 0: absent or unusable (R472). -/
  capacity : Nat := 33554432
  queue : List FlashJob := []
  /-- The first operation of the queue that is no host read is an erase in flight, suspended for the reads ahead of it (R474). -/
  suspended : Bool := false
  /-- Path on whose behalf a write is being served. -/
  asker : Asker := .direct
  /-- Bytes of the device by offset (Table 16-1), as the exclusive-or with the byte that the part was delivered with. -/
  cells : Map Nat := []
  lastStatus : Nat := 0
  torn : Nat := 0
  /-- Running slot; none: recovery, or before boot (R494). -/
  running : Option Nat := none
  /-- The running TRIAL image has reached OPERATIONAL in this boot (R491). -/
  reached : Bool := false
  /-- CONFIG_FORMAT of the running image. -/
  format : Nat := 1
  installed : Nat := 0
  transfer : TransferState := .empty
  rejection : Nat := 0
  /-- OTP key slots programmed, and revoked (R485). -/
  keys : Nat := 15
  revoked : Nat := 0
  /-- Boot ROM serves the reduced dictionary (R494). -/
  recovery : Bool := false
deriving DecidableEq, Repr

/-- Straps sampled at PORn (R466, R493). -/
structure Straps where
  legacy : Bool := false
  boot0 : Bool := false
  boot1 : Bool := false
  /-- PORn is low. -/
  porLow : Bool := false
deriving DecidableEq, Repr

/-- States of the IEEE 1149.1 TAP controller. -/
inductive Tap where
  | reset | idle | selectDr | captureDr | shiftDr | exit1Dr | pauseDr | exit2Dr | updateDr
  | selectIr | captureIr | shiftIr | exit1Ir | pauseIr | exit2Ir | updateIr
deriving DecidableEq, Repr

/-- Instruction of the TAP: IDCODE, BYPASS, or one that the spec does not name. -/
inductive TapInstr where
  | idcode | bypass | other
deriving DecidableEq, Repr

structure Jtag where
  tap : Tap := .reset
  instr : TapInstr := .idcode
  /-- Data register, low bit out first, and the instruction bits shifted in, newest first. -/
  dr : Nat := 0
  drLen : Nat := 32
  ir : List Bool := []
deriving DecidableEq, Repr

end Sys2Proof.Machine
end

