-- ==== Sys2Proof/Machine/Units/Haling.lean ====
section
/-! DEFINITION. State of the Haling link: ports, roll call, census, votes, tunnel and hazard sets (chapter 12). -/

namespace Sys2Proof.Machine

/-- Port states with the codes of 0x3901:6. -/
inductive PortState where
  | down | training | up
deriving DecidableEq, Repr

def PortState.code : PortState → Nat
  | .down => 0
  | .training => 1
  | .up => 2

/-- Roll call states with the codes of 0x3901:1. -/
inductive RollState where
  | standalone | forming | complete | listener | minority
deriving DecidableEq, Repr

def RollState.code : RollState → Nat
  | .standalone => 0
  | .forming => 1
  | .complete => 2
  | .listener => 3
  | .minority => 4

structure HalingPort where
  state : PortState := .down
  /-- Group time at which the last SYNC left, to match its reply. -/
  syncSent : Option Nat := none
deriving DecidableEq, Repr

/-- What is known of another part from its ROLL frames (R361). -/
structure Peer where
  heard : Bool := false
  lastAt : Nat := 0
  /-- Last ROLL frame; the hops it took by port. -/
  info : RollInfo := {}
  gen : Nat := 0
  hopsA : Option Nat := none
  hopsB : Option Nat := none
  /-- Last FSEQ accepted (R358). -/
  fseq : Option Nat := none
  /-- Restart readiness last voted, W_rest last reported. -/
  restart : Bool := false
  wrest : Option Int := none
  /-- It became heard while the timetable ran (R363). -/
  listener : Bool := false
deriving DecidableEq, Repr

/-- Mean phase error reported for a peer station's scanner at a join (R374). -/
structure PeerErr where
  err : Int := 0
  locked : Bool := false
  stamp : Nat := 0
  known : Bool := false
  /-- Tick at which it came, for a step of group time since (R347). -/
  at_ : Nat := 0
deriving DecidableEq, Repr

/-- The tunnel (R377). -/
structure Tunnel where
  busy : Bool := false
  since : Nat := 0
  result : Nat := 0
  /-- Seat asked, and whether the request was a read. -/
  seat : Nat := 0
  reads : Bool := false
deriving DecidableEq, Repr

structure Haling where
  portA : HalingPort := {}
  portB : HalingPort := {}
  roll : RollState := .standalone
  generation : Nat := 0
  homeroom : Nat := 0
  /-- Seats of the census held, and of the last COMPLETE one (R362, R378). -/
  census : List Nat := [0]
  lastComplete : List Nat := [0]
  dGroup : Int := 0
  peers : Map Peer := []
  fseq : Nat := 0
  aligned : Bool := false
  residual : Int := 0
  /-- Synchronisation began (R367). -/
  syncSince : Option Nat := none
  /-- Votes by seat and panel: W_p raw and H + G (R63, R370). -/
  votes : Map (Option (Nat × Nat)) := []
  /-- Last STATE frame (R372). -/
  last : StateInfo := {}
  peerErrs : Map PeerErr := []
  tunnel : Tunnel := {}
  discarded : Nat := 0
  hazardSets : Nat := 0
  tunnelsFailed : Nat := 0
  /-- Last hazard set by origin seat: tick plus one. -/
  origins : Map Nat := []
  /-- Restart readiness last voted, and the timetable state last broadcast (R372, R373). -/
  votedReady : Bool := false
  sentState : Nat := 0
  /-- ROLL payload this part sent last (R359), and the homeroom of the last COMPLETE census (R378). -/
  lastRoll : Option RollInfo := none
  former : Option Nat := none
  /-- The residual has stood above 1 microsecond after 10 s (R367). -/
  unsynced : Bool := false
  /-- Another source uses this part's seat (R359); roll call cause 4 has been raised (R360). -/
  duplicate : Bool := false
  mismatch : Bool := false
deriving DecidableEq, Repr

end Sys2Proof.Machine
end

