-- ==== Sys2Proof/Machine/Units/Intake.lean ====
section
/-! DEFINITION. State of the PCIe function, the rings and the DMA engines (chapter 3). -/

namespace Sys2Proof.Machine

/-- The head descriptor of a ring, once read (R80, R82). -/
structure Head where
  /-- The 512 bits of the descriptor. -/
  raw : Nat
  /-- Transfer has begun. -/
  moving : Bool := false
  /-- Bytes of the buffer received in good completions, in order. -/
  buf : List Nat := []
  /-- Bytes that have left the staging buffer. -/
  moved : Nat := 0
  /-- Lines of it counted as stored. -/
  linesStored : Nat := 0
  /-- Its chain (R119), where the next TRC line begins, and the two lines decoded before it, newest first. -/
  chain : Nat := 0
  offset : Nat := 0
  above : List Nat := []
  above2 : List Nat := []
  /-- Blocks the compressor has emitted for the line in progress, and the pixels they hold (R121). -/
  blocks : List Nat := []
  blockPixels : Nat := 0
  /-- Index of the next entry or command within the buffer (other ring kinds). -/
  entry : Nat := 0
deriving DecidableEq, Repr

/-- Ring table entry (Table 3-7). For an event ring `producer` is PART_INDEX and `consumer` HOST_INDEX. -/
structure Ring where
  enable : Bool := false
  base : Nat := 0
  order : Nat := 1
  format : Nat := 0
  channel : Nat := 0
  vector : Nat := 0
  producer : Nat := 0
  consumer : Nat := 0
  lastStatus : Nat := 0
  waiting : Bool := false
  dbErr : Bool := false
  bad : Nat := 0
  head : Option Head := none
deriving DecidableEq, Repr

/-- One MSI-X table entry (R67, R70); masked after reset. -/
structure MsixEntry where
  addr : Nat := 0
  data : Nat := 0
  masked : Bool := true
  pending : Bool := false
deriving DecidableEq, Repr

/-- DMA channel of a die (R92). -/
structure DmaChannel where
  /-- Ring it serves now. -/
  ring : Option Nat := none
  /-- Ring it served last; the next turn is that of the ring after it (R92). -/
  lastRing : Nat := 65535
  /-- Bytes in the staging buffer; the channel asks for no more than 4,096. -/
  staged : Nat := 0
  /-- Bytes moved since the last 4 KB boundary of its transfer. -/
  sinceBoundary : Nat := 0
deriving DecidableEq, Repr

/-- The PCIe function and its control registers (Tables 3-3, 3-4, 3-14). -/
structure Intake where
  linkSpeed : Nat := 0
  linkWidth : Nat := 0
  linkUp : Bool := false
  flrSeen : Bool := false
  dbError : Bool := false
  absentAccess : Bool := false
  badCount : Nat := 0
  eventDrops : Nat := 0
  absentCount : Nat := 0
  maxPayload : Nat := 128
  /-- Settings of the host in the configuration space (Table 3-1), with the values that PCIe resets them to: maximum read
  request size in bytes, 10-bit tags, ASPM L1, MSI-X Enable and Function Mask. -/
  maxReadRequest : Nat := 512
  tenBitTags : Bool := false
  aspmL1 : Bool := false
  msixEnable : Bool := false
  functionMask : Bool := false
  /-- What AER has logged (R89): bit 0 Unsupported Request or Completer Abort, 1 completion timeout, 2 poisoned completion,
  3 a descriptor that could not be read. -/
  aer : Nat := 0
  rings : Map Ring := []
  msix : Map MsixEntry := []
  channels : Map DmaChannel := []
  /-- Channel that moved the last beat of each die at each priority, by 16 × die + priority (equal priorities alternate at
  4 KB). -/
  lastChannel : Map Nat := []
  /-- Beats of each die's engine: one of 2 or 4 may move a channel below the priority floor (R430). -/
  beats : Map Nat := []
  /-- Events dropped per die since the last event 0x0007 (R95). -/
  dropped : Map Nat := []
deriving DecidableEq, Repr

end Sys2Proof.Machine
end

