-- ==== Sys2Proof/Machine/Units/Lane.lean ====
section
/-! DEFINITION. State of a lane engine and its correction mesh (chapters 5 and 6). -/

namespace Sys2Proof.Machine

/-- Lane states (Table 5-17). -/
inductive LaneState where
  | stopped | running | bandDark | detained
deriving DecidableEq, Repr

def LaneState.code : LaneState → Nat
  | .stopped => 0
  | .running => 1
  | .bandDark => 2
  | .detained => 3

/-- One window bank: line j holds raster line y - 1 + j (R143). Pixels carry 16 where they are dark by R102. -/
structure Bank where
  slot : Nat := 0
  y : Nat := 0
  /-- Held for a sweep that has not ended. -/
  busy : Bool := false
  /-- Bit j: line j is filled. -/
  have_ : Nat := 0
  line0 : List Nat := []
  line1 : List Nat := []
  line2 : List Nat := []
deriving DecidableEq, Repr

/-- One code line buffer (R137, R138). -/
structure CodeBuf where
  slot : Nat := 0
  n : Nat := 0
  /-- Taken by a sweep whose last pixel is not yet emitted. -/
  busy : Bool := false
  /-- Its program has executed ENDL. -/
  ready : Bool := false
  /-- Codes by pixel; an unwritten pixel reads 0. -/
  codes : Map Nat := []
deriving DecidableEq, Repr

/-- One knot (R169). -/
structure Knot where
  inscan : Int := 0
  xscan : Int := 0
  shade : Nat := 0x800
  cls : Nat := 7
deriving DecidableEq, Repr

/-- One facet record (R170). -/
structure FacetRec where
  startOff : Int := 0
  xoff : Int := 0
deriving DecidableEq, Repr

/-- A knot table with its facet records; unlisted entries are neutral. -/
structure Mesh where
  knots : Map Knot := []
  facets : Map FacetRec := []
deriving DecidableEq, Repr

/-- State of a draft (Table 6-4). -/
inductive DraftState where
  | ready | pending | copying
deriving DecidableEq, Repr

def DraftState.code : DraftState → Nat
  | .ready => 0
  | .pending => 1
  | .copying => 2

structure Lane where
  state : LaneState := .stopped
  wrRefused : Bool := false
  hostWritten : Bool := false
  image : Nat := 0
  cause : Nat := 0
  cyclesPeak : Nat := 0
  cyclesLast : Nat := 0
  sweeps : Nat := 0
  faultPc : Nat := 0
  regs : Map Word := []
  vregs : Map (List Byte) := []
  pc : Nat := 0
  stack : List Nat := []
  prog : Map Nat := []
  data : Map Nat := []
  bank0 : Bank := {}
  bank1 : Bank := {}
  /-- Bank and buffer of the program that runs, or ran last. -/
  bankSel : Bool := false
  bufSel : Bool := false
  buf0 : CodeBuf := {}
  buf1 : CodeBuf := {}
  /-- The program runs (R137), its sweep's context (Table 5-6), and its cycles. -/
  active : Bool := false
  slot : Nat := 0
  y : Nat := 0
  n : Nat := 0
  facet : Nat := 0
  cycles : Nat := 0
  /-- Order of the last sweep whose program started. -/
  lastRun : Nat := 0
  /-- Order of the last line that playback has decoded for this lane: it goes on in increasing y (R125). -/
  lastPlayed : Nat := 0
  /-- Mesh (R169, R188). -/
  slate : Mesh := {}
  draft : Mesh := {}
  draftState : DraftState := .ready
  meshRefused : Bool := false
  leadClamped : Bool := false
  /-- The pending flip request (R189); 0 none. -/
  flipReq : Nat := 0
  /-- While COPYING: sequence number of the first panel that the new slate governs; none where it governs at once. -/
  newFrom : Option Nat := none
  /-- Flips performed on this lane; GENERATION is its low 16 bits. -/
  flips : Nat := 0
deriving DecidableEq, Repr

/-- The lane command accepted last: when it has completed, and what a LOAD reads and writes meanwhile (R147, R162, R168). -/
structure LaneCmd where
  until_ : Nat := 0
  image : Option Nat := none
  scope : Nat := 0
  lane : Nat := 0
deriving DecidableEq, Repr

/-- A flip request that some lane still waits for, or that was made (R189 to R193). -/
structure FlipReq where
  when_ : Nat := 0
  scope : Nat := 0
  seq : Nat := 0
  /-- Tick of its acceptance. -/
  acceptedAt : Nat := 0
  /-- Stations where it has been made. -/
  made : Nat := 0
deriving DecidableEq, Repr

/-- Flip requests and their counts (0x2800). -/
structure Flips where
  requests : Map FlipReq := []
  next : Nat := 1
  result : Nat := 0
  performed : Nat := 0
  cancelled : Nat := 0
deriving DecidableEq, Repr

/-- Stitch settings in force at a station (R177 to R180), boundary j at position j - 1. -/
structure Stitch where
  nc : Nat := 4
  beta : List Nat := [19200, 38400, 57600]
  overlap : List Nat := [32, 32, 32]
  ramp : List Nat := [0, 0, 0]
  tile : List Nat := [1, 2, 3]
  /-- Join mismatch bits of 0x2810+s:11 (R183). -/
  mismatch : Nat := 0
deriving DecidableEq, Repr

end Sys2Proof.Machine
end

