-- ==== Sys2Proof/Machine/Units/Motion.lean ====
section
/-! DEFINITION. State of feedback channels, latches, compare outputs, axes and the web transport (chapter 9). -/

namespace Sys2Proof.Machine

/-- A value that moves from one level to another at a constant rate from a tick on, and turns to further levels at later ticks. -/
structure Ramp where
  start : Rat := 0
  since : Nat := 0
  goal : Rat := 0
  /-- Units per second squared (or per second for a plain value); 0: at once. -/
  rate : Rat := 0
  /-- Tick, goal and rate of each later turn, in order. -/
  turns : List (Nat × Rat × Rat) := []
deriving DecidableEq, Repr

/-- Channel states with the codes of 0x3100+ch:2. -/
inductive ChanState where
  | off | run | error
deriving DecidableEq, Repr

def ChanState.code : ChanState → Nat
  | .off => 0
  | .run => 1
  | .error => 2

/-- One feedback channel: quadrature 0 to 15, clocked serial 16 to 23 (R259 to R267). -/
structure Channel where
  state : ChanState := .off
  /-- Accepted levels of A and B. -/
  a : Bool := false
  b : Bool := false
  position : Int := 0
  /-- Stamps and positions of the last two count edges, the later first (R261). -/
  t1 : Nat := 0
  p1 : Int := 0
  t0 : Nat := 0
  p0 : Int := 0
  /-- Count edges since it entered RUN. -/
  counted : Bool := false
  armed : Bool := false
  capture : Int := 0
  errors : Nat := 0
  skipped : Nat := 0
  lastCause : Nat := 0
  /-- Serial: latch instant of the read in progress, end of the recovery time, last good position field, and bad
  words in a row. -/
  reading : Option Nat := none
  readyAt : Nat := 0
  lastWord : Option Nat := none
  bad : Nat := 0
deriving DecidableEq, Repr

/-- One capture (R268): stamp, W and channel position, raw. -/
structure Capture where
  stamp : Nat
  w : Int
  position : Int
deriving DecidableEq, Repr

structure Latch where
  /-- Oldest first, at most 16. -/
  queue : List Capture := []
  dropped : Nat := 0
  lastAt : Option Nat := none
deriving DecidableEq, Repr

/-- One compare output (R269 to R273). -/
structure Compare where
  /-- Pending entries, next first (list and bell modes). -/
  list : List Int := []
  lastAppended : Option Int := none
  /-- Next entry of a series. -/
  next : Nat := 0
  /-- The output is at its active level, and until when it is held there by a pulse. -/
  active : Bool := false
  pulseEnd : Option Nat := none
  firings : Nat := 0
  late : Nat := 0
  multi : Nat := 0
deriving DecidableEq, Repr

/-- Axis states with the codes of Table 9-5. -/
inductive AxisState where
  | off | hold | moving | geared | web | tension | stopped | detained
deriving DecidableEq, Repr

def AxisState.code : AxisState → Nat
  | .off => 0
  | .hold => 1
  | .moving => 2
  | .geared => 3
  | .web => 4
  | .tension => 5
  | .stopped => 6
  | .detained => 7

/-- One axis: BLDC 0 to 15, step generator 16 to 63 (R274 to R285). -/
structure Axis where
  state : AxisState := .off
  lost : Bool := false
  clamped : Bool := false
  /-- Commanded position in axis units. -/
  commanded : Rat := 0
  /-- Hall transitions counted, with direction. -/
  halls : Int := 0
  /-- Velocity profile, and the target of a MOVE. -/
  vel : Ramp := {}
  target : Option Int := none
  /-- A HALT is in progress. -/
  halting : Bool := false
  /-- Gear: ratio Q32.32, W_g and P_g (R283); the armed ratio and W_c (R284). -/
  ratio : Int := 0
  wg : Int := 0
  pg : Rat := 0
  armed : Option (Int × Int) := none
  /-- Step generator: 48-bit phase accumulator and microstep count. -/
  acc : Nat := 0
  micro : Int := 0
  forward : Bool := true
  /-- BLDC: Hall sector, none before the first; sector of the last PWM period; periods left of the sample group; on-time of the
  present period, and of each of those left, in seconds; last current. -/
  hall : Option Nat := none
  sector : Option Nat := none
  group : Nat := 0
  onTime : Rat := 0
  share : Rat := 0
  current : Int := 0
  /-- Bridge: amplitude A_m of the last supply sample (R281). -/
  amplitude : Rat := 0
  /-- BLDC stopped with brake: every low side on. -/
  braked : Bool := false
  /-- Tick up to which the commanded position is integrated. -/
  intAt : Nat := 0
deriving DecidableEq, Repr

/-- The web transport (R286 to R289). -/
structure Transport where
  /-- Web speed command. -/
  speed : Ramp := {}
  /-- W and tick at the last entry to RUNNING, where the expected position starts, and the command ramps since. -/
  fromW : Int := 0
  expected : Rat := 0
  expectedAt : Nat := 0
  /-- Target of the position loop in REVERSING and WAITING. -/
  target : Option Int := none
deriving DecidableEq, Repr

end Sys2Proof.Machine
end

