-- ==== Sys2Proof/Machine/Units/Power.lean ====
section
/-! DEFINITION. State of the power sequencer, the retention store, the thermal model and recess (chapter 14). -/

namespace Sys2Proof.Machine

inductive SeqState where
  | standby | powerUp | on | shutDown
deriving DecidableEq, Repr

/-- One power record (Table 14-2), without its CRC: a slot holds a record whose CRC is good, or none. -/
structure PowerRec where
  rseq : Nat := 0
  event : Nat := 0
  step : Nat := 0
  undischarged : Nat := 0
  pgTimeout : Nat := 0
  rtc : Nat := 0
  snapshot : List Nat := []
  cause : Nat := 0
  fault : Nat := 0
  stamp : Nat := 0
  w : Int := 0
  incCause : Nat := 0
  stations : List Nat := []
deriving DecidableEq, Repr

structure Power where
  seq : SeqState := .on
  step : Nat := 0
  /-- SEQ_EN0 to 7, STBYOK. -/
  enables : Nat := 0x3F
  stbyok : Bool := false
  readings : List Nat := []
  /-- Housekeeping channels 40 to 63 of the last round: supplies at the dies and of the part, and the LPDDR5X temperatures
  (Table 14-4). -/
  supplies : List Nat := []
  pgTimeouts : Nat := 0
  undischarged : Nat := 0
  /-- Cause that the shut-down in progress leaves (Table 14-3). -/
  cause : Nat := 0
  /-- Faults of the last run that the next boot raises (Table 14-9, causes 5 to 7). -/
  startCodes : List Nat := []
  /-- Retention store (R417): the valid records of the two slots, the bytes of a slot whose write was abandoned (R424), and the trace
  tail; what was never written reads 0. -/
  slot0 : Option PowerRec := none
  slot1 : Option PowerRec := none
  torn0 : List Nat := []
  torn1 : List Nat := []
  /-- The next record number. -/
  nextRec : Nat := 0
  tail : List Nat := []
  /-- Real-time counter at a tick of the timebase. -/
  rtc : Nat := 0
  rtcAt : Nat := 0
  resetCause : Nat := 0
  resetFault : Nat := 0
  resetRtc : Nat := 0
  /-- A wake came during a shut-down (R437); wakes are ignored for the cool-down time (R433). -/
  wakeHeld : Bool := false
  cooling : Bool := false
  /-- A thermal shut-down waits for the flash grace period. -/
  grace : Bool := false
  vstby : Bool := true
deriving DecidableEq, Repr

/-- Thermal state of a die (R427 to R432). -/
structure Thermal where
  theta1 : Rat := 0
  theta2 : Rat := 0
  theta3 : Rat := 0
  bias : Option Rat := none
  power : Rat := 0
  tj : Rat := 0
  band : Nat := 0
  /-- The band whose settings the Pulse link, and the TDC, of the die's scanner c use now (Table 14-5). -/
  linkBands : Map Nat := []
  /-- Bit k: the TDC calibration table of band k has been filled (Table 14-5). -/
  tdcTables : Nat := 0
  level : Nat := 0
  abandoned : Bool := false
  /-- The last round's |d| exceeded 15 degrees. -/
  far : Bool := false
  diode : Rat := 0
  excluded : Nat := 0
  hotSince : Option Nat := none
  coolSince : Option Nat := none
  request : Bool := false
  recess : Bool := false
  recesses : Nat := 0
  shutRaised : Bool := false
  absRaised : Bool := false
deriving DecidableEq, Repr

end Sys2Proof.Machine
end

