-- ==== Sys2Proof/Machine/Units/Press.lean ====
section
/-! DEFINITION. State of the press model, the timetable and its panel slots (chapters 1 and 2). Positions are
integers in 1/65,536 line unit (Q47.16) unless a name ends in 48. -/

namespace Sys2Proof.Machine

/-- Web position (R17 to R21). -/
structure Web where
  /-- W with 48 fractional bits (R18). -/
  w48 : Int := 0
  /-- W_base with 48 fractional bits (R18, R20). -/
  base48 : Int := 0
  /-- W is frozen by a fault of the master web encoder (R21). -/
  frozen : Bool := false
  /-- Timebase of the last count of the master channel (R20). -/
  lastCountAt : Nat := 0
  /-- The web moves: a count has come since it last came to rest. -/
  moving : Bool := false
  /-- Start of the 1 ms window of the web speed (stamp and W), and the speed of the last window, line units/s. -/
  winAt : Nat := 0
  winW : Int := 0
  speed : Rat := 0
deriving DecidableEq, Repr

/-- Timetable states with the codes of 0x2101:1 (R53). -/
inductive TTState where
  | idle | running | halting | reversing | waiting | restarting | ending | stopped
deriving DecidableEq, Repr

def TTState.code : TTState → Nat
  | .idle => 0
  | .running => 1
  | .halting => 2
  | .reversing => 3
  | .waiting => 4
  | .restarting => 5
  | .ending => 6
  | .stopped => 7

/-- What the next declaration of a job follows (R33, R34). -/
structure Declared where
  seq : Nat
  origin : Int
  h : Nat
  g : Nat
deriving DecidableEq, Repr

/-- Corrective move of R46. -/
inductive Corrective where
  | none | moving | failed
deriving DecidableEq, Repr

/-- The timetable (R43 to R53). -/
structure Timetable where
  state : TTState := .idle
  /-- HALTING or ENDING has reached W_d (Table 2-2). -/
  decelerating : Bool := false
  /-- Commits are held by HALT (R51). -/
  holdHalt : Bool := false
  /-- Commits are held after a change of the link (R364). -/
  holdLink : Bool := false
  /-- Commits have stopped because a beam failed (R57). -/
  holdBeam : Bool := false
  /-- IDLE was entered by END, and no RUN has been accepted since (Table 10-3). -/
  afterEnd : Bool := false
  /-- RUN has been accepted at this member since it last stopped: it follows STATE frames again (R51, R372). -/
  ranIn : Bool := false
  /-- END was written in STOPPED with the web moving (R51). -/
  endPending : Bool := false
  /-- The halt in progress is a LEGACY stop without a reverse (R66). -/
  legacyStop : Bool := false
  /-- W_d, W_fo, W_stop and W_rest (R44, R43, R45). -/
  wd : Int := 0
  wfo : Int := 0
  wstop : Int := 0
  wrest : Int := 0
  /-- W_fo is recorded and the nip closes there during restart (R47). -/
  nipPending : Bool := false
  /-- W_rest is known: a next panel exists. -/
  restKnown : Bool := false
  /-- Speed before the halt; 0 where the web was at rest (R45). -/
  vBefore : Rat := 0
  /-- Restart speed v_r (R45). -/
  vr : Rat := 0
  corrective : Corrective := .none
  /-- In RESTARTING the web has reached v_r (Table 7-1). -/
  reached : Bool := false
  /-- W_0 of R208: the next origin when the timetable last left IDLE. -/
  origin0 : Int := 0
  /-- The panel declared last in the job; none: the next declaration is the first of its job (R33). -/
  last : Option Declared := none
  /-- Number given to the next declaration, for the order of declaration. -/
  nextOrder : Nat := 1
  /-- Objects 0x2101:2 to 7. -/
  nextOrigin : Int := 0
  lastCommitted : Nat := 0
  haltCount : Nat := 0
  backup : Int := 0
  ceiling : Nat := 0
  delta : Int := 0
  /-- Latched mark crossings, newest first, at most 64, and the crossing chosen at restart (R49). -/
  marks : List Int := []
  chosenMark : Option Int := none
deriving DecidableEq, Repr

/-- Slot states with the codes of 0x2110+i:6 (R54). -/
inductive SlotState where
  | free | declared | loading | resident | committed | exposing | complete | withdrawn | incomplete
deriving DecidableEq, Repr

def SlotState.code : SlotState → Nat
  | .free => 0
  | .declared => 1
  | .loading => 2
  | .resident => 3
  | .committed => 4
  | .exposing => 5
  | .complete => 6
  | .withdrawn => 7
  | .incomplete => 8

/-- One panel slot (Table 2-6). -/
structure Slot where
  seq : Nat := 0
  h : Nat := 0
  g : Nat := 0
  mask : Nat := 0
  state : SlotState := .free
  origin : Int := 0
  flags : Nat := 0
  /-- Order of declaration; 0 before the first. -/
  order : Nat := 0
  /-- The panel declared before this one in its job (R33, R34). -/
  prev : Option Declared := none
  /-- The store reservation is granted (R36), and its bytes per station not yet released. -/
  granted : Bool := false
  shares : List Nat := []
  /-- Stations whose bell has rung, and stations that have completed the panel. -/
  rung : Nat := 0
  doneStations : Nat := 0
  /-- Stations of the mask fenced under the committed panel (R62). -/
  fencedStations : Nat := 0
  /-- W has reached C_p without a commit (R40). -/
  late : Bool := false
  /-- The commit message of the homeroom has arrived (R63). -/
  commitMsg : Bool := false
  /-- Votes for it disagree on W_p or H + G (R370). -/
  disagreed : Bool := false
  /-- This part has cast its ready vote (R63). -/
  voted : Bool := false
  /-- Beams that stay dark for the rest of the panel, by scanner (R57). -/
  dark : Map Nat := []
  /-- Lowest line that a station has not exposed whole although its sweep left, by station (R56). -/
  dimLine : Map (Option Nat) := []
  /-- Tone-to-width table of each station at the commit: 16 entries a station (R159). -/
  tone : List (List Nat) := []
  toneGen : List Nat := []
deriving DecidableEq, Repr

/-- The tone-to-width table reset values: ALIGN 1 and WID round(63k/15) (Table 5-15). -/
def toneReset : List Nat := [64, 68, 72, 77, 81, 85, 89, 93, 98, 102, 106, 110, 114, 119, 123, 127]

/-- Current tone-to-width table of a station, and the number of its applies (R159). -/
structure Tone where
  current : List Nat := toneReset
  gen : Nat := 0
deriving DecidableEq, Repr

/-- Per station: what the incomplete-panel record reports (Table 2-8), and the band plan (R58, R60). -/
structure Station where
  /-- Slot whose panel the station exposes now. -/
  current : Option Nat := none
  /-- Sequence number and length of the last completed panel; none before the first. -/
  lastDone : Option (Nat × Nat) := none
  /-- Band mode 0 full, 1 half, 2 unavailable (0x2150:s+1). -/
  band : Nat := 0
deriving DecidableEq, Repr

/-- The incomplete-panel record (0x2140, 0x2141). -/
structure Record where
  cause : Nat := 0
  stamp : Nat := 0
  w : Int := 0
  entries : List Nat := [0xFFFFFFFF, 0xFFFFFFFF, 0xFFFFFFFF, 0xFFFFFFFF, 0xFFFFFFFF, 0xFFFFFFFF, 0xFFFFFFFF, 0xFFFFFFFF]
deriving DecidableEq, Repr

end Sys2Proof.Machine
end

