-- ==== Sys2Proof/Machine/Units/Process.lean ====
section
/-! DEFINITION. State of the loop slots, converters, delta-sigma inputs, HV channels, fuser zones and the fuser nip
(chapter 10). -/

namespace Sys2Proof.Machine

/-- Owner kinds with the codes of 0x3200+64s+j:2. -/
inductive Owner where
  | host | scanner | axis | transport | hv | zone
deriving DecidableEq, Repr

def Owner.code : Owner → Nat
  | .host => 0
  | .scanner => 1
  | .axis => 2
  | .transport => 3
  | .hv => 4
  | .zone => 5

/-- One loop slot (R297 to R307). Values of REAL32 are held as exact rationals. -/
structure LoopSlot where
  enabled : Bool := false
  bank : Bool := false
  clamped : Bool := false
  saturated : Bool := false
  missed : Bool := false
  /-- No computation has finished since enable. -/
  first : Bool := true
  /-- A hand-over is due at the next computation, and the output it continues from (R306). -/
  handover : Bool := false
  u : Rat := 0
  e : Rat := 0
  i : Rat := 0
  d : Rat := 0
  ePrev : Rat := 0
  yPrev : Rat := 0
  /-- Trigger before the last one, and the trigger whose computation has not finished. -/
  trigPrev : Option Nat := none
  trigger : Option Nat := none
  /-- The computation waits for its conversion. -/
  waiting : Bool := false
  /-- Raw input last read, and the owner's setpoint, feed-forward (f_ff of a scanner) and sign. -/
  input : Rat := 0
  setpoint : Rat := 0
  ff : Rat := 0
  minus : Bool := false
  /-- Delta-sigma outputs since the last trigger; the cause of a trigger of kind 2, 5, 6 or 7 has come. -/
  outputs : Nat := 0
  due : Bool := false
  misses : Nat := 0
  overruns : Nat := 0
deriving DecidableEq, Repr

/-- User of a conversion, in the order of R309. -/
inductive ConvUser where
  | shunt (axis : Nat)
  | slot (j : Nat)
  | zone (z : Nat) (cold : Bool)
  | supply (axis : Nat)
deriving DecidableEq, Repr

/-- One converter (R308 to R310): the conversions of the running sequence that are not finished. -/
structure Converter where
  running : List (ConvUser × Nat) := []
  /-- SYSCLK cycle in which the sequence was requested, and conversions it has finished. -/
  cycle : Nat := 0
  finished : Nat := 0
  size : Nat := 0
deriving DecidableEq, Repr

/-- One delta-sigma input (R311, R312). -/
structure DsInput where
  main : Rat := 0
  /-- Ones density of the last main-filter output. -/
  density : Rat := 1 / 2
  fast : Option Rat := none
  lost : Bool := false
deriving DecidableEq, Repr

/-- HV channel states with the codes of Table 10-3. -/
inductive HvState where
  | off | run | halt | arcBlank | detained
deriving DecidableEq, Repr

def HvState.code : HvState → Nat
  | .off => 0
  | .run => 1
  | .halt => 2
  | .arcBlank => 3
  | .detained => 4

structure HvChannel where
  state : HvState := .off
  /-- State to return to after an arc. -/
  former : HvState := .off
  blankAt : Nat := 0
  /-- Stamps of recent arcs, newest first. -/
  arcTimes : List Nat := []
  arcs : Nat := 0
  /-- The gates are driven, with the frequency in Hz and the duty that the slot's output gives (R313). -/
  gates : Bool := false
  freq : Rat := 0
  duty : Rat := 0
deriving DecidableEq, Repr

/-- Fuser zone states with the codes of Table 10-4. -/
inductive ZoneState where
  | off | warmup | regulate | setback | detained
deriving DecidableEq, Repr

def ZoneState.code : ZoneState → Nat
  | .off => 0
  | .warmup => 1
  | .regulate => 2
  | .setback => 3
  | .detained => 4

/-- One fuser zone (R319 to R324). -/
structure Zone where
  state : ZoneState := .off
  inBand : Bool := false
  /-- Since when the temperature has stayed in the band, in REGULATE. -/
  bandSince : Option Nat := none
  temp : Rat := 0
  /-- Sensor errors or dropped samples in a row, and in all. -/
  bad : Nat := 0
  errors : Nat := 0
  sensorHeld : Bool := false
  /-- Samples of the last second and of the stall time, newest first. -/
  samples : List (Nat × Rat) := []
  /-- Setpoint now, and the tick of its last move. -/
  setpoint : Rat := 0
  setAt : Nat := 0
  /-- Accumulator, and whether this cycle fires (R319). -/
  acc : Rat := 0
  firing : Bool := false
  /-- Last zero crossing, last rising one, and the measured period in ticks. -/
  lastCross : Option Nat := none
  lastRising : Option Nat := none
  period : Nat := 0
  /-- The firing delay after the last crossing has passed. -/
  fired : Bool := false
  /-- Tick of the last sample; its conversions are under way, and the codes of its sensor and cold junction so far. -/
  sampleAt : Option Nat := none
  sampling : Bool := false
  code : Option Nat := none
  cold : Option Nat := none
  /-- Since when u has stayed at 90 % of its limit or more. -/
  stallAt : Option Nat := none
  gate : Bool := false
deriving DecidableEq, Repr

/-- Nip states with the codes of 0x2190:8. -/
inductive NipState where
  | opened | closed | moving
deriving DecidableEq, Repr

def NipState.code : NipState → Nat
  | .opened => 0
  | .closed => 1
  | .moving => 2

end Sys2Proof.Machine
end

