-- ==== Sys2Proof/Machine/Units/Safety.lean ====
section
/-! DEFINITION. State of the hazard net, the guard rails, the fault collector, the dies and check-bit inversion
(chapter 13). -/

namespace Sys2Proof.Machine

/-- One channel pair of INTLK inputs (R389). -/
structure Pair where
  blocked : Bool := false
  /-- Since when the two channels disagree. -/
  disagreeSince : Option Nat := none
  /-- Stamp of the first demand, and of the first clear, of the joint demand that unblocks. -/
  demandAt : Option Nat := none
  bothDemanded : Bool := false
  clearAt : Option Nat := none
deriving DecidableEq, Repr

/-- The hazard net (R383 to R391). Sources are numbered 0 to 7 INTLK, 8 DARKn, 9 Haling, 10 internal. -/
structure Hazard where
  active : Bool := false
  /-- Source bits of 0x4000:1 (R388). -/
  sources : Nat := 0
  /-- Sources making a demand now. -/
  present : Nat := 0
  /-- Tick plus one since when a source has been inactive (R386), by source. -/
  clearSince : Map Nat := []
  /-- Levels of INTLK0 to 7 and DARKn at the balls (0x4000:10): [8] DARKn, [7:0] INTLK. -/
  levels : Nat := 0x1FF
  pairs : Map Pair := []
  internalCause : Nat := 0
  count : Nat := 0
  lastAt : Nat := 0
deriving DecidableEq, Repr

/-- The seal (R396). -/
structure Seal where
  on : Bool := false
  stamp : Nat := 0
  digest : Nat := 0
deriving DecidableEq, Repr

/-- One maker fuse field (R394, R395), keyed by index*256+sub. -/
structure Fuse where
  copyA : Nat := 0
  copyB : Nat := 0
  locked : Bool := false
  invalid : Bool := false
deriving DecidableEq, Repr

/-- The fuse array and its programming registers (R395). -/
structure Fuses where
  fields : Map Fuse := []
  targetIndex : Nat := 0
  targetSub : Nat := 0
  value : Nat := 0
  result : Nat := 0
  /-- Field and value being blown. -/
  busy : Option (Nat × Nat) := none
deriving DecidableEq, Repr

/-- A fault on its way to the collector (R401). -/
structure FaultNote where
  code : Nat
  stamp : Nat
  inDetention : Bool := false
  injected : Bool := false
deriving DecidableEq, Repr

/-- A log entry (Table 13-7). -/
structure LogEntry where
  stamp : Nat
  code : Nat
  repeats : Nat := 0
  inDetention : Bool := false
  injected : Bool := false
deriving DecidableEq, Repr

/-- The fault collector and FAULTn (R401 to R406). -/
structure Faults where
  inbox : List FaultNote := []
  /-- Newest first, at most 256. -/
  log : List LogEntry := []
  lost : Nat := 0
  corrected : Nat := 0
  contained : Nat := 0
  fatalCount : Nat := 0
  last : Nat := 0
  latch : Bool := false
  fatal : Bool := false
  pulseEnd : Option Nat := none
  externalLow : Bool := false
  /-- Another part has pulled FAULTn low and is not known to have let go (R405). -/
  outsideLow : Bool := false
  /-- Units now in detention and the code that detained each (0x4102), oldest first. -/
  detained : List (Nat × Nat) := []
  /-- First fatal fault since power-up and its stamp (R403). -/
  fatalCode : Nat := 0
  fatalAt : Nat := 0
  /-- Thermal fault of the shut-down under way and its stamp (R403, R432). -/
  trip : Nat := 0
  tripAt : Nat := 0
  /-- A power sequencer fault, and a thermal fault, of class 1 or 2 is latched (R462). -/
  powerLatched : Bool := false
  thermalLatched : Bool := false
  /-- A thermal fault of class 2 is among the fatal faults latched (R406, R462). -/
  thermalFatal : Bool := false
deriving DecidableEq, Repr

/-- The dies (R408, R409). -/
structure Dies where
  /-- Bit s: die s is fenced. -/
  fenced : Nat := 0
  lead : Nat := 0
  /-- The lead-die role is moving (R409). -/
  moving : Bool := false
  /-- Changes of the unit presence map (R465). -/
  mapChanges : Nat := 0
deriving DecidableEq, Repr

/-- Check-bit inversion (R411, R412). -/
structure Inject where
  target : Nat := 0
  /-- 0 idle, 1 armed, 2 detected, 3 not detected. -/
  status : Nat := 0
  time : Nat := 0
deriving DecidableEq, Repr

end Sys2Proof.Machine
end

