-- ==== Sys2Proof/Machine/Units/Scan.lean ====
section
/-! DEFINITION. State of a scanner's beam detect, facets and phase loop, and of its pulse link (chapters 7 and 8).
Stamps that end in 16 count 1/16 tick. -/

namespace Sys2Proof.Machine

/-- Scanner states with the codes of Table 7-3. -/
inductive ScanState where
  | off | spinUp | search | speedHold | learning | gliding | locked | coast | detained
deriving DecidableEq, Repr

def ScanState.code : ScanState → Nat
  | .off => 0
  | .spinUp => 1
  | .search => 2
  | .speedHold => 3
  | .learning => 4
  | .gliding => 5
  | .locked => 6
  | .coast => 7
  | .detained => 8

/-- The states in which LASER_EN may be high (R249). -/
def ScanState.lit : ScanState → Bool
  | .search => true
  | .speedHold => true
  | .learning => true
  | .gliding => true
  | .locked => true
  | _ => false

/-- An accepted edge whose phase sample is due (R209): the counts before it and, once it has come, after it. -/
structure PhaseEdge where
  t16 : Nat
  wa : Int
  ta : Nat
  wb : Int := 0
  tb : Option Nat := none
deriving DecidableEq, Repr

/-- The edge whose line-start commitment is due (R217). -/
structure Edge where
  t16 : Nat
  /-- W_L of R209. -/
  wl : Int
  facet : Nat
  /-- The scanner was LOCKED when the edge was captured. -/
  locked : Bool
  inferred : Bool
  /-- Facets are numbered (R221). -/
  numbered : Bool
deriving DecidableEq, Repr

/-- The line that the link sends and the driver emits, fixed at the commitment (R217, R234). -/
structure Line where
  slot : Nat
  n : Nat
  tag : Nat
  seq : Nat
  facet : Nat
  tls16 : Nat
  /-- Pixel period in 1/65,536 tick. -/
  period : Nat
  dir : Nat
  cells : Nat
  /-- Stream codes by beam and emission index; an unlisted cell is dark. -/
  codes : List (Map Nat)
  /-- Slates that govern the sweep, by beam: their SHADE gives the trims (R236). -/
  slates : List Mesh
  /-- The carry line that the leading beam has taken in (R186). -/
  carryIn : Map Nat := []
  /-- A lane was detained since the codes were formed (R165). -/
  stale : Bool := false
  trimsSent : Nat := 0
  codesSent : Nat := 0
  started : Bool := false
  /-- Nothing more of it is sent: ABORT, or a line overrun. -/
  aborted : Bool := false
deriving DecidableEq, Repr

structure Scanner where
  state : ScanState := .off
  /-- Tick of entry to SPIN_UP. -/
  since : Nat := 0
  /-- Level of LASER_EN g, when it last rose, and whether it reads back high while commanded low. -/
  laser : Bool := false
  laserSince16 : Nat := 0
  /-- The reference clock runs, and its rate f_ref. -/
  clock : Bool := false
  fref : Rat := 0
  /-- Speed-hold target, facets per second (R213). -/
  hold : Ramp := {}
  /-- The timetable selects phase lock (Table 7-1). -/
  phaseLock : Bool := false
  /-- Last accepted or inferred edge, last accepted edge, and the intervals before it, newest first, in 1/16 tick. -/
  lastEdge : Option Nat := none
  lastAccepted : Option Nat := none
  intervals : List Nat := []
  /-- Edges inferred since the last accepted one. -/
  inferred : Nat := 0
  /-- The next edge is the first since SEARCH. -/
  firstEdge : Bool := true
  facet : Nat := 0
  numbered : Bool := false
  /-- An index edge has come since the last accepted edge (R206). -/
  indexSeen : Bool := false
  /-- The revolution being measured, newest first: facet, interval in 1/16 tick, and whether its edge was inferred. -/
  rev : List (Nat × Nat × Bool) := []
  /-- Signature by facet in 1/16 ppm; empty: none held (R203); not distinct: facets as in mode 2 (R204). -/
  signature : List Int := []
  distinct : Bool := true
  /-- Deviations summed over the learning revolutions, by position, and revolutions measured. -/
  learnSum : List Rat := []
  learnRevs : Nat := 0
  /-- Rotations that beat rotation 0 by the margin in the last completed revolution (R205). -/
  slipRots : List Nat := []
  /-- Phase. -/
  phase : Option PhaseEdge := none
  /-- W_BD and stamp of the accepted edge before (R212). -/
  wPrev : Option (Rat × Nat) := none
  err : Int := 0
  errs : List Int := []
  /-- Glide setpoint, and whether the first edge in phase lock, or of a new glide, is still to come (R214, R215). -/
  glide : Int := 0
  freshLock : Bool := false
  lockRun : Nat := 0
  glideEdges : Nat := 0
  /-- Output u of the phase loop, facets per second. -/
  u : Rat := 0
  edge : Option Edge := none
  line : Option Line := none
  /-- The LINE frame of the entry to SEARCH is still to be sent (R233, R239). -/
  searchDue : Bool := false
  /-- Order of the panel that the scanner sweeps or swept last, its sweeps that are done, and those whose lines left
  whole (R56). -/
  panel : Nat := 0
  sweeps : Nat := 0
  fullSweeps : Nat := 0
  /-- Carry line (R186): by cell, 128 × twice the centre + the length of the piece; and the web line that takes it, as
  panel origin plus line. -/
  carry : Map Nat := []
  carryFor : Option Int := none
  spurious : Nat := 0
  missing : Nat := 0
  overruns : Nat := 0
  excursions : Nat := 0
  slips : Nat := 0
deriving DecidableEq, Repr

/-- Link states with the codes of Table 8-9. -/
inductive LinkState where
  | disabled | training | ident | run | retrain
deriving DecidableEq, Repr

def LinkState.code : LinkState → Nat
  | .disabled => 0
  | .training => 1
  | .ident => 2
  | .run => 3
  | .retrain => 4

/-- One pulse link (R228 to R256). -/
structure Link where
  state : LinkState := .training
  /-- Tick of entry to the state. -/
  since : Nat := 0
  symbolLock : Bool := false
  fseq : Nat := 0
  /-- LINE frames since RUN. -/
  lines : Nat := 0
  /-- A TIME frame has gone out since RUN. -/
  timeSent : Bool := false
  lastTime : Nat := 0
  lastStatus : Nat := 0
  /-- Stamps of FRAME_LOST and LATE reports, newest first. -/
  reports : List Nat := []
  /-- Panel sequence number and exposure of past lines by SWEEP_TAG (R247). -/
  tags : Map Nat := []
  failed : Nat := 0
  /-- Beams that stay failed until CLEAR and a later good STATUS (R246). -/
  failedMarks : Nat := 0
  /-- Of those, the beams that the last CLEAR covers. -/
  clearMask : Nat := 0
  dwellTrip : Bool := false
  bdTrip : Bool := false
  bdTripAt : Nat := 0
  powerTrip : Bool := false
  driverId : Nat := 0
  latency : Nat := 0
  maxRate : Nat := 0
  lost : Nat := 0
  errors : Nat := 0
  dwellTrips : Nat := 0
  bdTrips : Nat := 0
  powerTrips : Nat := 0
  retrains : Nat := 0
  /-- Last RATIO by beam. -/
  ratios : Map Nat := []
  /-- Length of the run that ends at the last cell sent, by beam, in 1/64 cell (R252). -/
  runs : Map Nat := []
deriving DecidableEq, Repr

end Sys2Proof.Machine
end

