-- ==== Sys2Proof/Machine/Units/Store.lean ====
section
/-! DEFINITION. State of the panel store, the arbiter and the codec (chapter 4). -/

namespace Sys2Proof.Machine

/-- One stored lane-line (R85, R104, R119). -/
structure StoredLine where
  /-- It counts as stored. -/
  stored : Bool := false
  /-- 0 4-bit packed from x_a, 1 TRC blocks, 2 8-bit. -/
  form : Nat := 0
  bytes : List Nat := []
  /-- Number of the chain it belongs to (R119). -/
  chain : Nat := 0
  /-- Blocks of it that met an uncorrectable error or failed to decode (R102, R125). -/
  badBlocks : List Nat := []
deriving DecidableEq, Repr

/-- One arbiter port (R109 to R114). Requesters are numbered 8 × die + class. -/
structure Port where
  /-- Credit that each requester began this window with: its weight at that instant (R109). Before the first window one not
  listed has its present weight. -/
  weights : Map (Option Nat) := []
  /-- Bursts of BAR4 accesses that wait as the SUPERVISOR requester (R74). -/
  supervisor : Nat := 0
  /-- Bursts charged in this window, by requester. -/
  spent : Map Nat := []
  /-- Dies whose PLAYBACK asked at some decision of this window, and that failed to ask at one. -/
  asked : Nat := 0
  missed : Nat := 0
  /-- Requesters that withdrew after a grant in this window (R111). -/
  excluded : List Nat := []
  lastGrant : Option Nat := none
  /-- Non-playback requesters are in detention (R114). -/
  detained : Bool := false
  shortWindows : Nat := 0
deriving DecidableEq, Repr

/-- One memory channel (R98, R103). -/
structure MemChannel where
  /-- Capacity in GB of 2^30 bytes: 4, 8, 12 or 16. -/
  gb : Nat := 16
  /-- Ranks, 1 or 2. -/
  ranks : Nat := 1
  /-- What the devices' mode registers hold, read during training (R98). -/
  deviceGb : Nat := 16
  deviceRanks : Nat := 1
  lost : Bool := false
  /-- It failed training at start (R99). -/
  untrained : Bool := false
  /-- Stamps of recent uncorrectable errors, newest first. -/
  errors : List Nat := []
deriving DecidableEq, Repr

/-- Codec stream state of a ring (R127 to R129). -/
structure Stream where
  linePixels : Nat := 0
  /-- The last two whole lines of the chain, newest first, and the current line so far. -/
  prev : List Nat := []
  prev2 : List Nat := []
  cur : List Nat := []
  /-- Compress: input bytes of the open block. Decompress: bytes of a partial block. -/
  pendingBytes : List Nat := []
  /-- Bytes of the next job to skip (R129). -/
  skip : Nat := 0
  /-- Decompress: bytes of the blocks of the current line so far (R120). -/
  size : Nat := 0
deriving DecidableEq, Repr

structure Store where
  channels : Map MemChannel := []
  /-- Panel store data bytes written over BAR4; an unlisted byte reads 0. -/
  cells : List Host.Cell := []
  /-- Raster has been stored: its place in the data space is not known, so a BAR4 read answers a free value. -/
  rasterIn : Bool := false
  /-- Data bytes that permitted BAR4 writes have written since raster was last stored: they read back as written (R74). -/
  probed : List Nat := []
  ports : Map Port := []
  corrected : Nat := 0
  uncorrectable : Nat := 0
  /-- Data rate in use (R131). -/
  rate : Nat := 8533
  /-- Largest legal H_max last computed (R108). -/
  largest : Nat := 0
  /-- Compressor mismatch counts, and dies whose compressor is in detention (R122, R123). -/
  mismatches : Map Nat := []
  compressorHeld : Nat := 0
  streams : Map Stream := []
  /-- Bursts in the prefetch buffer of each die's playback decompressor (R113). -/
  prefetch : Map Nat := []
  nextChain : Nat := 1
deriving DecidableEq, Repr

end Sys2Proof.Machine
end

