-- ==== Sys2Proof/Machine/State.lean ====
section
/-! DEFINITION. The state of the block: every register, queue, counter, mode and pin the spec gives it, and the
queue of commands waiting. -/

namespace Sys2Proof.Machine

/-- Reasons to stop with a fault. -/
inductive Fault where
  /-- Raised by no meaning: the spec gives every command an effect. Safe. -/
  | none
deriving DecidableEq, Repr

/-- Reasons to refuse. -/
inductive Refusal where
  /-- Raised by an arm of `exec` whose command has no meaning yet. Safe. -/
  | notModelled (mnemonic : String)
deriving DecidableEq, Repr

/-- The machine. Fields with no comment follow their unit's file. -/
structure State where
  /-- Commands waiting, first in, first out. -/
  pending : List Instr := []
  /-- Abort drawn by the last dictionary access; none: accepted (R453). -/
  resp : Option Abort := none
  /-- Bytes answered by the last read. -/
  answer : List Nat := []
  /-- What the part has sent, newest first. -/
  out : List Out := []
  /-- Free values drawn so far: the model's own counter. -/
  freeCount : Nat := 0
  variant : Variant := .yk8c
  /-- Timebase of the lead die, in ticks of 625 ps (R29). -/
  timebase : Nat := 0
  /-- Objects written, raw image by index*256+sub; an object not listed holds its default. -/
  od : Map (Option Nat) := []
  /-- DOMAIN objects written, by index*256+sub. -/
  domains : Map (List Nat) := []
  web : Web := {}
  tt : Timetable := {}
  slots : Map Slot := []
  stations : Map Station := []
  record : Record := {}
  /-- Current tone-to-width table of each station (R159). -/
  tones : Map Tone := []
  /-- Leading beam of each scanner (0x2151). -/
  leading : Map Nat := []
  stitches : Map Stitch := []
  /-- Stored lines, by the key of `lineKey` (R85), and lines decoded that no window has taken yet. -/
  lines : Map StoredLine := []
  played : Map (List Nat) := []
  lanes : Map Lane := []
  /-- Result of the last lane command (0x2500:2). -/
  laneResult : Nat := 0
  laneCmd : LaneCmd := {}
  flips : Flips := {}
  /-- Slates that decide the blend zones of lines that one of their two scanners has committed, by the key of `lineKey` of the
  lower scanner's lane (R179). -/
  blends : Map (Option Mesh) := []
  scanners : Map Scanner := []
  links : Map Link := []
  chans : Map Channel := []
  latches : Map Latch := []
  compares : Map Compare := []
  axes : Map Axis := []
  transport : Transport := {}
  slotsL : Map LoopSlot := []
  conv0 : Converter := {}
  conv1 : Converter := {}
  dsInputs : Map DsInput := []
  hv : Map HvChannel := []
  zones : Map Zone := []
  nip : NipState := .opened
  clocks : Map DieClock := []
  /-- Active divider words by output 8*die+k; one not listed holds the reset word. -/
  dividers : Map Nat := []
  group : GroupTime := {}
  haling : Haling := {}
  power : Power := {}
  thermal : Map Thermal := []
  /-- Thermal ceiling in force, REAL32 (0x4220:5). -/
  thermalCeiling : Nat := 0
  flash : Flash := {}
  straps : Straps := {}
  jtag : Jtag := {}
  intake : Intake := {}
  store : Store := {}
  hazard : Hazard := {}
  sealed : Seal := {}
  fuses : Fuses := {}
  faults : Faults := {}
  dies : Dies := {}
  inject : Inject := {}
  nmt : Nmt := {}
  can : Can := {}
  /-- Segmented USDO transfers in progress, by controller. -/
  usdo : Map (Option Usdo) := []
  mirrors : Map Mirror := []
  /-- Mirror slots whose accesses wait for the lead die to leave boot (R456), in order of arrival. -/
  mirrorQueue : List Nat := []
  trace : Trace := {}
deriving DecidableEq, Repr

/-- The machine right after reset: power-up done, every PLL of every die locked, the image in slot 0 running, boot done and
the node PRE-OPERATIONAL (R417, R446, R490). The start has computed the largest legal panel of this store and these spans (R108,
its second figure for a YK8-C). Every field not named stands at its reset value. -/
def State.reset : State :=
  { store := { largest := 47241 }
    clocks := (List.range 8).map fun d =>
      let plls := if d = 0 then 0x7F else if d = 1 then 0x57 else 0x53
      (d, { lock := plls, ever := plls })
    flash := { running := some 0 } }

end Sys2Proof.Machine
end

