-- ==== Sys2Proof/Machine/Ops.lean ====
section
/-! DEFINITION. The operations shared by every family: reading and writing the tables of State, time, presence of
dies, dictionary values, what the part sends, trace entries, events, MSI-X vectors and fault notes. -/

namespace Sys2Proof.Machine

/-! Tables of State. -/

def State.slot (s : State) (i : Nat) : Slot := mapGet {} s.slots i

def State.modSlot (s : State) (i : Nat) (f : Slot → Slot) : State := { s with slots := mapMod {} s.slots i f }

def State.station (s : State) (i : Nat) : Station := mapGet {} s.stations i

def State.modStation (s : State) (i : Nat) (f : Station → Station) : State :=
  { s with stations := mapMod {} s.stations i f }

def State.ring (s : State) (q : Nat) : Ring := mapGet {} s.intake.rings q

def State.modRing (s : State) (q : Nat) (f : Ring → Ring) : State :=
  { s with intake := { s.intake with rings := mapMod {} s.intake.rings q f } }

/-! Time. -/

/-- One millisecond, and one microsecond, in ticks of 625 ps (R29). -/
def ticksPerMs : Nat := 1600000

def ticksPerUs : Nat := 1600

/-- The timebase moved on to `t` where it stands before it: an event's own instant has come. -/
def State.advanceTo (s : State) (t : Nat) : State := { s with timebase := max s.timebase t }

/-! What is sent. -/

/-- One thing sent. -/
def State.emit (s : State) (kind : OutKind) (unit : Nat) (data : List Nat) : State :=
  { s with out := { kind, unit, data } :: s.out }

/-! Presence (R2, R4). -/

/-- Die `d` is fitted on this variant (Table 0-1). -/
def State.fitted (s : State) (d : Nat) : Bool := decide (d < s.variant.dies)

/-- Die `d` is fitted and not fenced (R2, R4). -/
def State.present (s : State) (d : Nat) : Bool := s.fitted d && !bit s.dies.fenced d

/-- Dies present, in ascending number. -/
def State.presentDies (s : State) : List Nat := (upTo 8).filter s.present

def State.memChannel (s : State) (c : Nat) : MemChannel := mapGet {} s.store.channels c

/-- Memory channel c is fitted, trained, in service and on a healthy die (R99, R103). -/
def State.channelPresent (s : State) (c : Nat) : Bool :=
  decide (c < s.variant.channels) && !(s.memChannel c).lost && !(s.memChannel c).untrained && s.present c

/-- Scanner g, lane L: their station (R9). -/
def scannerStation (g : Nat) : Nat := g / 4

def laneStation (l : Nat) : Nat := l / 128

def laneScanner (l : Nat) : Nat := l / 32

def laneOf (g b : Nat) : Nat := 32 * g + b

/-! Dictionary values. -/

/-- Key of an object. -/
def odKey (index sub : Nat) : Nat := index * 256 + sub

/-- Default of an object; the default COB-IDs of 0x1014 and of PDOs 1 to 4 depend on the node ID (Table 15-9). -/
def State.odDefault (s : State) (index sub : Nat) : Nat :=
  if index = 0x1014 then 0x80 + s.nmt.node
  else if sub = 1 ∧ 0x1400 ≤ index ∧ index ≤ 0x1403 then 0x200 + 0x100 * (index - 0x1400) + s.nmt.node
  else if sub = 1 ∧ 0x1800 ≤ index ∧ index ≤ 0x1803 then 0x180 + 0x100 * (index - 0x1800) + s.nmt.node
  else objDefault index sub

/-- Raw image of a stored object. -/
def State.cfg (s : State) (index sub : Nat) : Nat :=
  match mapGet none s.od (odKey index sub) with
  | some v => v
  | none => s.odDefault index sub

/-- Raw image stored. -/
def State.setCfg (s : State) (index sub v : Nat) : State :=
  { s with od := mapSet none s.od (odKey index sub) (some v) }

/-- Value of a stored REAL32 object. -/
def State.cfgReal (s : State) (index sub : Nat) : Rat := realOr0 (s.cfg index sub)

/-- Signed value of a stored 64-bit object. -/
def State.cfgI64 (s : State) (index sub : Nat) : Int := toSigned 64 (s.cfg index sub)

/-- Bytes of a DOMAIN object; empty where never written. -/
def State.domain (s : State) (index sub : Nat) : List Nat := mapGet [] s.domains (odKey index sub)

def State.setDomain (s : State) (index sub : Nat) (bs : List Nat) : State :=
  { s with domains := mapSet [] s.domains (odKey index sub) bs }

/-! Web position. -/

/-- W in 1/65,536 line unit, truncated towards minus infinity (R18). -/
def State.w (s : State) : Int := s.web.w48 / 2 ^ 32

/-! Trace (R468 to R470). -/

/-- Trace word of an entry (Table 15-13). -/
def traceWord (kind data delta : Nat) : Nat := kind * 2 ^ 28 + data % 2 ^ 16 * 2 ^ 12 + delta % 2 ^ 12

/-- The three words of a full timestamp (Table 15-14). -/
def traceStamp (t : Nat) : List Nat := [traceWord 7 0 0, t / 2 ^ 32 % 2 ^ 32, t % 2 ^ 32]

def traceSize : Nat := 4194304

/-- One word written to the circular buffer; in mode 1 a full buffer takes no more. -/
def Trace.push (mode : Nat) (tr : Trace) (w : Nat) : Trace :=
  if mode = 1 ∧ tr.held = traceSize then tr
  else { tr with
    buf := mapSet 0 tr.buf (tr.written % traceSize) w
    written := wrapInc 32 tr.written
    held := if tr.held < traceSize then tr.held + 1 else tr.held }

/-- The TRACE requester, die 0's, is detained at a port in service, over which the system reservation is interleaved (R101, R105,
R114): words stay in the staging buffer (R469). -/
def State.traceBlocked (s : State) : Bool := (upTo 2).any fun k => s.channelPresent k && (mapGet {} s.store.ports k).detained

/-- A fault note put in the collector's inbox, as it is. -/
def State.inboxPush (s : State) (code : Nat) (inDet inj : Bool) : State :=
  { s with faults := { s.faults with
      inbox := s.faults.inbox ++ [{ code, stamp := s.timebase, inDetention := inDet, injected := inj }] } }

/-- Words of one entry or marker, after which the reference time is `ref` (R468): staged while the requester is detained, written
otherwise, and dropped and counted when the 4 KB staging buffer is full (R469, trace cause 1). A drop leaves the reference time, and
marker 5 comes before anything else is staged. -/
def State.traceWords (s : State) (ws : List Nat) (ref : Nat) : State :=
  let mode := s.cfg 0x4400 3
  if s.traceBlocked then
    if s.trace.lost = 0 ∧ s.trace.staged.length + ws.length ≤ 1024 then
      { s with trace := { s.trace with staged := s.trace.staged ++ ws, reference := ref } }
    else
      let s1 := { s with trace := { s.trace with dropped := wrapInc 32 s.trace.dropped, lost := satInc 12 s.trace.lost } }
      s1.inboxPush (0x34 * 2 ^ 24 + 1) false false
  else
    { s with trace := (s.trace.staged ++ ws).foldl (Trace.push mode) { s.trace with staged := [], reference := ref } }

/-- Where entries were dropped, the next one written is marker 5 with their number (R469). -/
def State.traceLost (s : State) : State :=
  if s.trace.lost = 0 ∨ s.traceBlocked = true then s
  else
    let s1 := s.traceWords (traceWord 5 (5 * 2 ^ 12 + s.trace.lost) 0 :: traceStamp s.timebase) s.timebase
    { s1 with trace := { s1.trace with lost := 0 } }

/-- A trace entry of a kind that carries a DELTA (R468). -/
def State.traceEntry (s : State) (kind data : Nat) : State :=
  if s.trace.on = false ∨ s.trace.paused = true ∨ bit (s.cfg 0x4400 2) kind = false then s
  else
    let s := s.traceLost
    let d := (s.timebase - s.trace.reference) / 1024
    if 4095 < d then s.traceWords (traceStamp s.timebase ++ [traceWord kind data 0]) s.timebase
    else s.traceWords [traceWord kind data d] (s.trace.reference + 1024 * d)

/-- The roll call enters a state (traced, Table 15-14). -/
def State.toRoll (s : State) (x : RollState) : State :=
  if s.haling.roll = x then s
  else ({ s with haling := { s.haling with roll := x } }).traceEntry 2 (2 * 2 ^ 12 + x.code)

/-- A marker, followed at once by a full timestamp (R469). -/
def State.traceMarker (s : State) (ty n : Nat) : State :=
  if s.trace.on = false ∨ s.trace.paused = true then s
  else
    let s := s.traceLost
    s.traceWords (traceWord 5 (ty * 2 ^ 12 + n) 0 :: traceStamp s.timebase) s.timebase

/-- Tracing is turned on or off; marker 4 is the first thing written when it starts (R469). -/
def State.traceTo (s : State) (on : Bool) : State :=
  if on = true ∧ s.trace.on = false then ({ s with trace := { s.trace with on } }).traceMarker 4 0
  else { s with trace := { s.trace with on } }

/-! MSI-X (R91). -/

def State.msixEntry (s : State) (v : Nat) : MsixEntry := mapGet {} s.intake.msix v

/-- MSI-X is enabled and the function is not masked, as PCIe defines (R91). -/
def State.msixOpen (s : State) : Bool := s.intake.msixEnable && !s.intake.functionMask

/-- Send a vector, or set its pending bit while it is masked. -/
def State.sendMsix (s : State) (v : Nat) : State :=
  let e := s.msixEntry v
  if e.masked || !s.msixOpen then { s with intake := { s.intake with msix := mapSet {} s.intake.msix v { e with pending := true } } }
  else s.emit .msix v [e.addr, e.data]

/-! Ring numbering and events (R75, R94, R95). -/

def ringDie (q : Nat) : Nat := q / 8192

def ringLocal (q : Nat) : Nat := q % 8192

/-- Control block of a control ring (R75). -/
def ringBlock (q : Nat) : Nat := (ringLocal q - 4096) / 32 + 1

/-- KIND of a ring (Table 3-6). -/
def State.ringKind (s : State) (q : Nat) : Nat :=
  if ringLocal q < 4096 then 1 else s.cfg (0x2210 + ringDie q) (ringBlock q)

/-- Lane and slot of a raster ring (R75). -/
def ringLane (q : Nat) : Nat := 128 * ringDie q + ringLocal q / 32

def ringSlot (q : Nat) : Nat := ringLocal q % 32

/-- Raster ring of a lane for a slot (R75). -/
def rasterRing (l i : Nat) : Nat := 8192 * (l / 128) + 32 * (l % 128) + i

/-- PHASE of index n: NOT bit ORDER (R87). -/
def phaseBit (order n : Nat) : Nat := b2n (!bit n order)

/-- The enabled event ring with the lowest local number on die d (R94). -/
def State.eventRing (s : State) (d : Nat) : Option Nat :=
  (s.intake.rings.find? fun kv =>
    decide (ringDie kv.1 = d) && decide (4096 ≤ ringLocal kv.1) && kv.2.enable && decide (s.ringKind kv.1 = 5)).map (·.1)

/-- An event ring has room for one record (R94). -/
def Ring.room (r : Ring) : Bool := decide (((r.producer : Int) - r.consumer) % 2 ^ 32 < 2 ^ r.order)

/-- Write one event record (Table 3-12) and advance PART_INDEX. -/
def State.writeEvent (s : State) (q ev subject data : Nat) : State :=
  let r := s.ring q
  let n := r.producer
  let w1 := subject % 2 ^ 32 + ev % 2 ^ 16 * 2 ^ 32 + phaseBit r.order n * 2 ^ 63
  let ws := s.timebase :: w1 :: (upTo 6).map fun k => data / 2 ^ (64 * k) % 2 ^ 64
  (s.emit .hostWrite (r.base + 64 * (n % 2 ^ r.order)) ws).modRing q fun r => { r with producer := wrapInc 32 r.producer }

/-- Drop and count an event of die d (R95). -/
def State.dropEvent (s : State) (d : Nat) : State :=
  { s with intake := { s.intake with
      eventDrops := wrapInc 32 s.intake.eventDrops
      dropped := mapMod 0 s.intake.dropped d (wrapInc 32) } }

/-- With room and drops outstanding, first post event 0x0007 (R95), traced as any other (Table 15-14). -/
def State.reportDrops (s : State) (d q : Nat) : State :=
  let n := mapGet 0 s.intake.dropped d
  if n ≠ 0 ∧ (s.ring q).room then
    let s1 := (s.traceEntry 1 7).writeEvent q 7 n 0
    { s1 with intake := { s1.intake with dropped := mapSet 0 s1.intake.dropped d 0 } }
  else s

/-- Post an event of die d: to its event ring, or dropped and counted (R94, R95). -/
def State.postEvent (s : State) (d ev subject data : Nat) : State :=
  match s.eventRing d with
  | none => (s.traceEntry 1 ev).dropEvent d
  | some q =>
    let s := (s.reportDrops d q).traceEntry 1 ev
    if (s.ring q).room then s.writeEvent q ev subject data else s.dropEvent d

/-- Timetable and part-wide events go to the lead die (R94, R391). -/
def State.postLead (s : State) (ev subject data : Nat) : State := s.postEvent s.dies.lead ev subject data

/-- The supervisor pair of die d leaves recess, and a trace that had stopped writes its resume marker (R434, R435). -/
def State.leaveRecess (s : State) (d : Nat) : State :=
  if (mapGet {} s.thermal d).recess = false then s
  else
    let s := { s with thermal := mapMod {} s.thermal d fun x => { x with recess := false } }
    if s.trace.paused then ({ s with trace := { s.trace with paused := false } }).traceMarker 2 0 else s

/-- A dictionary access or a received CAN frame: the pair that serves it, the lead die's, leaves recess (R409, R434). -/
def State.awake (s : State) : State := s.leaveRecess s.dies.lead

/-! Fault notes (R399, R401, R407). -/

/-- A fault code (Table 13-5). -/
def faultCode (cls unit die inst cause : Nat) : Nat :=
  cls * 2 ^ 30 + unit * 2 ^ 24 + die * 2 ^ 21 + inst * 2 ^ 10 + cause

def codeClass (c : Nat) : Nat := bits c 31 30

def codeUnit (c : Nat) : Nat := bits c 29 24

def codeDie (c : Nat) : Nat := bits c 23 21

def codeInst (c : Nat) : Nat := bits c 20 10

def codeCause (c : Nat) : Nat := bits c 9 0

/-- The unit a code names: type, die and instance. -/
def codeKey (c : Nat) : Nat := bits c 29 10

/-- The unit of a code is in detention. -/
def State.inDetention (s : State) (code : Nat) : Bool :=
  s.faults.detained.any fun c => decide (c.1 = codeKey code)

/-- A fault is detected: it goes to the collector's inbox and to the trace, and ends recess (R434). -/
def State.note (s : State) (code : Nat) (injected : Bool := false) : State :=
  let s := (s.leaveRecess (codeDie code)).awake
  let s1 := s.inboxPush code (s.inDetention code) injected
  s1.traceEntry (8 + codeDie code) (codeUnit code * 2 ^ 10 + codeCause code)

/-- The unit `unit die inst` enters detention by the fault `code` (R407, 0x4102). -/
def State.detainUnit (s : State) (unit die inst code : Nat) : State :=
  if s.inDetention (faultCode 0 unit die inst 0) then s
  else { s with faults := { s.faults with
      detained := s.faults.detained ++ [(codeKey (faultCode 0 unit die inst 0), code)] } }

/-- A unit leaves detention. -/
def State.undetain (s : State) (unit die inst : Nat) : State :=
  { s with faults := { s.faults with
      detained := s.faults.detained.filter fun c => decide (c.1 ≠ codeKey (faultCode 0 unit die inst 0)) } }

/-! Free values. -/

/-- Draw a free number. -/
def State.freeNat (s : State) : Nat × State := (Config.freeNat s.freeCount, { s with freeCount := s.freeCount + 1 })

/-- Draw a free integer. -/
def State.freeInt (s : State) : Int × State := (Config.freeInt s.freeCount, { s with freeCount := s.freeCount + 1 })

/-! Dictionary commands. -/

/-- What a refusal or an acceptance leaves: the abort drawn, or none. -/
def State.refuse (s : State) (a : Abort) : State := { s with resp := some a }

/-- An accepted write: traced with its index (Table 15-14, kind 3). -/
def State.accept (s : State) (index : Nat) : State := { (s.traceEntry 3 index) with resp := none }

/-- Indices of the reduced dictionary that boot ROM serves in recovery (R494). -/
def recoveryIndex (i : Nat) : Bool :=
  (decide (0x1000 ≤ i) && decide (i ≤ 0x1018)) || (decide (0x4100 ≤ i) && decide (i ≤ 0x4105))
    || [0x2000, 0x2001, 0x2010, 0x4300, 0x4310, 0x4330].contains i

/-- The dictionary holds the index (R494). -/
def State.served (s : State) (index : Nat) : Bool := !s.flash.recovery || recoveryIndex index

/-- A write of a command object by any path: not served before the lead die has left boot, refused in NMT STOPPED
(Table 15-2), otherwise checked by the command's own rules (R441). It ends the lead die's recess (R434). -/
def command (index : Nat) (op : State → Except Abort State) (s : State) : State :=
  let s := s.awake
  if s.nmt.booted = false then s
  else if s.served index = false then s.refuse .noObject
  else if s.nmt.state = .stopped then s.refuse .state
  else match op s with
    | .ok s1 => s1.accept index
    | .error a => s.refuse a

/-- Fail with an abort unless the condition holds. -/
def need (c : Bool) (a : Abort) : Except Abort Unit := if c then .ok () else .error a

end Sys2Proof.Machine
end

