-- ==== Sys2Proof/Machine/Basics.lean ====
section
/-! DEFINITION. The tables of units, the geometry of stations and scanners, running speeds, fuses, ramps and loop slot
owners: what several families read (R13, R177, R249, R276, R287, R297, R394). -/

namespace Sys2Proof.Machine

/-! Tables. -/

def State.lane (s : State) (l : Nat) : Lane := mapGet {} s.lanes l

def State.modLane (s : State) (l : Nat) (f : Lane → Lane) : State := { s with lanes := mapMod {} s.lanes l f }

def State.tone (s : State) (st : Nat) : Tone := mapGet {} s.tones st

def State.stitch (s : State) (st : Nat) : Stitch := mapGet {} s.stitches st

def State.scanner (s : State) (g : Nat) : Scanner := mapGet {} s.scanners g

def State.modScanner (s : State) (g : Nat) (f : Scanner → Scanner) : State :=
  { s with scanners := mapMod {} s.scanners g f }

def State.link (s : State) (g : Nat) : Link := mapGet {} s.links g

def State.modLink (s : State) (g : Nat) (f : Link → Link) : State := { s with links := mapMod {} s.links g f }

def State.chan (s : State) (ch : Nat) : Channel := mapGet {} s.chans ch

def State.modChan (s : State) (ch : Nat) (f : Channel → Channel) : State := { s with chans := mapMod {} s.chans ch f }

def State.latch (s : State) (n : Nat) : Latch := mapGet {} s.latches n

def State.modLatch (s : State) (n : Nat) (f : Latch → Latch) : State := { s with latches := mapMod {} s.latches n f }

def State.cmpOut (s : State) (n : Nat) : Compare := mapGet {} s.compares n

def State.modCmp (s : State) (n : Nat) (f : Compare → Compare) : State := { s with compares := mapMod {} s.compares n f }

def State.axis (s : State) (a : Nat) : Axis := mapGet {} s.axes a

def State.modAxis (s : State) (a : Nat) (f : Axis → Axis) : State := { s with axes := mapMod {} s.axes a f }

def State.loopSlot (s : State) (j : Nat) : LoopSlot := mapGet {} s.slotsL j

def State.modLoop (s : State) (j : Nat) (f : LoopSlot → LoopSlot) : State := { s with slotsL := mapMod {} s.slotsL j f }

def State.dsInput (s : State) (i : Nat) : DsInput := mapGet {} s.dsInputs i

def State.modDs (s : State) (i : Nat) (f : DsInput → DsInput) : State := { s with dsInputs := mapMod {} s.dsInputs i f }

def State.hvChan (s : State) (h : Nat) : HvChannel := mapGet {} s.hv h

def State.modHv (s : State) (h : Nat) (f : HvChannel → HvChannel) : State := { s with hv := mapMod {} s.hv h f }

def State.zone (s : State) (z : Nat) : Zone := mapGet {} s.zones z

def State.modZone (s : State) (z : Nat) (f : Zone → Zone) : State := { s with zones := mapMod {} s.zones z f }

def State.dieClock (s : State) (d : Nat) : DieClock := mapGet {} s.clocks d

def State.modClock (s : State) (d : Nat) (f : DieClock → DieClock) : State := { s with clocks := mapMod {} s.clocks d f }

/-- The copies of the timebase run: an edge PLL has locked since they were set to 0 (R344). -/
def State.timebaseRuns (s : State) : Bool := s.clocks.any fun kv => bit kv.2.ever 1

/-- Copy of the timebase that die d keeps (R344). -/
def State.timebaseOf (s : State) (d : Nat) : Int := (s.timebase : Int) + (s.dieClock d).skew

/-- Modulators of die d (0 the feedback divider, k + 1 that of output k) restart their LFSR from the synthesiser's seed (R339). -/
def State.restartLfsrs (s : State) (d : Nat) (ms : List Nat) : State :=
  let x : Lfsr := { value := bits (s.cfg (0x3808 + d) 2) 22 0, since := s.timebase }
  s.modClock d fun c => { c with lfsrs := ms.foldl (fun m k => mapSet {} m k x) c.lfsrs }

/-- One step of the LFSR of x^23 + x^18 + 1, and the bit that n updates after a restart dither the modulator (R339). -/
def lfsrStep (x : Nat) : Nat := x * 2 % 2 ^ 23 + Nat.xor (b2n (bit x 22)) (b2n (bit x 17))

def Lfsr.ditherBit (x : Lfsr) (n : Nat) : Nat := Nat.repeat lfsrStep n x.value % 2

def State.heat (s : State) (d : Nat) : Thermal := mapGet {} s.thermal d

def State.modHeat (s : State) (d : Nat) (f : Thermal → Thermal) : State := { s with thermal := mapMod {} s.thermal d f }

def State.peer (s : State) (seat : Nat) : Peer := mapGet {} s.haling.peers seat

def State.modPeer (s : State) (seat : Nat) (f : Peer → Peer) : State :=
  { s with haling := { s.haling with peers := mapMod {} s.haling.peers seat f } }

/-! Unit numbers (Table 9-1, R297, R311, R313, R319). -/

def axisDie (a : Nat) : Nat := if a < 16 then a / 2 else (a - 16) / 6

def chanDie (ch : Nat) : Nat := if ch < 16 then ch / 2 else ch - 16

def slotDie (j : Nat) : Nat := j / 64

def hvDie (h : Nat) : Nat := h / 8

def zoneDie (z : Nat) : Nat := z / 4

/-- Scanner g is fitted on a die that is present. -/
def State.scannerPresent (s : State) (g : Nat) : Bool := decide (g < 32) && s.present (scannerStation g)

def State.axisPresent (s : State) (a : Nat) : Bool := decide (a < 64) && s.present (axisDie a)

def State.chanPresent (s : State) (ch : Nat) : Bool := decide (ch < 24) && s.present (chanDie ch)

def State.latchPresent (s : State) (n : Nat) : Bool := decide (n < 64) && s.present (n / 8)

def State.slotPresent (s : State) (j : Nat) : Bool := decide (j < 512) && s.present (slotDie j)

def State.hvPresent (s : State) (h : Nat) : Bool := decide (h < 64) && s.present (hvDie h)

def State.zonePresent (s : State) (z : Nat) : Bool := decide (z < 32) && s.present (zoneDie z)

/-! Settings selected by temperature band (R429, Table 14-5). -/

/-- Refresh multiplier of LPDDR5X in band k: ×1 below 80 degrees, ×2 from 80, ×4 from 90. -/
def bandRefresh (k : Nat) : Nat := if k < 12 then 1 else if k < 13 then 2 else 4

/-- Refresh multiplier of memory channel c, on die c: never below what the devices' reading requires. -/
def State.refreshMultiplier (s : State) (c : Nat) : Nat :=
  max (bandRefresh (s.heat c).band) (Config.refreshRequired c (s.power.supplies.getD (22 + c) 0))

/-- Transmit preset in band k from a base preset: -1 below 20 degrees, +0 to 70, +1 to 100, +2 from 100, limited to 0 to 7. -/
def bandPreset (base k : Nat) : Nat :=
  if k < 6 then base - 1 else if k < 11 then base else if k < 14 then min 7 (base + 1) else min 7 (base + 2)

/-- The band whose settings Pulse link g and the TDC of scanner g use. -/
def State.linkBand (s : State) (g : Nat) : Nat := mapGet 0 (s.heat (scannerStation g)).linkBands (g % 4)

/-- Transmit preset in use on Pulse link g. -/
def State.linkPreset (s : State) (g : Nat) : Nat := bandPreset (s.cfg (0x2A00 + g) 7) (s.linkBand g)

/-- Scanner g has no line in emission and no edge that waits for its commitment: its link takes the settings of the die's
band. -/
def State.adoptBand (s : State) (g : Nat) : State :=
  let x := s.scanner g
  if x.line.isNone && x.edge.isNone then
    s.modHeat (scannerStation g) fun h => { h with linkBands := mapSet 0 h.linkBands (g % 4) h.band }
  else s

/-- The TDC calibration table of the band of die d is filled at the first housekeeping round in that band. -/
def State.fillTdcTable (s : State) (d : Nat) : State :=
  s.modHeat d fun h => { h with tdcTables := setBit h.tdcTables h.band true }

/-! LEGACY (R466). -/

/-- The selections of 0x2020:2; all three while the ball reads 1. -/
def State.legacySelection (s : State) : Nat := if s.straps.legacy then 7 else s.cfg 0x2020 2

/-! Spans (R177). -/

/-- Printable width P_s (R27). -/
def State.printable (s : State) (st : Nat) : Nat := s.cfg 0x2183 (st + 1)

/-- x_lo and x_hi of scanner g, under given stitch settings and width. -/
def spanUnder (t : Stitch) (p j : Nat) : Nat × Nat :=
  (if j = 0 then 0 else t.beta.getD (j - 1) 0 - t.overlap.getD (j - 1) 0,
   if j + 1 = t.nc then p - 1 else t.beta.getD j 0 + t.overlap.getD j 0 - 1)

/-- x_lo and x_hi of scanner g in force; a scanner that its station does not use has none, written 0 and 0. -/
def State.spanOf (s : State) (g : Nat) : Nat × Nat :=
  let t := s.stitch (scannerStation g)
  if g % 4 < t.nc then spanUnder t (s.printable (scannerStation g)) (g % 4) else (0, 0)

/-! Maker fuses (R394). -/

/-- Value of a fuse field: 0 unless it is programmed, valid and its copies agree. -/
def State.fuse (s : State) (index sub : Nat) : Nat :=
  let f := mapGet {} s.fuses.fields (odKey index sub)
  if f.invalid ∨ f.copyA ≠ f.copyB then 0 else f.copyA

/-- A fuse bounded by a sealed limit: the lower of the two (R393). -/
def lower (a b : Nat) : Nat := min a b

/-! Ramps. -/

def ticksPerS : Nat := 1600000000

/-- `x` moved towards `goal` by at most `step`. -/
def approach (x goal step : Rat) : Rat :=
  if x ≤ goal then min goal (x + step) else max goal (x - step)

/-- Value of a ramp at a tick before its first turn. -/
def Ramp.line (r : Ramp) (t : Nat) : Rat :=
  if r.rate = 0 then r.goal
  else approach r.start r.goal (r.rate * ((t - r.since : Nat) : Rat) / (ticksPerS : Rat))

/-- Integral of a ramp from its start to a tick before its first turn. -/
def Ramp.span (r : Ramp) (t : Nat) : Rat :=
  let dt : Rat := ((t - r.since : Nat) : Rat) / (ticksPerS : Rat)
  if r.rate = 0 then r.goal * dt
  else
    let full : Rat := ratAbs (r.goal - r.start) / r.rate
    if dt ≤ full then (r.start + r.line t) / 2 * dt else (r.start + r.goal) / 2 * full + r.goal * (dt - full)

/-- The ramp at one of its turns, and the integral up to there. -/
def Ramp.pass (x : Ramp × Rat) (k : Nat × Rat × Rat) : Ramp × Rat :=
  ({ start := x.1.line k.1, since := k.1, goal := k.2.1, rate := k.2.2 }, x.2 + x.1.span k.1)

/-- The part of a ramp that is in force at a tick, with the integral from the start up to where that part begins. -/
def Ramp.upTo_ (r : Ramp) (t : Nat) : Ramp × Rat :=
  (r.turns.filter fun k => decide (k.1 ≤ t)).foldl Ramp.pass ({ r with turns := [] }, 0)

/-- The ramp as it goes on from a tick, without what lies before the part then in force. -/
def Ramp.from_ (r : Ramp) (t : Nat) : Ramp := { (r.upTo_ t).1 with turns := r.turns.filter fun k => decide (t < k.1) }

/-- Value of a ramp at a tick. -/
def Ramp.at_ (r : Ramp) (t : Nat) : Rat := (r.upTo_ t).1.line t

/-- Integral of a ramp from its start to a tick. -/
def Ramp.area (r : Ramp) (t : Nat) : Rat := let x := r.upTo_ t; x.2 + x.1.span t

/-- The ramp turned to a new goal now. -/
def Ramp.turn (r : Ramp) (t : Nat) (goal rate : Rat) : Ramp := { start := r.at_ t, since := t, goal, rate }

/-- The same, with what it was before kept, for an integral still to be taken. -/
def Ramp.bend (r : Ramp) (t : Nat) (turns : List (Nat × Rat × Rat)) : Ramp :=
  { r with turns := (r.turns.filter fun k => decide (k.1 < t)) ++ turns }

/-- Tick at which the last part of a ramp reaches its goal. -/
def Ramp.endAt (r : Ramp) : Nat :=
  let x := (r.turns.foldl Ramp.pass ({ r with turns := [] }, 0)).1
  if x.rate = 0 then x.since else x.since + (-(ratFloor (-(ratAbs (x.goal - x.start) / x.rate * (ticksPerS : Rat))))).toNat

/-- Seconds in ticks, rounded down. -/
def inTicks (q : Rat) : Nat := (ratFloor (q * (ticksPerS : Rat))).toNat

/-- Square root of a natural number, by its bits from bit `b - 1` down. -/
def isqrtFrom (n : Nat) : Nat → Nat → Nat
  | 0, r => r
  | b + 1, r => isqrtFrom n b (if (r + 2 ^ b) * (r + 2 ^ b) ≤ n then r + 2 ^ b else r)

/-- Square root, rounded down to 1/2^20. -/
def ratSqrt (q : Rat) : Rat :=
  let n := (ratFloor (q * (2 ^ 40 : Nat))).toNat
  (isqrtFrom n (Nat.log2 n / 2 + 1) 0 : Rat) / (2 ^ 20 : Nat)

/-- The turns of a trapezoid that moves by `d` from velocity `v0` at tick `t` and ends at rest (R275): to the speed, or to the peak
that the distance allows, and to 0 at the tick where it must; the peak is rounded down to 1/2^20 and the tick to its whole ticks. -/
def trapezoid (t : Nat) (v0 d speed acc : Rat) : List (Nat × Rat × Rat) :=
  let top := ratAbs speed
  if top = 0 then [(t, 0, acc)]
  else if acc = 0 then [(t, if d < 0 then -top else top, 0), (t + inTicks (ratAbs d / top), 0, 0)]
  else
    let dir : Rat := if d < v0 * ratAbs v0 / (2 * acc) then -1 else 1
    let u := dir * v0
    let far := dir * d
    let peak := min top (ratSqrt (acc * far + u * u / 2))
    let first := ratAbs (peak * peak - u * u) / (2 * acc)
    let first := if u < 0 then (peak * peak - u * u) / (2 * acc) else first
    let cruise := if peak = 0 then 0 else max 0 (far - first - peak * peak / (2 * acc)) / peak
    [(t, dir * peak, acc), (t + inTicks (ratAbs (peak - u) / acc + cruise), 0, acc)]

/-! Web speeds (R45, R287). -/

/-- A speed ceiling that counts where it is not 0. -/
def ceilTo (x c : Rat) : Rat := if c = 0 then x else min x c

/-- The running speed: the lowest of v_run, v_max, the ceiling of R59 and the thermal request (R287). -/
def State.runningSpeed (s : State) : Rat :=
  ceilTo (ceilTo (min (s.cfgReal 0x311F 4) (s.cfgReal 0x2320 1)) (realOr0 s.tt.ceiling)) (realOr0 s.thermalCeiling)

/-- Restart speed v_r (R45). -/
def State.restartSpeed (s : State) : Rat :=
  let v := s.runningSpeed
  if 0 < s.tt.vBefore ∧ s.tt.vBefore < v then s.tt.vBefore else v

/-- The windows of 1 ms that end by tick t, W having stood at `w` since its last count (R27): they follow each other, and a
window in which W did not move has speed 0 (DESIGN CHOICE, log 7: the windows do not overlap). -/
def Web.window (x : Web) (t : Nat) (w : Int) : Web :=
  let k := (t - x.winAt) / ticksPerMs
  if k = 0 then x
  else
    { x with
      speed := if k = 1 then ((w - x.winW : Int) : Rat) / 65536 * 1000 else 0
      winAt := x.winAt + k * ticksPerMs, winW := w }

/-- Measured web speed in line units per second: the last whole window of 1 ms (R27). -/
def State.webSpeed (s : State) : Rat := (s.web.window s.timebase s.w).speed

/-! Fault reactions need to know (R58, R246). -/

/-- Beam b of scanner g is healthy: its lane and scanner are not detained, its driver has not reported it failed, and
no latched trip holds its LASER_EN low. -/
def State.beamHealthy (s : State) (g b : Nat) : Bool :=
  let k := s.link g
  decide ((s.lane (laneOf g b)).state ≠ .detained) && decide ((s.scanner g).state ≠ .detained)
    && !bit k.failedMarks b && !k.dwellTrip && !k.powerTrip

/-- DMA channels below the priority floor move one beat of 2 or 4 at throttle levels 2 and 3 (R430): whether the present beat of the die
may move such a channel. -/
def State.channelMayMove (s : State) (d prio : Nat) : Bool :=
  let lv := (s.heat d).level
  if s.cfg 0x4220 6 ≤ prio ∨ lv < 2 then true
  else decide (mapGet 0 s.intake.beats d % (if lv = 2 then 2 else 4) = 0)

/-! MFIO assignment (R504 to R506). -/

/-- Some MFIO carries this signal: its function word names the code, instance and signal (Table 17-5). -/
def State.assigned (s : State) (code inst sig : Nat) : Bool :=
  s.od.any fun kv =>
    decide (0x5000 ≤ kv.1 / 256) && decide (kv.1 / 256 < 0x50E0) && decide (kv.1 % 256 = 1)
      && decide (kv.2.getD 0 / 256 = code * 2 ^ 16 + inst * 2 ^ 4 + sig)

/-- All of these signals of one code and instance are assigned. -/
def State.allAssigned (s : State) (code inst : Nat) (sigs : List Nat) : Bool := sigs.all (s.assigned code inst)

/-! Loop slot owners (R276, R297). -/

/-- Axes, HV channels and zones of a die. -/
def dieAxes (d : Nat) : List Nat := [2 * d, 2 * d + 1] ++ (upTo 6).map (16 + 6 * d + ·)

def dieHv (d : Nat) : List Nat := (upTo 8).map (8 * d + ·)

def dieZones (d : Nat) : List Nat := (upTo 4).map (4 * d + ·)

/-- Axis a names local slot j. -/
def State.axisNames (s : State) (a j : Nat) : Bool :=
  let w := s.cfg (0x3000 + a) 13
  (upTo 4).any fun k => decide (w / 256 ^ k % 256 = j)

/-- The channel named as master web encoder has recorded no count for 10 ms, or none at all since power-up (R20, DEDUCED).
Every good word of a serial channel is a count here, also one with an unchanged position (DESIGN CHOICE, log 41). -/
def State.webQuiet (s : State) : Bool :=
  let t := (s.chan (s.cfg 0x2180 1)).t1
  decide (t = 0) || decide (t + 10 * ticksPerMs ≤ s.timebase)

/-- The web drive axis, where one is named (R286). -/
def State.webAxis (s : State) : Option Nat := let a := s.cfg 0x311F 1; if a < 64 then some a else none

/-- Owner of slot j of the part, and the owner's number. Local slots 0 to 3 are their scanners' outside OFF (R211, R297); in
OFF their status reads its reset value, owner kind 0 (DEDUCED). -/
def State.slotOwner (s : State) (j : Nat) : Owner × Nat :=
  let d := slotDie j
  let k := j % 64
  if k < 4 then if (s.scanner (4 * d + k)).state = .off then (.host, 0) else (.scanner, 4 * d + k)
  else match (dieAxes d).find? fun a => s.axisNames a k with
    | some a => (.axis, a)
    | none =>
      if (match s.webAxis with | some a => decide (axisDie a = d) | none => false) && decide (s.cfg 0x311F 3 = k) then (.transport, 0)
      else match (dieHv d).find? fun h => decide (s.cfg (0x3400 + h) 9 = k) with
        | some h => (.hv, h)
        | none =>
          match (dieZones d).find? fun z => decide (s.cfg (0x3500 + z) 11 = k) with
          | some z => (.zone, z)
          | none => (.host, 0)

/-- The slot that unit names, as a number over the part; none where it names none. -/
def slotNamed (d k : Nat) : Option Nat := if k < 64 then some (64 * d + k) else none

def State.hvSlot (s : State) (h : Nat) : Option Nat := slotNamed (hvDie h) (s.cfg (0x3400 + h) 9)

def State.zoneSlot (s : State) (z : Nat) : Option Nat := slotNamed (zoneDie z) (s.cfg (0x3500 + z) 11)

/-- Slot of an axis: 0 current, 1 velocity, 2 position, 3 tension. -/
def State.axisSlot (s : State) (a k : Nat) : Option Nat :=
  slotNamed (axisDie a) (s.cfg (0x3000 + a) 13 / 256 ^ k % 256)

/-! What a slot is wired to (R298, R300, Table 10-2). -/

/-- Measured quantity's input of an HV channel: its voltage in mode 0, its current in mode 1 (R311, R314). -/
def State.hvInput (s : State) (h : Nat) : Nat := 16 * hvDie h + 2 * (h % 8) + s.cfg (0x3400 + h) 3

/-- Which of its four loops an axis runs in local slot k: 0 current, 1 velocity, 2 position, 3 tension. -/
def State.axisRole (s : State) (a k : Nat) : Nat :=
  ((upTo 4).find? fun r => decide (s.cfg (0x3000 + a) 13 / 256 ^ r % 256 = k)).getD 0

/-- Trigger word of slot j: the host's, or the one that the owner sets. -/
def State.trigWord (s : State) (j : Nat) : Nat :=
  match s.slotOwner j with
  | (.host, _) => s.cfg (0x3200 + j) 4
  | (.scanner, _) => 4 * 2 ^ 28
  | (.axis, a) => 5 * 2 ^ 28 + a
  | (.transport, _) => 5 * 2 ^ 28 + s.cfg 0x311F 1
  | (.hv, h) => 2 * 2 ^ 28 + s.hvInput h % 16 * 2 ^ 20 + s.cfg (0x3400 + h) 10
  | (.zone, _) => 7 * 2 ^ 28

/-- Input word of slot j: the host's, or the one that the owner sets; the part sets that of a tension slot too (R298), the spec not
saying to what. -/
def State.inputWord (s : State) (j : Nat) : Nat :=
  match s.slotOwner j with
  | (.host, _) => s.cfg (0x3200 + j) 5
  | (.axis, a) =>
    match s.axisRole a (j % 64) with
    | 0 => 1 * 2 ^ 24 + bits (s.cfg (0x3000 + a) 17) 31 28
    | 1 => 4 * 2 ^ 24 + a
    | 2 => 3 * 2 ^ 24 + s.cfg (0x3000 + a) 12
    | _ => Config.tensionInput a
  | (.hv, h) => 2 * 2 ^ 24 + s.hvInput h % 16
  | _ => 0

/-- The web position loop's slot (R286). -/
def State.webSlot (s : State) : Option Nat := match s.webAxis with
  | some a => slotNamed (axisDie a) (s.cfg 0x311F 3)
  | none => none

/-- Change the slot that is named. -/
def State.modNamed (s : State) (j : Option Nat) (f : LoopSlot → LoopSlot) : State :=
  match j with
  | some j => s.modLoop j f
  | none => s

/-- A slot starts: i = 0 and u_prev = 0 (R307). -/
def LoopSlot.start (x : LoopSlot) (bank : Bool) : LoopSlot :=
  { x with enabled := true, bank, first := true, i := 0, u := 0, d := 0, handover := false, trigPrev := none, trigger := none, waiting := false, outputs := 0, due := false }

/-- A slot stops and holds its output. -/
def LoopSlot.stop (x : LoopSlot) : LoopSlot := { x with enabled := false, trigger := none, waiting := false, due := false }

/-- A bumpless hand-over to a bank is due at the next computation (R306). -/
def LoopSlot.handTo (x : LoopSlot) (bank : Bool) : LoopSlot := { x with bank, handover := true, clamped := false }

/-! Rails (R385, R419). -/

def State.railRole (s : State) (r : Nat) : Nat := s.cfg (0x4201 + r) 1

def State.railReading (s : State) (r : Nat) : Nat := s.power.readings.getD r 0

/-- The reading of rail r is inside its window. -/
def State.inWindow (s : State) (r : Nat) : Bool :=
  decide (s.cfg (0x4201 + r) 5 ≤ s.railReading r) && decide (s.railReading r ≤ s.cfg (0x4201 + r) 6)

/-- A part rail reads outside its window: the I/O ring holds the LASER_EN, HV and fuser gate balls at their safe levels (R385). Before the
first readings nothing is known of the rails. -/
def State.coreRailBad (s : State) : Bool :=
  !s.power.readings.isEmpty && (upTo 8).any fun r => decide (s.railRole r = 1) && !s.inWindow r

end Sys2Proof.Machine
end

