-- ==== Sys2Proof/Machine/Compares.lean ====
section
/-! DEFINITION. Compare outputs and the updates of their sources: W, feedback channels and commanded positions (R269 to
R273); velocities and bounds of axes (R277, R283, R286). -/

namespace Sys2Proof.Machine

/-! Compare outputs (R269 to R273). -/

/-- Configuration word of compare output n (Table 9-4). -/
def State.cmpCfg (s : State) (n : Nat) : Nat := s.cfg 0x311A (n + 1)

def cmpMode (w : Nat) : Nat := bits w 62 61

def cmpDown (w : Nat) : Bool := bit w 60

def cmpSource (w : Nat) : Nat := bits w 55 48

/-- Value that a source has now, in its own units. -/
def State.cmpValue (s : State) (src : Nat) : Rat :=
  if src = 0 then (s.w : Rat)
  else if src ≤ 24 then ((s.chan (src - 1)).position : Rat)
  else (s.axis (src - 64)).commanded

/-- A source reaches entry t on an update from u to v (R269). -/
def reaches (down : Bool) (u v : Rat) (t : Int) : Bool :=
  if down then decide ((t : Rat) < u) && decide (v ≤ (t : Rat)) else decide (u < (t : Rat)) && decide ((t : Rat) ≤ v)

/-- The source has passed entry t. -/
def passed (down : Bool) (u : Rat) (t : Int) : Bool := if down then decide (u ≤ (t : Rat)) else decide ((t : Rat) ≤ u)

/-- Indices of series entries reached on an update (R272): the first and the last, of those not consumed yet. -/
def State.seriesReached (s : State) (n : Nat) (u v : Rat) : Option (Nat × Nat) :=
  let w := s.cmpCfg n
  let x := s.cmpOut n
  let base := s.cfgI64 0x311B (n + 1)
  let pitch := s.cfgI64 0x311C (n + 1)
  let count := bits w 44 20
  if pitch ≤ 0 then none
  else
    let idx (q : Rat) : Int := ratFloor ((q - (base : Rat)) / (pitch : Rat))
    let last : Int := if count = 0 then 2 ^ 63 else (count : Int) - 1
    if cmpDown w then
      let hi := min last (-(ratFloor (-((u - (base : Rat)) / (pitch : Rat)))) - 1)
      let hi := if x.next = 0 then hi else min hi ((x.next : Int) - 2)
      let lo := max 0 (-(ratFloor (-((v - (base : Rat)) / (pitch : Rat)))))
      if lo ≤ hi then some (lo.toNat, hi.toNat) else none
    else
      let lo := max (x.next : Int) (idx u + 1)
      let lo := max 0 lo
      let hi := min last (idx v)
      if lo ≤ hi then some (lo.toNat, hi.toNat) else none

/-- Output n fires for `k` entries reached, the first of them `first` (R270). -/
def State.cmpFire (s : State) (n k : Nat) (first : Int) : State :=
  let w := s.cmpCfg n
  let x := s.cmpOut n
  let multi (c : Nat) : Nat := min 255 c
  let again := x.pulseEnd.isSome && decide (bits w 59 58 = 0)
  let x := { x with firings := wrapInc 32 x.firings, multi := multi (x.multi + (k - 1) + b2n again) }
  let s := match bits w 59 58 with
    | 0 => (s.modCmp n fun _ => { x with active := true, pulseEnd := some (s.timebase + 16 * bits w 19 0) }).emit .comparePulse n [bits w 19 0]
    | 1 => s.modCmp n fun _ => { x with active := true }
    | 2 => s.modCmp n fun _ => { x with active := false }
    | _ => s.modCmp n fun _ => { x with active := !x.active }
  if bit w 56 then s.postEvent (n / 8) 0x0203 n (ofSigned 64 first) else s

/-- An update of the source of output n from u to v (R269 to R273). -/
def State.cmpUpdate (s : State) (n : Nat) (u v : Rat) : State :=
  let w := s.cmpCfg n
  if bit w 63 = false ∨ s.present (n / 8) = false then s
  else if cmpMode w = 1 then
    match s.seriesReached n u v with
    | none => s
    | some (lo, hi) =>
      let first := s.cfgI64 0x311B (n + 1) + s.cfgI64 0x311C (n + 1) * ((if cmpDown w then hi else lo : Nat) : Int)
      (s.modCmp n fun x => { x with next := if cmpDown w then lo + 1 else hi + 1 }).cmpFire n (hi + 1 - lo) first
  else
    let hit := (s.cmpOut n).list.filter (reaches (cmpDown w) u v)
    match hit with
    | [] => s
    | first :: _ =>
      (s.modCmp n fun x => { x with list := x.list.filter fun e => !reaches (cmpDown w) u v e }).cmpFire n hit.length first

/-- Every output on this source sees its update. -/
def State.sourceMoved (s : State) (src : Nat) (u v : Rat) : State :=
  if u = v then s
  else ((upTo 64).filter fun n => bit (s.cmpCfg n) 63 && decide (cmpSource (s.cmpCfg n) = src)).foldl
    (fun s n => s.cmpUpdate n u v) s

/-! Axes (R275, R277, R283, R286). -/

def clampR (lo hi v : Rat) : Rat := min (max v lo) hi

/-- Speed bound of an axis: the lower of its fuse and its limit, and 5 × 10^6 steps/s for a step generator (R277,
R281, R393). -/
def State.axisLimit (s : State) (a : Nat) : Rat :=
  let v : Rat := (lower (s.fuse 0x4016 (a + 1)) (s.cfg (0x3000 + a) 16) : Rat)
  if a < 16 then v else min v 5000000

/-- v_W: the web advance between the last two master counts divided by their stamp difference; 0 while W is frozen or the web rests
(R283). -/
def State.masterRate (s : State) : Rat :=
  let c := s.chan (s.cfg 0x2180 1)
  let n : Int := if s.cfg 0x2180 3 = 1 then c.p0 - c.p1 else c.p1 - c.p0
  if c.t1 ≤ c.t0 ∨ s.web.frozen ∨ s.web.moving = false then 0
  else ((n : Rat) * (s.cfg 0x2180 2 : Rat) / (2 ^ 48 : Nat)) / (((c.t1 - c.t0 : Nat) : Rat) / (ticksPerS : Rat))

/-- Target P* of a geared axis (R283). -/
def State.gearTarget (s : State) (a : Nat) : Rat :=
  let x := s.axis a
  x.pg + (x.ratio : Rat) / (2 ^ 32 : Nat) * (((s.w - x.wg : Int) : Rat) / 65536)

/-- Velocity command of an axis before its bound: the web speed command times the web axis scale in WEB (R286). -/
def State.axisWanted (s : State) (a : Nat) : Rat :=
  if (s.axis a).state = .web then s.transport.speed.at_ s.timebase * (s.cfgI64 0x311F 2 : Rat) / (2 ^ 32 : Nat)
  else (s.axis a).vel.at_ s.timebase

/-- Present velocity command of an axis, within its bound (R277). -/
def State.axisVelocity (s : State) (a : Nat) : Rat := clampR (-(s.axisLimit a)) (s.axisLimit a) (s.axisWanted a)

/-- The commanded position moves to v: compare outputs on the axis see it (R269). -/
def State.moveCommanded (s : State) (a : Nat) (v : Rat) : State :=
  let u := (s.axis a).commanded
  (s.modAxis a fun x => { x with commanded := v }).sourceMoved (64 + a) u v

/-- Way of an axis by its velocity command since the tick that its position stands for. -/
def State.axisWay (s : State) (a : Nat) : Rat :=
  let x := s.axis a
  let t := s.timebase
  if x.state = .web then
    let way := (s.transport.speed.area t - s.transport.speed.area (max x.intAt s.transport.speed.since))
      * (s.cfgI64 0x311F 2 : Rat) / (2 ^ 32 : Nat)
    let top := s.axisLimit a * ((t - x.intAt : Nat) : Rat) / (ticksPerS : Rat)
    clampR (-top) top way
  else x.vel.area t - x.vel.area (max x.intAt x.vel.since)

/-- Bring an axis up to now: the commanded position of a BLDC axis, or the phase of a step generator's accumulator, which stays short of
the carry or borrow that its next step is (R281). SPEED_CLAMPED is set where a bound acts in WEB (R277). -/
def State.catchUp (s : State) (a : Nat) : State :=
  let x := s.axis a
  let d := s.axisWay a
  let held := decide (x.state = .web) && decide (s.axisWanted a ≠ s.axisVelocity a)
  let s := s.modAxis a fun x => { x with
    intAt := s.timebase, vel := x.vel.from_ s.timebase, clamped := if x.state = .web then held else x.clamped
    acc := if a < 16 then x.acc else (clampI 0 (2 ^ 48 - 1) ((x.acc : Int) + ratFloor (d * (2 ^ 48 : Nat)))).toNat }
  if d = 0 ∨ 16 ≤ a then s else s.moveCommanded a (x.commanded + d)

/-- A velocity command bounded, with SPEED_CLAMPED where the bound acts (R277). -/
def State.setVelocity (s : State) (a : Nat) (v : Rat) : State :=
  let m := s.axisLimit a
  let c := clampR (-m) m v
  (s.catchUp a).modAxis a fun x => { x with vel := { start := c, since := s.timebase, goal := c, rate := 0 }, clamped := decide (c ≠ v) }

/-- Output of the slot that a unit names; 0 where none is named. -/
def State.namedOut (s : State) (j : Option Nat) : Rat := match j with
  | some j => (s.loopSlot j).u
  | none => 0

/-- A tension axis runs at ρ v_W from its last ratio plus the output of its tension slot (R285). -/
def State.tensionFollow (s : State) (a : Nat) : State :=
  s.setVelocity a (((s.axis a).ratio : Rat) / (2 ^ 32 : Nat) * s.masterRate + s.namedOut (s.axisSlot a 3))

/-- The web does not move, or W is frozen: a geared axis comes to rest at P* within its speed bound and acceleration (R283); a tension
axis is left the output of its slot (R285). -/
def State.gearRest (s : State) (a : Nat) : State :=
  match (s.axis a).state with
  | .geared =>
    let s := s.catchUp a
    let way := s.gearTarget a - (s.axis a).commanded
    s.modAxis a fun x => { x with
      vel := x.vel.bend s.timebase (trapezoid s.timebase (x.vel.at_ s.timebase) way (s.axisLimit a) (s.cfgReal (0x3000 + a) 6)) }
  | .tension => s.tensionFollow a
  | _ => s

def State.gearsRest (s : State) : State := (s.axes.map (·.1)).foldl State.gearRest s

end Sys2Proof.Machine
end

