-- ==== Sys2Proof/Machine/Drives.lean ====
section
/-! DEFINITION. What a change of state does at once to the outputs of other units: pulse link frames, laser enables,
polygon modes, axis stop actions, the web transport, HV channels, the fuser zones and nip, and pending flips. Nothing
here raises a fault (R191, R193, R213, R230 to R233, R242, R249, R282, R287, R318, R323, R325). -/

namespace Sys2Proof.Machine

/-! Pulse link frames (R230 to R233, R242). -/

/-- Bytes of 64-bit blocks. -/
def blockBytes (ws : List Nat) : List Byte := ws.flatMap (leBytes 8)

/-- Payload of a control block (Table 8-2). -/
def controlBlock (ty fseq field : Nat) (data : List Nat) : Nat :=
  let low := ty % 256 + fseq % 256 * 256 + field % 65536 * 65536
  low + crc32c (leBytes 4 low ++ blockBytes data) * 2 ^ 32

/-- Send one frame other than IDLE on link g. -/
def State.sendFrame (s : State) (g : Nat) (kind : OutKind) (ty field : Nat) (data : List Nat) : State :=
  let k := s.link g
  if k.state = .disabled then s
  else
    (s.modLink g fun k => { k with fseq := (k.fseq + 1) % 256 }).emit kind g (controlBlock ty k.fseq field data :: data)

/-- The four data blocks of a 256-bit line header. -/
def headerBlocks (w : Nat) : List Nat := (upTo 4).map fun k => w / 2 ^ (64 * k) % 2 ^ 64

/-- A TIME frame (R238). -/
def State.sendTime (s : State) (g : Nat) : State :=
  (s.modLink g fun k => { k with timeSent := true, lastTime := s.timebase }).sendFrame g .timeFrame 0x55 0 [s.timebase]

/-- A LINE frame (R232): counted since RUN, after a TIME frame; what it was is kept for R247. -/
def State.sendLine (s : State) (g w seq : Nat) (expose : Bool) : State :=
  let s := if (s.link g).timeSent then s else s.sendTime g
  let tag := (s.link g).lines % 65536
  let s := s.sendFrame g .lineFrame 0x2D tag (headerBlocks w)
  s.modLink g fun k => { k with lines := k.lines + 1, tags := mapSet 0 k.tags tag (if expose then seq + 1 else 0) }

/-- ABORT for the line in progress (R242). -/
def State.abortLine (s : State) (g : Nat) : State :=
  match (s.scanner g).line with
  | none => s
  | some l =>
    if l.aborted then s
    else (s.sendFrame g .abortFrame 0x78 l.tag [0]).modScanner g fun x => { x with line := some { l with aborted := true } }

/-- BLANK for newly detained beams, with the SWEEP_TAG of the line being emitted (R242); with no line its tag is not stated. -/
def State.blankBeams (s : State) (g mask : Nat) : State :=
  match (s.scanner g).line with
  | some l => s.sendFrame g .blankFrame 0x66 l.tag [mask]
  | none => let (n, s) := s.freeNat; s.sendFrame g .blankFrame 0x66 (n % 2 ^ 16) [mask]

/-- Fields of every line header: DIR, BD_BEAM and BD_OFF (R233). -/
def State.headFields (s : State) (g : Nat) : Nat :=
  let x := s.scanner g
  let off := decide (x.state = .coast) || decide (x.state = .off) || decide (x.state = .detained)
  b2n off * 2 ^ 110 + s.cfg (0x2900 + g) 7 % 32 * 2 ^ 104 + s.cfg (0x2A00 + g) 3 % 2 * 2 ^ 95

/-- BD window of a line header (R233): for the edge at t16 with period p in ticks. -/
def State.bdWindow (s : State) (g : Nat) (t16 : Nat) (p : Rat) : Nat :=
  let t : Rat := (t16 : Rat) / 16
  let beta : Rat := (s.cfg (0x2900 + g) 12 : Rat) / 256
  let mu : Rat := (s.cfg (0x2900 + g) 13 : Rat) / 256
  let opens := (ratFloor (t + beta * p)).toNat
  let closes := (-(ratFloor (-(t + (1 + mu) * p)))).toNat
  closes % 2 ^ 40 * 2 ^ 168 + opens % 2 ^ 40 * 2 ^ 128

/-! Facet period (R200). -/

/-- Mean of a list of intervals. -/
def meanOf (xs : List Nat) : Rat := if xs = [] then 0 else (xs.sum : Rat) / (xs.length : Rat)

/-- P in ticks: the mean of the last F intervals, or the reciprocal of the speed-hold target. -/
def State.facetPeriod (s : State) (g : Nat) : Rat :=
  let x := s.scanner g
  let f := s.cfg (0x2900 + g) 3
  if f ≤ x.intervals.length ∧ 0 < f then meanOf (x.intervals.take f) / 16
  else
    let v := x.hold.at_ s.timebase
    if v = 0 then 0 else (ticksPerS : Rat) / v

/-- Facet rate 1/P in facets per second; 0 in OFF. -/
def State.facetRate (s : State) (g : Nat) : Rat :=
  let p := s.facetPeriod g
  if (s.scanner g).state = .off ∨ p = 0 then 0 else (ticksPerS : Rat) / p

/-- P is measured: F intervals exist. -/
def State.facetMeasured (s : State) (g : Nat) : Bool := decide (s.cfg (0x2900 + g) 3 ≤ (s.scanner g).intervals.length)

/-- t_ls in 1/16 tick and the pixel period in 1/65,536 tick of the sweep that begins at the edge t16 (R218). -/
def State.lineStart (s : State) (g t16 : Nat) : Nat × Nat :=
  let per := s.facetPeriod g
  let delay : Rat := (s.cfg (0x2900 + g) 10 : Rat) * per * s.cfgReal (0x2900 + g) 9 / (ticksPerS : Rat)
  (t16 + (ratFloor (delay * 16 + 1 / 2)).toNat,
    (ratFloor (per * 65536 / ((max 1 (s.cfg (0x2900 + g) 11) : Nat) : Rat) + 1 / 2)).toNat)

/-- Fields of the header of an edge, exposed or not (Table 8-3). -/
def State.edgeHeader (s : State) (g facet t16 : Nat) : Nat :=
  let (tls, period) := s.lineStart g t16
  s.bdWindow g t16 (s.facetPeriod g) + s.headFields g + facet % 16 * 2 ^ 96 + period % 2 ^ 32 * 2 ^ 48 + tls % 2 ^ 44

/-! Pending flips (R191 to R193). -/

def State.flipReq (s : State) (r : Nat) : FlipReq := mapGet {} s.flips.requests r

/-- Requests that some lane waits for. -/
def State.pendingReqs (s : State) : List Nat :=
  (s.lanes.filterMap fun kv => if kv.2.draftState = .pending then some kv.2.flipReq else none).eraseDups

/-- Flip the waiting lanes of one scanner for request r (R191, R192). -/
def State.flipScanner (s : State) (r g : Nat) : State :=
  let q := s.flipReq r
  let hit := fun (l : Nat) (x : Lane) => decide (l / 32 = g) && decide (x.flipReq = r) && decide (x.draftState = .pending)
  if s.lanes.any fun kv => hit kv.1 kv.2 then
    { s with
      lanes := mapEach {} s.lanes fun l x =>
        if hit l x then { x with slate := x.draft, draft := x.slate, draftState := .copying, flips := x.flips + 1,
                                 newFrom := none, flipReq := 0 }
        else x
      flips := { s.flips with
        performed := if q.made = 0 then wrapInc 32 s.flips.performed else s.flips.performed
        requests := mapSet {} s.flips.requests r { q with made := setBit q.made (scannerStation g) true } } }
  else s

/-- The flips of WHEN 0 that wait for a BD edge of scanner g are made where `now` holds of their acceptance tick (R191). -/
def State.flipsNow (s : State) (g : Nat) (now : Nat → Bool) : State :=
  s.pendingReqs.foldl (fun s r =>
    let q := s.flipReq r
    if q.when_ = 0 ∧ now q.acceptedAt then s.flipScanner r g else s) s

/-- LASER_EN g is low: the flips of WHEN 0 that waited for an edge of scanner g are made at once (R191). -/
def State.flipsDark (s : State) (g : Nat) : State := if (s.scanner g).laser then s else s.flipsNow g fun _ => true

/-- The scanner's loop runs as a phase loop: GLIDING and LOCKED. -/
def ScanState.phased : ScanState → Bool
  | .gliding => true
  | .locked => true
  | _ => false

/-- Bank of the scanner's slot: 0 in speed hold, 1 in phase lock; a change hands over (Table 10-1, R306). -/
def State.scanBank (s : State) (g : Nat) : State :=
  let want := (s.scanner g).state.phased
  if (s.loopSlot (64 * scannerStation g + g % 4)).bank = want then s
  else s.modLoop (64 * scannerStation g + g % 4) fun l => l.handTo want

/-! Laser enables (R249). -/

/-- The trim or duty ceiling of the station reads 0 (R394). -/
def State.ceilingZero (s : State) (st : Nat) : Bool :=
  decide (s.fuse 0x4010 (st + 1) = 0) || decide (s.fuse 0x4011 (st + 1) = 0)

/-- Every condition of R249, R343 and R379 but the scanner's state. -/
def State.laserPermitted (s : State) (g : Nat) : Bool :=
  let k := s.link g
  !s.hazard.active && s.present (scannerStation g) && decide (k.state = .run) && !k.dwellTrip && !k.bdTrip
    && !k.powerTrip && !s.ceilingZero (scannerStation g) && bit (s.dieClock (scannerStation g)).lock 6
    && decide (s.haling.roll ≠ .minority)

/-- Level of the ball LASER_EN g (R249, R385). -/
def State.laserLevel (s : State) (g : Nat) : Bool := (s.scanner g).laser && !s.coreRailBad

/-- 0x2A00+g:8. -/
def State.laserReasons (s : State) (g : Nat) : Nat :=
  let k := s.link g
  b2n (s.laserLevel g) + 2 * b2n s.hazard.active + 4 * b2n (!(s.scanner g).state.lit)
    + 8 * b2n (decide (k.state ≠ .run)) + 16 * b2n k.dwellTrip + 32 * b2n k.bdTrip + 64 * b2n k.powerTrip
    + 128 * b2n (s.ceilingZero (scannerStation g))

/-- A time within 1 s of the timebase that the spec does not fix further (R349), from a free number. -/
def State.nearTime (s : State) (n : Nat) : Nat := s.timebase + n % (ticksPerS + 1)

/-- The LINE frame of an entry to SEARCH (R233): it lights the BD beam until the next one and begins no sweep; the values of its BD
window and T_LS, no more than 1 s from the timebase (R349), and of PIXEL_PERIOD are not stated. -/
def State.sendSearchLine (s : State) (g : Nat) : State :=
  let s := s.modScanner g fun x => { x with searchDue := false }
  let (a, s) := s.freeNat
  let (b, s) := s.freeNat
  let (c, s) := s.freeNat
  let (p, s) := s.freeNat
  let w := s.nearTime a % 2 ^ 40 * 2 ^ 168 + s.nearTime b % 2 ^ 40 * 2 ^ 128 + p % 2 ^ 32 * 2 ^ 48
    + (16 * s.nearTime (c / 16) + c % 16) % 2 ^ 44
  s.sendLine g (w + s.headFields g + 2 ^ 109) 0 false

/-- Nothing more of the line is to be sent. -/
def Line.allSent (l : Line) : Bool := l.aborted || decide (l.cells ≤ 16 * l.codesSent)

/-- Enter SEARCH, LASER_EN g high or not (Table 7-3, R249). Its LINE frame comes after every CODE frame of a line that the drop of
LASER_EN has left open (R239). -/
def State.beginSearch (s : State) (g : Nat) (laser : Bool) : State :=
  let s := s.modScanner g fun x =>
    { x with state := .search, laser, laserSince16 := if laser then 16 * s.timebase else x.laserSince16, firstEdge := true
             lastEdge := none, lastAccepted := none, intervals := [], phase := none, indexSeen := false, inferred := 0
             searchDue := true }
  if (s.scanner g).line.all Line.allSent then s.sendSearchLine g else s

/-- Raise LASER_EN g and enter SEARCH (Table 7-3). -/
def State.enterSearch (s : State) (g : Nat) : State := s.beginSearch g true

/-- What a scanner whose LASER_EN falls forgets: facet numbering, the revolution and the learning under way, and the phase. An
accepted edge still has its LINE frame to come (R233). -/
def Scanner.darken (x : Scanner) : Scanner :=
  { x with
    laser := false, numbered := false, indexSeen := false, rev := [], learnSum := [], learnRevs := 0, slipRots := []
    phase := none, lastEdge := none, lastAccepted := none, freshLock := false, lockRun := 0 }

/-- LASER_EN g drops for a cause other than detention (Table 7-3). -/
def State.enterCoast (s : State) (g : Nat) : State :=
  ((s.modScanner g fun x => { x.darken with state := .coast }).scanBank g).flipsDark g

/-- Bring LASER_EN g and the scanner's state in line with R249 and Table 7-3. -/
def State.settleLaser (s : State) (g : Nat) : State :=
  let x := s.scanner g
  if s.laserPermitted g then
    if x.state = .coast then s.enterSearch g else s
  else if x.state.lit then s.enterCoast g
  else if x.laser then (s.modScanner g fun x => { x with laser := false }).flipsDark g
  else s

/-! Polygon modes (R213). -/

/-- Lambda of a station: 32, or 16 in half-band mode (R208). -/
def State.lambda (s : State) (st : Nat) : Nat := if (s.station st).band = 1 then 16 else 32

/-- Phase lock is selected in this timetable state (Table 7-1). -/
def State.wantsPhaseLock (s : State) (st : Nat) : Bool :=
  decide ((s.station st).band ≠ 2) && match s.tt.state with
    | .running => true
    | .halting => !s.tt.decelerating
    | .ending => !s.tt.decelerating
    | .restarting => s.tt.reached
    | _ => false

/-- Speed-hold target of scanner g (Table 7-1): in IDLE v_r / Λ once RUN has been accepted. In STOPPED it is the one taken at its entry; a scanner started there has none, and
takes the idle facet rate (DESIGN CHOICE, log 39). -/
def State.holdGoal (s : State) (g : Nat) : Rat :=
  let st := scannerStation g
  let idleRate := s.cfgReal (0x2900 + g) 21
  let vr := s.restartSpeed / (s.lambda st : Rat)
  let v :=
    if (s.station st).band = 2 then idleRate
    else match s.tt.state with
      | .idle => if s.tt.ranIn then vr else idleRate
      | .ending => idleRate
      | .stopped => if (s.scanner g).state = .off then idleRate else (s.scanner g).hold.goal
      | .halting => vr
      | _ => if s.tt.vr = 0 then vr else s.tt.vr / (s.lambda st : Rat)
  min 2000 v

/-- STOPPED is entered: every started scanner holds the rate measured now (Table 7-1). -/
def State.holdMeasured (s : State) : State :=
  (upTo 32).foldl (fun s g =>
    if (s.scanner g).state = .off ∨ (s.station (scannerStation g)).band = 2 then s
    else
      let v := min 2000 (s.facetRate g)
      s.modScanner g fun x => { x with hold := { start := v, goal := v, since := s.timebase, rate := s.cfgReal (0x2900 + g) 20 } }) s

/-- The mode and target of one started scanner follow Table 7-1. -/
def State.settlePolygon (s : State) (g : Nat) : State :=
  let x := s.scanner g
  if x.state = .off then s
  else
    let lock := s.wantsPhaseLock (scannerStation g)
    let start : Rat := if x.phaseLock then s.facetRate g else x.hold.at_ s.timebase
    let goal := if lock then x.hold.goal else s.holdGoal g
    let rate := s.cfgReal (0x2900 + g) 20
    let x1 : Scanner := if lock then { x with phaseLock := true }
      else if x.phaseLock ∨ x.hold.goal ≠ goal ∨ x.hold.rate ≠ rate then
        { x with phaseLock := false, hold := { start, since := s.timebase, goal, rate } }
      else x
    let x2 : Scanner :=
      if lock ∧ x1.state = .speedHold then { x1 with state := .gliding, freshLock := true, lockRun := 0, glideEdges := 0 }
      else if !lock ∧ x1.state.phased then { x1 with state := .speedHold, freshLock := false }
      else x1
    (s.modScanner g fun _ => x2).scanBank g

def State.settlePolygons (s : State) : State :=
  (upTo 32).foldl (fun s g => if s.scannerPresent g then s.settlePolygon g else s) s

/-! The band plan and the lanes (Table 5-17). -/

/-- RUNNING lanes that the plan leaves dark go to BAND_DARK, and back once the station is in full-band mode again. -/
def State.planLanes (s : State) (st : Nat) : State :=
  { s with lanes := mapEach {} s.lanes fun l x =>
      if l / 128 ≠ st then x
      else
        let b0 := mapGet 0 s.leading (l / 32)
        let dark := decide ((s.station st).band = 1) && !(decide (b0 ≤ l % 32) && decide (l % 32 < b0 + 16))
        match x.state with
        | .running => if dark then { x with state := .bandDark, active := false } else x
        | .bandDark => if (s.station st).band = 0 then { x with state := .running } else x
        | _ => x }

/-! Axes (R282). -/

/-- Event 0x0201: an axis stopped or was detained. -/
def State.axisStopEvent (s : State) (a code : Nat) : State := s.postEvent (axisDie a) 0x0201 a code

/-- The expected position integrated up to a tick (R288). -/
def Transport.integrate (x : Transport) (t : Nat) : Transport :=
  { x with expected := x.expected + (x.speed.area t - x.speed.area x.expectedAt), expectedAt := t }

/-- The axis leaves WEB for a stop, a halt or detention: no web speed command reaches it any more, and the web position loop stops with
it (R287, R289). -/
def State.leaveWeb (s : State) (a : Nat) : State :=
  if s.webAxis = some a ∧ (s.axis a).state = .web then
    let s := s.modNamed s.webSlot LoopSlot.stop
    { s with transport := { s.transport.integrate s.timebase with speed := {}, target := none } }
  else s

/-- The stop action of an axis (R282); a fence coasts in place of braking (R408). -/
def State.stopAction (s : State) (a : Nat) (coast : Bool) : State :=
  let moving := decide (s.axisVelocity a ≠ 0)
  ((s.catchUp a).leaveWeb a).modAxis a fun x =>
    { x with
      lost := x.lost || (decide (16 ≤ a) && moving)
      braked := decide (a < 16) && bit (s.cfg (0x3000 + a) 15) 0 && !coast
      vel := {}, target := none, halting := false, armed := none }

/-- Slots of an axis stop; the web position loop with the web drive axis. -/
def State.axisSlotsStop (s : State) (a : Nat) : State :=
  let s := if s.webAxis = some a then s.modNamed s.webSlot LoopSlot.stop else s
  (upTo 4).foldl (fun s k => s.modNamed (s.axisSlot a k) LoopSlot.stop) s

/-- The stop action, and STOPPED (Table 9-5); event 0x0201 with the code that stopped it, 0 for STOP. -/
def State.toStopped (s : State) (a code : Nat) (coast : Bool) : State :=
  (((s.stopAction a coast).modAxis a fun x => { x with state := .stopped }).axisSlotsStop a).axisStopEvent a code

/-- HALT of an axis (R274): it decelerates at the halt deceleration from its present velocity, 0 meaning STOP with the code. -/
def State.beginAxisHalt (s : State) (a code : Nat) : State :=
  let d := s.cfgReal (0x3000 + a) 7
  let v := s.axisVelocity a
  if d = 0 then s.toStopped a code false
  else ((s.catchUp a).leaveWeb a).modAxis a fun x =>
    { x with
      state := .moving, halting := true, target := none, armed := none
      vel := { start := v, since := s.timebase, goal := 0, rate := d } }

/-! Web transport (R286, R287). -/

/-- A web drive axis is in WEB. -/
def State.webDriven (s : State) : Bool := match s.webAxis with
  | some a => decide ((s.axis a).state = .web)
  | none => false

/-- Give the web speed command a new goal. -/
def State.webRamp (s : State) (goal rate : Rat) : State :=
  let x := s.transport.integrate s.timebase
  { s with transport := { x with speed := x.speed.turn s.timebase goal rate } }

/-- The target of the web position loop: its slot runs, on bank 0, while there is one (R287, Table 10-1). -/
def State.webAim (s : State) (target : Option Int) : State :=
  let s := match s.transport.target, target with
    | none, some _ => s.modNamed s.webSlot fun l => l.start false
    | some _, none => s.modNamed s.webSlot LoopSlot.stop
    | _, _ => s
  { s with transport := { s.transport with target } }

/-- Table 9-8: the ramp to 0 at a_d. -/
def State.webDecelerate (s : State) : State := (s.webAim none).webRamp 0 (s.cfgReal 0x2100 5)

/-- The position loop holds a position, with the command at 0 or on its way there (WAITING). -/
def State.webHold (s : State) (target : Int) : State := (s.webAim (some target)).webRamp 0 (s.cfgReal 0x2100 5)

/-- The web waits where it stands: a start from rest that does not reverse (R45, R51, R66), so the position loop holds W itself (DEDUCED,
log 42). -/
def State.webStand (s : State) : State := if s.webDriven then s.webHold s.w else s

/-- The web moves to a position at no more than a speed, with acceleration and deceleration a_d (Table 9-8); the position loop trims
towards it. -/
def State.webMove (s : State) (target : Int) (speed : Rat) : State :=
  let s := s.webAim (some target)
  let x := s.transport.integrate s.timebase
  let r := x.speed.from_ s.timebase
  let way : Rat := ((target - s.w : Int) : Rat) / 65536
  { s with transport := { x with
      speed := r.bend s.timebase (trapezoid s.timebase (r.at_ s.timebase) way speed (s.cfgReal 0x2100 5)) } }

/-- Table 9-8: the reverse to a position at no more than v_b; it never goes forward (R51). -/
def State.webReverse (s : State) (target : Int) : State :=
  if target < s.w then s.webMove target (s.cfgReal 0x2100 7) else s.webHold target

/-- Table 9-8: the run-up to v_r at a_a. -/
def State.webRunUp (s : State) (vr : Rat) : State := (s.webAim none).webRamp vr (s.cfgReal 0x2100 6)

/-- Table 9-8: RUNNING ramps to the running speed. -/
def State.webFollow (s : State) : State :=
  let v := s.runningSpeed
  s.webRamp v (if s.transport.speed.at_ s.timebase ≤ v then s.cfgReal 0x2100 6 else s.cfgReal 0x2100 5)

/-- Entry to RUNNING: the expected position starts afresh (R288). -/
def State.webRunning (s : State) : State :=
  let s := (s.webAim none).webFollow
  { s with transport := { s.transport with
      fromW := s.w, expected := 0, expectedAt := s.timebase } }

/-- The web drive axis enters WEB (RUN accepted). -/
def State.webTake (s : State) : State := match s.webAxis with
  | some a => s.modAxis a fun x => if x.state = .hold then { x with state := .web, vel := {} } else x
  | none => s

/-- WEB to HOLD: timetable IDLE and web at rest (Table 9-5). -/
def State.webRelease (s : State) : State :=
  let s := s.webAim none
  let s := { s with transport := { s.transport with speed := {} } }
  match s.webAxis with
  | some a => s.modAxis a fun x => if x.state = .web then { x with state := .hold, vel := {} } else x
  | none => s

/-! HV channels and fuser zones that follow the timetable (R318, R323). -/

/-- Sign and setpoint of an HV channel's slot (R314). -/
def State.hvSetpoint (s : State) (h : Nat) : Rat :=
  let c := s.hvChan h
  let st := if c.state = .arcBlank then c.former else c.state
  s.cfgReal (0x3400 + h) (if st = .halt then 12 else 11)

/-- Put the present setpoint of channel h into its slot. -/
def State.settleHv (s : State) (h : Nat) : State :=
  let v := s.hvSetpoint h
  s.modNamed (s.hvSlot h) fun l => { l with setpoint := v, minus := decide (v < 0) }

/-- RUN channels go to HALT (or HALT channels to RUN); the setpoint follows. -/
def State.hvMove (s : State) (x y : HvState) : State :=
  (s.hv.map (·.1)).foldl (fun s h =>
    let c := s.hvChan h
    if c.state = x then (s.modHv h fun c => { c with state := y }).settleHv h
    else if c.state = .arcBlank ∧ c.former = x then s.modHv h fun c => { c with former := y }
    else s) s

/-- W reaches W_d in a halt or END (Table 10-3). -/
def State.hvToHalt (s : State) : State := s.hvMove .run .halt

/-- The timetable enters RESTARTING (Table 10-3). -/
def State.hvToRun (s : State) : State := s.hvMove .halt .run

/-- SETBACK of one zone (Table 10-4). -/
def State.zoneToSetback (s : State) (z : Nat) : State :=
  let x := s.zone z
  let sp := s.cfgReal (0x3500 + z) 13
  match x.state with
  | .warmup =>
    (s.modZone z fun x => { x with state := .setback, setpoint := sp, setAt := s.timebase, inBand := false, bandSince := none }).modNamed
      (s.zoneSlot z) fun l => { l.handTo true with setpoint := sp }
  | .regulate =>
    (s.modZone z fun x => { x with state := .setback, setpoint := sp, setAt := s.timebase, inBand := false, bandSince := none }).modNamed
      (s.zoneSlot z) fun l => { l with setpoint := sp }
  | _ => s

/-- RESUME of one zone (Table 10-4). -/
def State.zoneFromSetback (s : State) (z : Nat) : State :=
  let x := s.zone z
  if x.state = .setback then
    let sp := max x.temp (s.cfgReal (0x3500 + z) 13)
    (s.modZone z fun x => { x with state := .warmup, setpoint := sp, setAt := s.timebase }).modNamed
      (s.zoneSlot z) fun l => { l.handTo false with setpoint := sp }
  else s

def State.zonesToSetback (s : State) : State := (s.zones.map (·.1)).foldl State.zoneToSetback s

/-- The next panel commits: zones leave setback (Table 10-4). -/
def State.zonesResume (s : State) : State := (s.zones.map (·.1)).foldl State.zoneFromSetback s

/-- Every zone that is not OFF is IN_BAND (R324). -/
def State.zonesInBand (s : State) : Bool := s.zones.all fun kv => decide (kv.2.state = .off) || kv.2.inBand

/-! The fuser nip (R325). -/

/-- MFIO number of the nip's output (Table 10-9). -/
def State.nipBall (s : State) : Nat :=
  let v := s.cfg 0x2190 2
  if bit v 7 then v % 128 + 128 else v

/-- A profile of the nip axis. -/
def State.nipMove (s : State) (open_ : Bool) : State :=
  let a := s.cfg 0x2190 2
  let target := s.cfgI64 0x2190 (if open_ then 3 else 4)
  let x := s.axis a
  let v := s.cfgReal 0x2190 5
  if x.state = .hold ∨ x.state = .moving then
    let s := s.catchUp a
    s.modAxis a fun x =>
      { x with state := .moving, target := some target, halting := false, clamped := decide (s.axisLimit a < v)
               vel := x.vel.bend s.timebase (trapezoid s.timebase (x.vel.at_ s.timebase) ((target : Rat) - x.commanded)
                 (min v (s.axisLimit a)) (s.cfgReal 0x2190 6)) }
  else s

/-- Open or close the nip: the actuator acts, and the nip state follows as R325 says. -/
def State.setNip (s : State) (open_ : Bool) : State :=
  let done : NipState := if open_ then .opened else .closed
  match s.cfg 0x2190 1 with
  | 1 =>
    let level := if open_ then !bit (s.cfg 0x2190 7) 0 else bit (s.cfg 0x2190 7) 0
    { (s.setCfg (0x5000 + s.nipBall) 4 (2 + b2n level)) with nip := done }
  | 2 => { (s.nipMove open_) with nip := .moving }
  | _ => { s with nip := done }

/-- Park the fuser at W_d (R43): the nip opens and the zones go to setback. -/
def State.parkFuser (s : State) : State := (s.setNip true).zonesToSetback

/-! Flips cancelled (R193). -/

/-- A pending flip of these lanes is cancelled at the stations where it has not been made. A cancelling event counts once for each
request, however many lanes or stations it covers (DESIGN CHOICE, log 38). -/
def State.cancelReq (s : State) (r : Nat) (stations : Nat) : State :=
  let q := s.flipReq r
  let hit := fun (l : Nat) (x : Lane) => decide (x.flipReq = r) && decide (x.draftState = .pending) && bit stations (l / 128)
    && !(decide (2 ≤ q.scope) && bit q.made (l / 128))
  if s.lanes.any fun kv => hit kv.1 kv.2 then
    { s with
      lanes := mapEach {} s.lanes fun l x => if hit l x then { x with draftState := .ready, flipReq := 0 } else x
      flips := { s.flips with cancelled := wrapInc 32 s.flips.cancelled } }
  else s

/-- The panel that a request names is withdrawn (R193). -/
def State.cancelFlips (s : State) (seq : Nat) : State :=
  s.pendingReqs.foldl (fun s r =>
    let q := s.flipReq r
    if q.when_ = 1 ∧ q.seq = seq then s.cancelReq r 255 else s) s

/-- The timetable goes IDLE or STOPPED (R193). -/
def State.cancelAllFlips (s : State) : State := s.pendingReqs.foldl (fun s r => s.cancelReq r 255) s

/-- The carry lines are emptied (R186). -/
def State.emptyCarry (s : State) : State :=
  { s with scanners := mapEach {} s.scanners fun _ x => { x with carry := [], carryFor := none } }

end Sys2Proof.Machine
end

