-- ==== Sys2Proof/Machine/Lines.lean ====
section
/-! DEFINITION. Which lane writes which line, what counts as stored, residency, and the completion of descriptors
(R15, R16, R35, R78, R85, R87, R89). -/

namespace Sys2Proof.Machine

/-! The band plan (R15, R16, R58, R60). -/

/-- Leading beam b0 of scanner g (0x2151). -/
def State.leadBeam (s : State) (g : Nat) : Nat := mapGet 0 s.leading g

/-- Scanners that a station uses, from the operator side (R13, R177). -/
def State.usedScanners (s : State) (st : Nat) : List Nat := (upTo (s.stitch st).nc).map (4 * st + ·)

/-- Whether the station uses scanner g. -/
def State.scannerUsed (s : State) (g : Nat) : Bool := decide (g % 4 < (s.stitch (scannerStation g)).nc)

/-- Lines between two lines of one lane: 32, or 16 in half-band mode. -/
def State.sweepStep (s : State) (st : Nat) : Nat := if (s.station st).band = 1 then 16 else 32

/-- First line that beam b of scanner g writes of a panel; none where the plan leaves it dark (R15, R16). -/
def State.beamFirst (s : State) (g b : Nat) : Option Nat :=
  match (s.station (scannerStation g)).band with
  | 0 => some b
  | 1 => if s.leadBeam g ≤ b ∧ b < s.leadBeam g + 16 then some (b - s.leadBeam g) else none
  | _ => none

/-- Lines `first, first + step, …` below `h`. -/
def laneLines (h first step : Nat) : List Nat := (upTo ((h + step - 1 - first) / step)).map fun k => first + step * k

/-- Key of line y of lane l of the panel in slot i. -/
def lineKey (i l y : Nat) : Nat := (i * 1024 + l) * 2 ^ 24 + y

def State.lineAt (s : State) (i l y : Nat) : StoredLine := mapGet {} s.lines (lineKey i l y)

/-- Line y of lane l of slot i counts as stored (R85). -/
def State.isStored (s : State) (i l y : Nat) : Bool := (s.lineAt i l y).stored

/-- The lane has lines of this panel (R83): station in the mask, scanner used, not dark in the plan. -/
def State.laneFirstOf (s : State) (i l : Nat) : Option Nat :=
  if bit (s.slot i).mask (laneStation l) && s.scannerUsed (laneScanner l) then s.beamFirst (laneScanner l) (l % 32)
  else none

/-- Every line of lane l of the panel is stored. -/
def State.laneComplete (s : State) (i l : Nat) : Bool :=
  match s.laneFirstOf i l with
  | none => true
  | some f => (laneLines (s.slot i).h f (s.sweepStep (laneStation l))).all (s.isStored i l)

/-- Stations of a mask. -/
def maskStations (m : Nat) : List Nat := (upTo 8).filter (bit m)

/-- Lanes of the scanners a station uses. -/
def State.usedLanes (s : State) (st : Nat) : List Nat :=
  (s.usedScanners st).flatMap fun g => (upTo 32).map (laneOf g)

/-- The panel of slot i is resident (R35). -/
def State.isResident (s : State) (i : Nat) : Bool :=
  (maskStations (s.slot i).mask).all fun st => (s.usedLanes st).all (s.laneComplete i)

/-! Votes (R63, R370). -/

/-- The part belongs to a timetable group (0x3900:6). -/
def State.inGroup (s : State) : Bool := decide (s.cfg 0x3900 6 = 1)

/-- Seat of this part; a standalone part is seat 0 (R10, R359). -/
def State.seat (s : State) : Nat := if s.inGroup then s.cfg 0x3900 1 else 0

/-- This part is the homeroom of its group, or stands alone. -/
def State.isHomeroom (s : State) : Bool := !s.inGroup || decide (s.haling.homeroom = s.seat)

/-! Group time and Haling frames (R347, R349, R357, R358). -/

/-- Group time in 1/65,536 tick: T + O + r (T - T_u). -/
def State.group16 (s : State) : Int :=
  (s.timebase : Int) * 65536 + s.group.offset
    + s.group.rate * (((s.timebase - s.group.since : Nat) : Int)) * 65536 / 2 ^ 40

/-- Group time in ticks, truncated. -/
def State.groupNow (s : State) : Int := s.group16 / 65536

/-- Reconstruct an m-bit stamp against a reference of the same scale (R349). -/
def restamp (m stamp : Nat) (ref : Int) : Int :=
  let d := ((stamp : Int) - ref) % 2 ^ m
  ref + (if 2 ^ (m - 1) ≤ d then d - 2 ^ m else d)

def State.portUp (s : State) (p : Nat) : Bool :=
  decide ((if p = 0 then s.haling.portA.state else s.haling.portB.state) = .up)

/-- TYPE of a Haling frame (Table 12-2). -/
def OutKind.frameType : OutKind → Nat
  | .rollFrame => 1
  | .censusFrame => 2
  | .syncFrame => 3
  | .syncReplyFrame => 4
  | .voteFrame => 5
  | .commitFrame => 6
  | .lateFrame => 7
  | .stateFrame => 8
  | .haltReportFrame => 9
  | .alignFrame => 10
  | .stitchFrame => 11
  | .tunnelReqFrame => 12
  | .tunnelRspFrame => 13
  | _ => 0

/-- The 128-bit header of Table 12-1. -/
def headerNum (ty length : Nat) (h : Header) : Nat :=
  ty + h.fseq % 2 ^ 16 * 2 ^ 16 + h.gen % 2 ^ 16 * 2 ^ 32 + length % 2 ^ 9 * 2 ^ 48 + b2n h.bcast * 2 ^ 57 + h.src % 2 ^ 10 * 2 ^ 58
    + h.dest % 2 ^ 10 * 2 ^ 68 + h.hops % 2 ^ 10 * 2 ^ 78 + h.stamp % 2 ^ 40 * 2 ^ 88

/-- A frame as it leaves (R357): the header as a number, what the payload carries, and the CRC-32C over the header's bytes and the
payload's, whose layout in words is Config.halingWords. -/
def halingFrame (kind : OutKind) (h : Header) (payload : List Nat) : List Nat :=
  let words := Config.halingWords kind.frameType payload
  let w := headerNum kind.frameType words.length h
  w :: payload ++ [crc32c (leBytes 16 w ++ words.flatMap (leBytes 4))]

/-- Header of a frame that this part originates (Table 12-1). -/
def State.halingHeader (s : State) (dest : Nat) (bcast : Bool) : Header :=
  { dest, bcast, hops := 0, src := s.seat, gen := s.haling.generation, fseq := s.haling.fseq, stamp := ofSigned 40 s.groupNow }

/-- A frame out of one port, where it is UP. -/
def State.sendPort (s : State) (kind : OutKind) (p : Nat) (data : List Nat) : State :=
  if s.portUp p then s.emit kind p data else s

/-- The next FSEQ (Table 12-1). -/
def State.nextFseq (s : State) : State := { s with haling := { s.haling with fseq := wrapInc 16 s.haling.fseq } }

/-- A broadcast goes out of both UP ports (R358). -/
def State.broadcast (s : State) (kind : OutKind) (payload : List Nat) : State :=
  let s := s.nextFseq
  let f := halingFrame kind (s.halingHeader 0 true) payload
  (s.sendPort kind 0 f).sendPort kind 1 f

/-- Port with the fewer hops to a seat; port A on a tie, and where nothing is known the one that is UP (R358). -/
def State.portFor (s : State) (seat : Nat) : Nat :=
  let x := mapGet {} s.haling.peers seat
  match x.hopsA, x.hopsB with
  | some a, some b => if b < a then 1 else 0
  | some _, none => 0
  | none, some _ => 1
  | none, none => if s.portUp 0 then 0 else 1

/-- A unicast frame that this part originates (R358). -/
def State.unicast (s : State) (kind : OutKind) (dest : Nat) (payload : List Nat) : State :=
  let s := s.nextFseq
  s.sendPort kind (s.portFor dest) (halingFrame kind (s.halingHeader dest false) payload)

/-- A frame to the neighbour on one port, which is never forwarded (Table 12-2): DEST and BCAST are 0, and it takes no FSEQ of its
own (DEDUCED, log 45: FSEQ counts broadcast and unicast frames). -/
def State.oneHop (s : State) (kind : OutKind) (p : Nat) (payload : List Nat) : State :=
  s.sendPort kind p (halingFrame kind (s.halingHeader 0 false) payload)

/-- Payload of a STATE frame (R372); δ goes out once, at its crossing. -/
def State.stateData (s : State) (delta : Int) : List Nat :=
  [s.tt.state.code, ofSigned 64 s.tt.wd, ofSigned 64 s.tt.wrest, realOf s.tt.vr, b2n s.tt.reached, ofSigned 64 delta]

/-- The homeroom tells its group of a seam correction (R372). -/
def State.sendDelta (s : State) (delta : Int) : State :=
  if s.inGroup ∧ s.isHomeroom then s.broadcast .stateFrame (s.stateData delta) else s

/-- Cast or withdraw this part's ready vote for the panel of slot i. The homeroom enters its own vote itself. -/
def State.castVote (s : State) (i : Nat) (ready : Bool) : State :=
  if s.inGroup then
    let p := s.slot i
    let s := s.modSlot i fun p => { p with voted := ready }
    if s.isHomeroom then
      { s with haling := { s.haling with
          votes := mapSet none s.haling.votes (s.seat * 2 ^ 32 + p.seq)
            (if ready then some (ofSigned 64 p.origin, p.h + p.g) else none) } }
    else s.unicast .voteFrame s.haling.homeroom [p.seq, b2n ready, ofSigned 64 p.origin, p.h + p.g, b2n s.haling.votedReady]
  else s

/-- Table 2-1: LOADING to RESIDENT when every line is stored, and back when one no longer counts. -/
def State.settleResident (s : State) (i : Nat) : State :=
  match (s.slot i).state with
  | .loading => if s.isResident i then (s.modSlot i fun p => { p with state := .resident }).castVote i true else s
  | .resident => if s.isResident i then s else (s.modSlot i fun p => { p with state := .loading }).castVote i false
  | _ => s

/-- Lines of lane l of slot i no longer count as stored (R89). -/
def State.uncountLines (s : State) (i l : Nat) (ys : List Nat) : State :=
  { s with lines := ys.foldl (fun m y => mapMod {} m (lineKey i l y) fun x => { x with stored := false }) s.lines }

/-- Discard every stored line of lane l of slot i. -/
def State.dropLane (s : State) (i l : Nat) : State :=
  { s with lines := s.lines.filter fun kv => decide (kv.1 / 2 ^ 24 ≠ i * 1024 + l) }

/-! Descriptors (R81, R87). -/

def descAddr (d : Nat) : Nat := bits d 63 0

def descLength (d : Nat) : Nat := bits d 88 64

def descOp (d : Nat) : Nat := bits d 103 96

def descBarrier (d : Nat) : Bool := bit d 104

def descIrq (d : Nat) : Bool := bit d 105

def descSeq (d : Nat) : Nat := bits d 159 128

def descFirst (d : Nat) : Nat := bits d 191 160

def descLines (d : Nat) : Nat := bits d 215 192

/-- Lines that a raster descriptor carries. -/
def State.descLineList (s : State) (q d : Nat) : List Nat :=
  (upTo (descLines d)).map fun k => descFirst d + s.sweepStep (ringDie q) * k

/-- Completion word of Table 3-10. -/
def completionWord (order idx status count stamp : Nat) : Nat :=
  phaseBit order idx * 2 ^ 63 + status % 2 ^ 6 * 2 ^ 57 + count % 2 ^ 25 * 2 ^ 32 + bits stamp 41 10

/-- Write the completion word of descriptor idx of ring q to host memory (R87). -/
def State.writeCompletion (s : State) (q idx status count : Nat) : State :=
  let r := s.ring q
  s.emit .hostWrite (r.base + 64 * (idx % 2 ^ r.order) + 56) [completionWord r.order idx status count s.timebase]

/-- Count one descriptor completed with this status in BAD, BAD_COUNT and LAST_STATUS (R89). -/
def State.countStatus (s : State) (q status : Nat) : State :=
  let s := s.modRing q fun r => { r with lastStatus := status, bad := if status = 0 then r.bad else wrapInc 32 r.bad }
  if status = 0 then s else { s with intake := { s.intake with badCount := wrapInc 32 s.intake.badCount } }

/-- The channel that serves ring q drops what it has staged and requested (R93). -/
def State.dropStaging (s : State) (q : Nat) : State :=
  { s with intake := { s.intake with
      channels := mapEach {} s.intake.channels fun _ c => if c.ring = some q then {} else c } }

/-- What a descriptor's end with an error leaves of the lines it carried: once its transfer has begun, none of them
counts as stored (R89). -/
def State.uncountHead (s : State) (q : Nat) : State :=
  match (s.ring q).head with
  | some h =>
    if h.moving ∧ s.ringKind q = 1 then
      (s.uncountLines (ringSlot q) (ringLane q) (s.descLineList q h.raw)).settleResident (ringSlot q)
    else s
  | none => s

/-- Complete the head descriptor: word, CONSUMER, counts, then the MSI-X vector (R87, R91). -/
def State.completeHead (s : State) (q status count : Nat) : State :=
  let r := s.ring q
  let irq := match r.head with
    | some h => descIrq h.raw
    | none => false
  let s := s.writeCompletion q r.consumer status count
  let s := (s.dropStaging q).modRing q fun r => { r with consumer := wrapInc 32 r.consumer, waiting := false, head := none }
  let s := s.countStatus q status
  if irq then s.sendMsix r.vector else s

/-- A descriptor that was being transferred has ended: a DECLARED panel with its SEQ is LOADING from then on (Table 2-1). -/
def State.loadingFrom (s : State) (i seq : Nat) : State :=
  s.modSlot i fun p => if p.state = .declared ∧ p.seq = seq then { p with state := .loading } else p

/-- The `n` completions of a ring reset from index `idx` on, the first with the bytes its read had received. -/
def State.resetCompletions (s : State) (q idx count : Nat) : Nat → State
  | 0 => s
  | n + 1 => ((s.writeCompletion q idx 8 count).countStatus q 8).resetCompletions q (wrapInc 32 idx) 0 n

/-- Ring reset (R78): every descriptor from CONSUMER to PRODUCER - 1 completes as WITHDRAWN. -/
def State.ringReset (s : State) (q : Nat) : State :=
  let r := s.ring q
  let s := s.uncountHead q
  let s := match r.head with
    | some h => if h.moving ∧ s.ringKind q = 1 then s.loadingFrom (ringSlot q) (descSeq h.raw) else s
    | none => s
  let (count, irq) := match r.head with
    | some h => (h.buf.length, descIrq h.raw)
    | none => (0, false)
  let n := (((r.producer : Int) - r.consumer) % 2 ^ 32).toNat
  let s := s.resetCompletions q r.consumer count n
  let s := (s.dropStaging q).modRing q fun r => { r with consumer := r.producer, waiting := false, head := none }
  if irq then s.sendMsix r.vector else s

/-- Reset the enabled raster rings of slot i for every lane of a station. -/
def State.resetSlotRings (s : State) (i st : Nat) : State :=
  (s.intake.rings.filter fun kv =>
      decide (ringDie kv.1 = st) && decide (ringLocal kv.1 < 4096) && decide (ringSlot kv.1 = i) && kv.2.enable).foldl
    (fun s kv => s.ringReset kv.1) s

/-- Discard a panel's raster of one station and reset its rings (R34, R60). -/
def State.discardRaster (s : State) (i st : Nat) : State :=
  let s := s.resetSlotRings i st
  { s with lines := s.lines.filter fun kv => decide (kv.1 / 2 ^ 31 ≠ i * 8 + st) }

end Sys2Proof.Machine
end

