-- ==== Sys2Proof/Machine/Codec.lean ====
section
/-! DEFINITION. Store sizes, legality and the TRC format (R104 to R108, R112, R116 to R120). -/

namespace Sys2Proof.Machine

/-! Slots and legality. -/

def ceilDiv (a b : Nat) : Nat := (a + b - 1) / b

/-- Slot size of a span in TRC form (Table 4-2). -/
def zTrc (n : Nat) : Nat := ceilDiv (65 * ceilDiv n 2) 64 + 8 * ceilDiv n 2048

/-- Slot size Z of a span x_lo to x_hi (Table 4-2). -/
def State.slotSize (s : State) (lo hi : Nat) : Nat :=
  if bit s.legacySelection 2 then hi + 1 - lo
  else if s.variant.codec then zTrc (hi + 1 - lo)
  else (hi - lo / 2 * 2) / 2 + 1

/-- Sum of Z over the scanners that a station uses. -/
def State.stationSize (s : State) (st : Nat) : Nat :=
  ((s.usedScanners st).map fun g => let x := s.spanOf g; s.slotSize x.1 x.2).sum

def State.channelBytes (s : State) (c : Nat) : Nat := if s.channelPresent c then (s.memChannel c).gb * 2 ^ 30 else 0

/-- Data bytes of the installed store, without the parity sectors (R74, R100). -/
def State.dataBytes (s : State) : Nat := (s.channelBytes 0 + s.channelBytes 1) * 7 / 8

/-- Usable store U (R105). -/
def State.usableStore (s : State) : Nat := s.dataBytes - 268435456

/-- Stations that R107 sums over. -/
def State.legalSum (s : State) : Nat :=
  ((s.presentDies.filter fun st => decide ((s.station st).band ≠ 2)).map s.stationSize).sum

/-- The panel geometry with this H_max fits twice (R107). -/
def State.legalHeight (s : State) (h : Nat) : Bool := decide (2 * h * s.legalSum ≤ s.usableStore)

/-- The largest legal H_max (R108). -/
def State.largestLegal (s : State) : Nat :=
  if s.legalSum = 0 then 2 ^ 32 - 1 else s.usableStore / (2 * s.legalSum)

/-- At a start and after a channel loss: 0x2300:5 is computed anew, and H_max lowered where it is no longer legal (R108). -/
def State.settleLegality (s : State) : State :=
  let m := s.largestLegal
  let s := { s with store := { s.store with largest := m } }
  if m < s.cfg 0x2100 8 then s.setCfg 0x2100 8 m else s

/-- Number of present memory channels. -/
def State.channelCount (s : State) : Nat := b2n (s.channelPresent 0) + b2n (s.channelPresent 1)

/-- PLAYBACK demand d_s for a v_max (R112). -/
def State.playbackDemand (s : State) (st : Nat) (vmax : Rat) : Nat :=
  if s.channelCount = 0 then 0
  else (-(ratFloor (-(vmax * s.stationSize st / (s.channelCount * 64000000 : Nat))))).toNat

/-- N_w of a data rate (Table 4-1); none for any other rate. -/
def windowSlots (rate : Nat) : Option Nat :=
  if rate = 8533 then some 400
  else if rate = 7500 then some 352
  else if rate = 6400 then some 300
  else if rate = 5500 then some 256
  else none

/-- Requester classes of a die (Table 4-3: TRACE is on die 0 only). -/
def classesOf (d : Nat) : Nat := if d = 0 then 7 else 6

/-- Weight of class c of die d; PLAYBACK defaults to 32 on a variant with one channel (Table 4-3). -/
def State.weight (s : State) (d c : Nat) : Nat :=
  if c = 3 ∧ mapGet none s.od (odKey (0x2310 + d) 4) = none ∧ s.variant.channels = 1 then 32
  else s.cfg (0x2310 + d) (c + 1)

/-- Sum of the weights of one port. -/
def State.weightSum (s : State) : Nat := (s.presentDies.map fun d => ((upTo (classesOf d)).map (s.weight d)).sum).sum

/-- The two conditions of R112 with this bound on the sum. -/
def State.weightsHold (s : State) (nw : Nat) (vmax : Rat) : Bool :=
  decide (s.weightSum ≤ nw) && s.presentDies.all fun d => decide (s.playbackDemand d vmax ≤ s.weight d 3)

/-- N_w that binds a write of a weight, v_max or a span: the smaller of the rate in use and the rate set (R112). -/
def State.boundSlots (s : State) : Nat :=
  min ((windowSlots s.store.rate).getD 0) ((windowSlots (s.cfg 0x2300 3)).getD 0)

def State.weightsOk (s : State) : Bool := s.weightsHold s.boundSlots (s.cfgReal 0x2320 1)

/-- Bytes of slot i not yet released, and their sum over the slots (0x2300:6). -/
def State.reservedRaster (s : State) : Nat := (s.slots.map fun kv => if kv.2.granted then kv.2.shares.sum else 0).sum

/-- Shares of a panel by station: H times the slot sizes (R106). -/
def State.sharesOf (s : State) (mask h : Nat) : List Nat :=
  (upTo 8).map fun st => if bit mask st then h * s.stationSize st else 0

/-! Pixels packed two to a byte. -/

def unpack4 (bs : List Nat) : List Nat := bs.flatMap fun b => [b % 16, b / 16 % 16]

def pack4 : List Nat → List Nat
  | [] => []
  | [a] => [a % 16]
  | a :: b :: rest => (a % 16 + 16 * (b % 16)) :: pack4 rest

/-- CHECK of a block's pixels (R120). -/
def trcCheck (px : List Nat) : Nat := (pack4 px).sum % 256

/-- The word that four bytes spell. -/
def word4 (bs : List Nat) : Nat := bs.getD 0 0 + 256 * bs.getD 1 0 + 65536 * bs.getD 2 0 + 16777216 * bs.getD 3 0

def bytes4 (w : Nat) : List Nat := [w % 256, w / 256 % 256, w / 65536 % 256, w / 16777216 % 256]

/-- Result of decoding tokens: the pixels, where every operand and pad rule of R120 holds. Pixels carry 16 where they
are dark by R102. `above` and `above2` start at the current pixel; `n` pixels remain. -/
def trcTokens : Nat → List Nat → List Nat → List Nat → Nat → Option (List Nat)
  | 0, _, _, _, _ => none
  | fuel + 1, bs, above, above2, n =>
    if n = 0 then (if bs.all (· == 0) then some [] else none)
    else match bs with
      | [] => none
      | t :: rest =>
        let (cnt, rest) :=
          if bit t 5 then (256 * (t % 32) + rest.headD 0 + 1, rest.drop 1) else (t % 32 + 1, rest)
        if n < cnt ∨ (bit t 5 ∧ bs.length < 2) then none
        else match t / 64 with
          | 0 =>
            let k := (cnt + 1) / 2
            if rest.length < k then none
            else
              let px := unpack4 (rest.take k)
              if cnt % 2 = 1 ∧ px.getD cnt 0 ≠ 0 then none
              else (trcTokens fuel (rest.drop k) (above.drop cnt) (above2.drop cnt) (n - cnt)).map (px.take cnt ++ ·)
          | 1 =>
            match rest with
            | [] => none
            | v :: rest2 =>
              if 16 ≤ v then none
              else (trcTokens fuel rest2 (above.drop cnt) (above2.drop cnt) (n - cnt)).map (List.replicate cnt v ++ ·)
          | 2 => (trcTokens fuel rest (above.drop cnt) (above2.drop cnt) (n - cnt)).map (above.take cnt ++ ·)
          | _ => (trcTokens fuel rest (above.drop cnt) (above2.drop cnt) (n - cnt)).map (above2.take cnt ++ ·)

/-- A list taken to length n, with 0 beyond its end (lines before the chain read 0, R119). -/
def padTo (n : Nat) (xs : List Nat) : List Nat := xs.take n ++ List.replicate (n - xs.length) 0

/-- Pixel values without the dark mark. -/
def plain (px : List Nat) : List Nat := px.map (· % 16)

/-- Decode one block from the head of `bs` at pixel `x` of a line (R116 to R120): its pixels and its size. -/
def trcBlock (bs prev prev2 : List Nat) (x : Nat) : Option (List Nat × Nat) :=
  if bs.length < 4 then none
  else
    let hdr := word4 bs
    let npix := bits hdr 10 0 + 1
    let len := bits hdr 21 11
    let b := ceilDiv npix 2
    if bs.length < 4 + len ∨ b + ceilDiv b 64 + 8 < 4 + len ∨ len % 4 ≠ 0 then none
    else
      let pay := (bs.drop 4).take len
      let px : Option (List Nat) :=
        match bits hdr 31 30 with
        | 0 => trcTokens (len + 1) pay (padTo npix (prev.drop x)) (padTo npix (prev2.drop x)) npix
        | 1 =>
          if len = (b + 3) / 4 * 4 ∧ (pay.drop b).all (· == 0) ∧ (npix % 2 = 0 ∨ pay.getD (b - 1) 0 < 16) then
            some ((unpack4 pay).take npix)
          else none
        | _ => none
      match px with
      | none => none
      | some px => if trcCheck px = bits hdr 29 22 then some (px, 4 + len) else none

/-- TYPE 1 block of some pixels (R117). -/
def trcStored (px : List Nat) : List Nat :=
  let b := ceilDiv px.length 2
  let len := (b + 3) / 4 * 4
  bytes4 (1 * 2 ^ 30 + trcCheck px * 2 ^ 22 + len * 2 ^ 11 + (px.length - 1)) ++ padTo len (pack4 px)

/-- How a TRC line ends when parsed from the head of a buffer. -/
inductive TrcLine where
  /-- Its pixels and its size in bytes. -/
  | ok (pixels : List Nat) (size : Nat)
  /-- The buffer ends inside the line. -/
  | short
  /-- A block fails R120, or the line exceeds its slot. -/
  | bad
deriving DecidableEq, Repr

/-- Parse the blocks of one line of n pixels; block k of `bad` is dark (R102). -/
def trcLineFrom : Nat → List Nat → List Nat → List Nat → Nat → Nat → Nat → List Nat → TrcLine
  | 0, _, _, _, _, _, _, _ => .bad
  | fuel + 1, bs, prev, prev2, n, x, k, bad =>
    if n ≤ x then .ok [] 0
    else if bs.length < 4 ∨ bs.length < 4 + bits (word4 bs) 21 11 then .short
    else match trcBlock bs prev prev2 x with
      | none => .bad
      | some (px, size) =>
        if n < x + px.length then .bad
        else
          let px := if bad.contains k then px.map (· % 16 + 16) else px
          match trcLineFrom fuel (bs.drop size) prev prev2 n (x + px.length) (k + 1) bad with
          | .ok rest sz => .ok (px ++ rest) (size + sz)
          | r => r

/-- One line of n pixels at the head of `bs` (R120): also no longer than Z(n). -/
def trcLine (bs prev prev2 : List Nat) (n : Nat) (bad : List Nat := []) : TrcLine :=
  match trcLineFrom (n + 1) bs prev prev2 n 0 0 bad with
  | .ok px size => if zTrc n < size then .bad else .ok px size
  | r => r

/-- TYPE 1 blocks of a line, 2,048 pixels each (R121, R123). -/
def trcStoredLine : Nat → List Nat → List Nat
  | 0, _ => []
  | fuel + 1, px => if px = [] then [] else trcStored (px.take 2048) ++ trcStoredLine fuel (px.drop 2048)

/-! Lines in the buffer and in the store (R84). -/

/-- Stride of a line in a ring's format; 0 for TRC. -/
def lineStride (format lo hi : Nat) : Nat :=
  let need := if format = 2 then hi + 1 - lo else (hi - lo / 2 * 2) / 2 + 1
  if format = 1 then 0 else (need + 63) / 64 * 64

/-- Pixels of line k of a 4-bit or 8-bit buffer. -/
def bufferLine (format lo hi k : Nat) (buf : List Nat) : List Nat :=
  let bs := buf.drop (k * lineStride format lo hi)
  if format = 2 then padTo (hi + 1 - lo) bs
  else padTo (hi + 1 - lo) ((unpack4 (bs.take ((hi - lo / 2 * 2) / 2 + 1))).drop (lo % 2))

/-- Decoded pixels of stored line y and of the line before it in its chain, going back at most `fuel` lines; dark
pixels carry 16, and 8-bit pixels are reduced to the window's 4 bits (R145). -/
def State.decodePair (s : State) (i l : Nat) : Nat → Nat → List Nat × List Nat
  | 0, _ => ([], [])
  | fuel + 1, y =>
    let x := s.spanOf (laneScanner l)
    let n := x.2 + 1 - x.1
    let ln := s.lineAt i l y
    let step := s.sweepStep (laneStation l)
    match ln.form with
    | 1 =>
      let before := if step ≤ y ∧ (s.lineAt i l (y - step)).chain = ln.chain then
          s.decodePair i l fuel (y - step)
        else ([], [])
      match trcLine ln.bytes before.1 before.2 n ln.badBlocks with
      | .ok px _ => (px, before.1)
      | _ => (List.replicate n 16, before.1)
    | 2 => (if ln.badBlocks = [] then padTo n (ln.bytes.map fun v => (15 * v + 127) / 255) else List.replicate n 16, [])
    | _ => (if ln.badBlocks = [] then padTo n ((unpack4 ln.bytes).drop (x.1 % 2)) else List.replicate n 16, [])

/-- Decoded pixels of stored line y (R125). -/
def State.decodeStored (s : State) (i l y : Nat) : List Nat := (s.decodePair i l (y + 1) y).1

end Sys2Proof.Machine
end

