-- ==== Sys2Proof/Machine/Retention.lean ====
section
/-! DEFINITION. The standby domain's view of the part: whether the part is powered, the real-time counter, and the
power records of the retention store (R417, R422 to R425). -/

namespace Sys2Proof.Machine

/-! Rails (R419). -/

def State.railStep (s : State) (r : Nat) : Nat := s.cfg (0x4201 + r) 2

/-- A rail that the sequencer steps: unused rails and the input monitor have no SEQ_EN. -/
def State.railStepped (s : State) (r : Nat) : Bool := decide (1 ≤ s.railRole r) && decide (s.railRole r ≤ 5)

/-- Rails of a step. -/
def State.railsOf (s : State) (k : Nat) : List Nat :=
  (upTo 8).filter fun r => s.railStepped r && decide (s.railStep r = k)

/-- Steps that some rail uses, rising. -/
def State.usedSteps (s : State) : List Nat := (upTo 8).filter fun k => !(s.railsOf k).isEmpty

/-- The power-up is complete, in a shut-down every part rail is still on, and PORn is high: the units outside the standby domain
act. -/
def State.powered (s : State) : Bool :=
  !s.straps.porLow && (decide (s.power.seq = .on) || (decide (s.power.seq = .shutDown)
    && (upTo 8).all fun r => decide (s.railRole r ≠ 1) || bit s.power.enables r))

/-! The real-time counter (R417). -/

/-- The counter now: 32,768 counts a second, 48 bits. -/
def State.rtcNow (s : State) : Nat :=
  (s.power.rtc + (s.timebase - s.power.rtcAt) * 32768 / 1600000000) % 2 ^ 48

/-- While the timebase does not run the counter goes on by an amount that the model does not know. -/
def State.standbyTime (s : State) : State :=
  if s.powered then s
  else
    let (n, s) := s.freeNat
    { s with power := { s.power with rtc := (s.power.rtc + n) % 2 ^ 48 } }

/-! Power records (Table 14-2). -/

/-- Bytes 0 to 123 of a record, as one number. -/
def PowerRec.body (r : PowerRec) : Nat :=
  r.rseq + r.event * 2 ^ 32 + r.step * 2 ^ 40 + r.undischarged * 2 ^ 48 + r.pgTimeout * 2 ^ 56 + r.rtc * 2 ^ 64
    + ((upTo 8).map fun k => r.snapshot.getD k 0 % 256 * 2 ^ (128 + 8 * k)).sum
    + r.cause * 2 ^ 192 + r.fault * 2 ^ 224 + r.stamp * 2 ^ 256 + ofSigned 64 r.w * 2 ^ 320 + r.incCause * 2 ^ 384
    + ((upTo 8).map fun k => r.stations.getD k 0 % 2 ^ 64 * 2 ^ (416 + 64 * k)).sum

/-- The 128 bytes of a record, its CRC-32C last. -/
def PowerRec.bytes (r : PowerRec) : List Nat :=
  let bs := leBytes 124 r.body
  (bs ++ leBytes 4 (crc32c bs)).map (·.toNat)

/-- The newest valid record (R424). -/
def State.newestRec (s : State) : Option PowerRec :=
  match s.power.slot0, s.power.slot1 with
  | some a, some b => if follows32 b.rseq a.rseq then some b else some a
  | some a, none => some a
  | none, b => b

/-- Write a new record: bits [927:192] are copied from the newest valid record unless the event sets them (R423). -/
def State.putRecord (s : State) (event step : Nat) (f : PowerRec → PowerRec) : State :=
  if s.power.vstby = false then s
  else
    let n := s.power.nextRec
    let old := s.newestRec.getD {}
    let r := f { old with
      rseq := n, event, step, undischarged := s.power.undischarged, pgTimeout := s.power.pgTimeouts
      rtc := s.rtcNow, snapshot := s.power.readings }
    let p := if n % 2 = 0 then { s.power with slot0 := some r } else { s.power with slot1 := some r }
    ({ s with power := { p with nextRec := wrapInc 32 n } }).emit .retentionWrite (n % 2) r.bytes

/-- The write of a record is abandoned (R424): the slot that it would have taken fails its CRC, with bytes that are not known, and the
next record takes the same slot. -/
def State.tearRecord (s : State) : State :=
  if s.power.vstby = false then s
  else
    let (v, s) := s.freeNat
    let bs := (upTo 128).map fun k => v / 256 ^ k % 256
    { s with power := if s.power.nextRec % 2 = 0 then { s.power with slot0 := none, torn0 := bs } else { s.power with slot1 := none, torn1 := bs } }

/-- The 128 bytes of a slot of the retention store: its valid record, what an abandoned write left, or the reset value. -/
def State.slotBytes (s : State) (k : Nat) : List Nat :=
  let (r, torn) := if k = 0 then (s.power.slot0, s.power.torn0) else (s.power.slot1, s.power.torn1)
  match r with
  | some r => r.bytes
  | none => if torn = [] then List.replicate 128 0 else torn

/-- Slot that holds the newest valid record; slot 0 where neither is valid (DESIGN CHOICE, log 28). -/
def State.newestSlot (s : State) : Nat :=
  match s.newestRec with
  | some r => if s.power.slot1 = some r then 1 else 0
  | none => 0

/-- The 64 entries of the trace tail, oldest first, entries never written being 0. -/
def State.tailWords (s : State) : List Nat := List.replicate (64 - s.power.tail.length) 0 ++ s.power.tail

/-- The incomplete-panel record in the retention store (R56). No sequencing event: EVENT is 0. -/
def State.keepRecord (s : State) : State :=
  s.putRecord 0 0 fun r =>
    { r with incCause := s.record.cause, stations := s.record.entries, stamp := s.record.stamp, w := s.record.w
             fault := if s.faults.fatal then s.faults.fatalCode else r.fault }

end Sys2Proof.Machine
end

