-- ==== Sys2Proof/Machine/Panels.lean ====
section
/-! DEFINITION. Panel slots: bells and deadlines, the incomplete-panel record, completion, the re-plan of a station
and the declaration and phases of the seamless halt (chapter 2). -/

namespace Sys2Proof.Machine

/-! Positions (R23 to R25, R39, R44, R45). -/

/-- A whole number of line units as a position. -/
def lu (n : Nat) : Int := (n : Int) * 65536

def State.stationOffset (s : State) (st : Nat) : Int := s.cfgI64 0x2181 (st + 1)

def State.exposureArc (s : State) (st : Nat) : Int := (s.cfg 0x2182 (st + 1) : Int)

/-- The largest leading beam of a half-band station, m_s of R39. -/
def State.leadOffset (s : State) (st : Nat) : Nat :=
  if (s.station st).band = 1 then (s.usedScanners st).foldl (fun m g => max m (s.leadBeam g)) 0 else 0

/-- B of panel i at station st (R39). -/
def State.bellAt (s : State) (i st : Nat) : Int :=
  (s.slot i).origin + s.stationOffset st - s.exposureArc st - lu (s.leadOffset st)

/-- The smallest of a list of positions; 0 for none. -/
def minPos : List Int → Int
  | [] => 0
  | x :: xs => xs.foldl min x

def maxPos : List Int → Int
  | [] => 0
  | x :: xs => xs.foldl max x

/-- B_first of a panel: its first bell. -/
def State.firstBell (s : State) (i : Nat) : Int := minPos ((maskStations (s.slot i).mask).map (s.bellAt i))

/-- Commit deadline C_p (R39). -/
def State.deadlineAt (s : State) (i : Nat) : Int := s.firstBell i - lu (s.cfg 0x2100 2)

def SlotState.uncommitted : SlotState → Bool
  | .declared => true
  | .loading => true
  | .resident => true
  | _ => false

/-- COMMITTED or EXPOSING. -/
def SlotState.isCommitted : SlotState → Bool
  | .committed => true
  | .exposing => true
  | _ => false

/-- Slots of a kind, in order of declaration. -/
def State.slotsWhere (s : State) (p : SlotState → Bool) : List Nat :=
  ((upTo 32).filter fun i => p (s.slot i).state).mergeSort fun a b => decide ((s.slot a).order ≤ (s.slot b).order)

/-- First uncommitted panel of the job. -/
def State.firstUncommitted (s : State) : Option Nat := (s.slotsWhere SlotState.uncommitted).head?

/-- The next panel of a halt: the first that is declared and not yet exposing. -/
def State.nextPanel (s : State) : Option Nat :=
  (s.slotsWhere fun x => x.uncommitted || decide (x = .committed)).head?

/-- LEGACY late-data behaviour is selected (R66, R466). -/
def State.legacyLate (s : State) : Bool := bit s.legacySelection 0

/-- D_s as R44 uses it: D_group for every station in a timetable group (R371). -/
def State.haltOffset (s : State) (st : Nat) : Int := if s.inGroup then s.haling.dGroup else s.stationOffset st

/-- W_d over the committed panels (R44), and after a missed deadline in LEGACY the D_f term too (R66); none without one. A
panel is committed here while its slot is COMMITTED or EXPOSING: one already COMPLETE sets no W_d, though its trailing line may
not have passed the last nip (DESIGN CHOICE, log 13). -/
def State.trailing (s : State) (legacy : Bool) : Option Int :=
  let cs := (s.slotsWhere SlotState.isCommitted).flatMap fun i =>
    let p := s.slot i
    (maskStations p.mask).map fun st => p.origin + lu p.h + s.haltOffset st
  let fs := if legacy then
      (s.slotsWhere SlotState.isCommitted).map fun i => (s.slot i).origin + lu (s.slot i).h + s.cfgI64 0x2100 12
    else []
  if cs = [] then none else some (maxPos (cs ++ fs))

/-! Events and slots. -/

/-- The timetable enters a state (traced, Table 15-14). -/
def State.enterTT (s : State) (x : TTState) : State :=
  if s.tt.state = x then s
  else
    let s := { s with tt := { s.tt with
        state := x, ranIn := s.tt.ranIn && decide (x ≠ TTState.stopped) && decide (x ≠ TTState.idle), origin0 := if s.tt.state = TTState.idle then s.tt.nextOrigin else s.tt.origin0 } }
    let s := if x = TTState.stopped then s.holdMeasured else s
    let s := (s.traceEntry 2 (2 ^ 12 + x.code)).settlePolygons
    if x = TTState.idle ∨ x = TTState.stopped then s.cancelAllFlips.emptyCarry else s

/-- Set bits of the defect flags of a slot (Table 2-7). -/
def State.flagSlot (s : State) (i b : Nat) : State := s.modSlot i fun p => { p with flags := setBit p.flags b true }

/-- Release a station's share of the store (R36). -/
def State.releaseShare (s : State) (i st : Nat) : State := s.modSlot i fun p => { p with shares := p.shares.set st 0 }

/-- Release the whole reservation of a slot. -/
def State.releaseStore (s : State) (i : Nat) : State := s.modSlot i fun p => { p with shares := [], granted := false }

/-- Station `st` has nothing more to expose of slot i: completed or fenced stations cover the mask (R37). -/
def Slot.finished (p : Slot) : Bool :=
  (maskStations p.mask).all fun st => bit p.doneStations st || bit p.fencedStations st

/-- The last two rows of Table 2-1: the panel ends COMPLETE, or INCOMPLETE where a station was fenced. -/
def State.settlePanel (s : State) (i : Nat) : State :=
  let p := s.slot i
  if p.state.isCommitted && p.finished then
    let s := (s.releaseStore i).modSlot i fun p =>
      { p with state := if p.fencedStations = 0 then .complete else .incomplete }
    s.postLead 4 p.seq p.flags
  else s

/-- Station st completes the panel of slot i (R36, Table 2-1). -/
def State.stationComplete (s : State) (i st : Nat) : State :=
  let p := s.slot i
  let s := (s.releaseShare i st).modSlot i fun p => { p with doneStations := setBit p.doneStations st true }
  let s := s.modStation st fun x => { x with current := if x.current = some i then none else x.current, lastDone := some (p.seq, p.h) }
  (s.postLead 3 p.seq st).settlePanel i

/-- Line y of the panel in slot i is not exposed whole by its station (R56). -/
def State.dimLine (s : State) (i st y : Nat) : State :=
  s.modSlot i fun p => { p with dimLine := mapMod none p.dimLine st fun o => some (match o with | some k => min k y | none => y) }

/-- Entry of a station in the record (Table 2-8): the panel it exposes with its last fully exposed line, or its last
completed panel. -/
def State.recordEntry (s : State) (st : Nat) : Nat :=
  match (s.station st).current with
  | some i =>
    let p := s.slot i
    let ns := (s.usedScanners st).map fun g => if (s.scanner g).panel = p.order then (s.scanner g).fullSweeps else 0
    let n := match ns with
      | [] => 0
      | x :: xs => xs.foldl min x
    let lines := min p.h (n * s.sweepStep st)
    let lines := match mapGet none p.dimLine st with
      | some y => min lines y
      | none => lines
    p.seq * 2 ^ 32 + (if lines = 0 then 0xFFFFFFFF else lines - 1)
  | none =>
    match (s.station st).lastDone with
    | some (seq, h) => seq * 2 ^ 32 + (h - 1)
    | none => 0xFFFFFFFF

/-- Write the incomplete-panel record (R56): only where a panel is COMMITTED or EXPOSING. After a power loss the
record of the sequencer carries it (R426). -/
def State.writeRecord (s : State) (cause : Nat) : State :=
  if s.slotsWhere SlotState.isCommitted = [] then s
  else
    let s := { s with record := {
        cause
        stamp := s.timebase
        w := s.w
        entries := (upTo 8).map fun st => if s.fitted st then s.recordEntry st else 0xFFFFFFFF } }
    if cause = 1 then s else s.keepRecord

/-- Every committed panel becomes INCOMPLETE and its store is released. -/
def State.stopCommitted (s : State) : State :=
  let is := s.slotsWhere SlotState.isCommitted
  let s := is.foldl (fun s i => (s.releaseStore i).modSlot i fun p => { p with state := .incomplete }) s
  { s with stations := mapEach {} s.stations fun _ x => { x with current := none } }

/-- What a stop leaves of the halt in progress (Table 2-3). -/
def State.clearHalt (s : State) : State :=
  { s with tt := { s.tt with decelerating := false, holdHalt := false, legacyStop := false, corrective := .none,
                             nipPending := false, restKnown := false, reached := false, endPending := false, chosenMark := none } }

/-- A stop condition of R42: record, INCOMPLETE panels, timetable STOPPED (Table 13-1). IDLE stays IDLE. -/
def State.stopTimetable (s : State) (cause : Nat) : State :=
  let s := (s.writeRecord cause).stopCommitted
  if s.tt.state = .idle then s else s.clearHalt.enterTT .stopped

/-! Ending a job (R33, R51). -/

/-- Withdraw one uncommitted panel: raster, store and rings (R34). -/
def State.withdrawSlot (s : State) (i : Nat) : State :=
  let p := s.slot i
  let s := (maskStations p.mask).foldl (fun s st => s.discardRaster i st) s
  let s := if p.state = .resident then s.castVote i false else s
  let s := (s.cancelFlips p.seq).releaseStore i
  s.modSlot i fun p => { p with state := .withdrawn, late := false, commitMsg := false, voted := false }

/-- Withdraw these panels, the first of them declared before the others: the next declaration takes its sequence number and
origin (R34). Where it was the first of its job, R32 lets the next declaration carry any sequence number (DESIGN CHOICE,
log 13). -/
def State.withdrawPanels (s : State) (is : List Nat) : State :=
  match is with
  | [] => s
  | i :: _ =>
    let s1 := is.foldl State.withdrawSlot s
    { s1 with tt := { s1.tt with last := (s.slot i).prev } }

/-! Band plan (R58 to R60). -/

/-- Lowest b0 with beams b0 to b0 + 15 all healthy (R58). -/
def State.planScanner (s : State) (g : Nat) : Option Nat :=
  if (upTo 32).all fun b => s.beamHealthy g b then some 0
  else (upTo 17).find? fun b0 => (upTo 16).all fun j => s.beamHealthy g (b0 + j)

/-- Give a station a band mode and its scanners leading beams; a change discards the raster of every uncommitted
panel naming it, which returns to DECLARED (R60). -/
def State.setPlan (s : State) (st band : Nat) (b0s : List Nat) : State :=
  let same := decide ((s.station st).band = band) && (upTo 4).all fun c => decide (s.leadBeam (4 * st + c) = b0s.getD c 0)
  if same then s
  else
    let is := (s.slotsWhere SlotState.uncommitted).filter fun i => bit (s.slot i).mask st
    let s := is.foldl (fun s i =>
      let s := s.discardRaster i st
      let s := if (s.slot i).state = .resident then s.castVote i false else s
      s.modSlot i fun p => { p with state := .declared }) s
    let s := s.modStation st fun x => { x with band }
    let s := { s with leading := (upTo 4).foldl (fun m c => mapSet 0 m (4 * st + c) (b0s.getD c 0)) s.leading }
    s.planLanes st

/-- Re-plan one station that has a failed beam (R58). -/
def State.replanStation (s : State) (st : Nat) : State :=
  if (s.station st).band = 2 ∨ (s.usedScanners st).all (fun g => (upTo 32).all fun b => s.beamHealthy g b) then s
  else
    let plans := (s.usedScanners st).map s.planScanner
    if plans.all (·.isSome) then s.setPlan st 1 (plans.map (·.getD 0)) else s.setPlan st 2 []

/-- Re-plan every station (R58); a half-band station whose polygons cannot double sets the web speed ceiling (R59). The ceiling
returns to 0 only at a reset, also where R61 has restored full band (DESIGN CHOICE, log 13: R59 gives no end of it). -/
def State.replan (s : State) : State :=
  let s1 := s.presentDies.foldl State.replanStation s
  let newHalf := s.presentDies.any fun st => decide ((s.station st).band ≠ 1) && decide ((s1.station st).band = 1)
  let vr := s.restartSpeed
  let s1 := { s1 with tt := { s1.tt with holdBeam := false } }
  (if newHalf ∧ 2000 < vr / 16 then { s1 with tt := { s1.tt with ceiling := realOf (vr / 2) } } else s1).settlePolygons

/-! Ending a job (R33, R51). -/

/-- The timetable enters IDLE: uncommitted panels are withdrawn and a new job begins. -/
def State.enterIdle (s : State) : State :=
  let s := (s.slotsWhere SlotState.uncommitted).foldl State.withdrawSlot s
  let s := (s.clearHalt.webRelease).enterTT .idle
  let s := { s with tt := { s.tt with last := none, afterEnd := true } }
  if s.tt.holdBeam then s.replan else s

/-! The halt (R43 to R47). -/

/-- W_rest of a next panel (R45); the distance of the run-up is rounded down to 1/65,536 line unit, so W_rest is rounded up
(DESIGN CHOICE, log 13). -/
def State.restFor (s : State) (i : Nat) (vr : Rat) : Int :=
  s.firstBell i - lu (s.cfg 0x2100 3) - ratPos (vr * vr / (2 * s.cfgReal 0x2100 6)) - lu (s.cfg 0x2100 4)

/-- W_rest that the web reverses to: in a group, the lowest that the homeroom holds of its members (R371). -/
def State.groupRest (s : State) (wr : Int) : Int :=
  if s.inGroup ∧ s.isHomeroom then
    s.haling.census.foldl (fun m seat => match (s.peer seat).wrest with
      | some x => min m x
      | none => m) wr
  else wr

/-- Record W_rest; a member reports its own to the homeroom when it changes in a halt (R371). -/
def State.noteRest (s : State) (wr : Int) : State :=
  let s1 := { s with tt := { s.tt with wrest := s.groupRest wr, restKnown := true } }
  if s.inGroup ∧ !s.isHomeroom ∧ (s.tt.wrest ≠ wr ∨ !s.tt.restKnown) then
    s1.unicast .haltReportFrame s.haling.homeroom [ofSigned 64 wr]
  else s1

/-- B = W_stop - W_rest of a halt whose web reverses (R45); 0 where it does not. -/
def State.noteBackup (s : State) : State := { s with tt := { s.tt with backup := max 0 (s.tt.wstop - s.tt.wrest) } }

/-- Recompute v_r with the polygons' targets that go by it (Table 7-1), W_rest and B; in WAITING a web standing beyond the new W_rest reverses again, and in REVERSING the
reverse goes to the new position (R50). -/
def State.settleRest (s : State) : State :=
  let vr := s.restartSpeed
  match s.nextPanel with
  | none => { s with tt := { s.tt with vr, restKnown := false } }.settlePolygons
  | some i =>
    let s := ({ s with tt := { s.tt with vr } }.noteRest (s.restFor i vr)).settlePolygons
    let wr := s.tt.wrest
    if s.tt.legacyStop then s
    else match s.tt.state with
      | .reversing => s.noteBackup.webReverse wr
      | .waiting =>
        if wr + lu (s.cfg 0x2100 4) < s.w ∧ s.tt.corrective = .none then (s.noteBackup.enterTT .reversing).webReverse wr
        else if s.tt.backup ≠ 0 then s.noteBackup
        else s
      | _ => s

/-- This part's own W_rest in a halt that it does not lead, so that the homeroom hears of it (R371). -/
def State.ownRest (s : State) : State :=
  if s.inGroup ∧ !s.isHomeroom ∧ s.tt.state = .halting then
    match s.nextPanel with
    | none => s
    | some i => s.noteRest (s.restFor i s.restartSpeed)
  else s

/-- W reaches W_d: decelerate, park the fuser, record W_fo, halt setpoints, speed hold, re-plan (Table 2-2, R58). A nip that is
still open from the halt before keeps its W_fo, so that the web from there on passes a closed nip once (R47; DEDUCED, log 13). -/
def State.beginDeceleration (s : State) : State :=
  let s := { s with tt := { s.tt with
      decelerating := true, wfo := if s.tt.nipPending then s.tt.wfo else s.w, nipPending := true } }
  ((((s.webDecelerate.parkFuser).hvToHalt).replan).settlePolygons).ownRest

/-- LEGACY: the nip closes as soon as the zones are in band, once the next panel has committed (R66 step 6, R325). -/
def State.legacyNip (s : State) : State :=
  if s.tt.legacyStop ∧ s.tt.nipPending ∧ (s.tt.state = .waiting ∨ s.tt.state = .restarting) ∧ s.zonesInBand
      ∧ (s.nextPanel.any fun i => decide ((s.slot i).state = .committed)) then
    { (s.setNip false) with tt := { (s.setNip false).tt with nipPending := false } }
  else s

/-- Deceleration begins where W stands at or beyond W_d (R44). -/
def State.checkDeceleration (s : State) : State :=
  if (s.tt.state = .halting ∨ s.tt.state = .ending) ∧ s.tt.decelerating = false ∧ s.tt.wd ≤ s.w then
    s.beginDeceleration
  else s

/-- Record W_d and the speed before the halt (R44, R45); `legacy` marks a missed deadline of R66. What was known of W_rest is of
the halt before (R371). -/
def State.markHalt (s : State) (legacy : Bool) : State :=
  let v := if s.web.moving then s.webSpeed else 0
  { s with tt := { s.tt with wd := (s.trailing legacy).getD s.w, vBefore := v, decelerating := false, legacyStop := false, restKnown := false }
           haling := { s.haling with peers := mapEach {} s.haling.peers fun _ x => { x with wrest := none } } }

/-- Declare a seamless halt (R43): event 0x0006 names the first uncommitted panel. -/
def State.declareHalt (s : State) (late : Bool) : State :=
  let s := s.markHalt (late && s.legacyLate)
  let s := { s with tt := { s.tt with haltCount := wrapInc 32 s.tt.haltCount, legacyStop := late && s.legacyLate } }
  let s := s.enterTT .halting
  let seq := match s.firstUncommitted with
    | some i => (s.slot i).seq
    | none => 0
  (s.postLead 6 seq s.tt.state.code).checkDeceleration

/-- END in RUNNING, and an NMT transition deferred there (R51, R447). -/
def State.beginEnding (s : State) : State := ((s.markHalt false).enterTT .ending).checkDeceleration

/-- From REVERSING on, a panel that missed its deadline may commit again (R40). -/
def State.clearLate (s : State) : State := { s with slots := mapEach {} s.slots fun _ p => { p with late := false } }

/-- The web is at rest in a halt: measure W_stop and reverse, or start from where it stands (R45, R66). -/
def State.beginReverse (s : State) : State :=
  let s := { s with tt := { s.tt with wstop := s.w, decelerating := false, backup := 0 } }.clearLate
  let s := { s with tt := { s.tt with vr := s.restartSpeed } }
  match s.nextPanel with
  | none => (s.enterTT .waiting).webStand
  | some i =>
    let s := s.noteRest (s.restFor i s.tt.vr)
    let wr := s.tt.wrest
    if s.tt.legacyStop ∨ s.w ≤ wr then (s.enterTT .waiting).webStand
    else (s.noteBackup.enterTT .reversing).webReverse wr

/-! Failed beams and fenced stations (R57, R62). -/

/-- Beams of the line in progress on link g go dark: no code of theirs is lit any more, and their lines are not exposed whole. -/
def State.darkenLine (s : State) (g mask : Nat) : State :=
  match (s.scanner g).line with
  | none => s
  | some l =>
    let st := scannerStation g
    let s1 := s.modScanner g fun x => { x with line := some { l with
      codes := (upTo 32).map fun b => if bit mask b then [] else l.codes.getD b [] } }
    (upTo 32).foldl (fun s b => match s.beamFirst g b with
      | some f => if bit mask b then s.dimLine l.slot st (f + s.sweepStep st * l.n) else s
      | none => s) s1

/-- Beams of scanner g failed (bits of `mask`): dark for the rest of every committed panel of its station, BEAM_DARK on each,
and no further commit until the re-plan (R57). In a halt the re-plan happens in that halt (Table 2-3), and in IDLE, where no
halt can follow, at once (DESIGN CHOICE, log 13). -/
def State.beamFailed (s : State) (g mask : Nat) : State :=
  if s.scannerUsed g then
    let st := scannerStation g
    let is := (s.slotsWhere SlotState.isCommitted).filter fun i =>
      bit (s.slot i).mask st && !bit (s.slot i).doneStations st
    let s := is.foldl (fun s i =>
      (s.flagSlot i 0).modSlot i fun p => { p with dark := mapMod 0 p.dark g (Nat.lor · mask) }) (s.darkenLine g mask)
    match s.tt.state with
    | .idle => s.replan
    | .reversing => s.replan.settleRest
    | .waiting => s.replan.settleRest
    | .halting => if s.tt.decelerating then s.replan else { s with tt := { s.tt with holdBeam := true } }
    | _ => { s with tt := { s.tt with holdBeam := true } }
  else s

/-- The die of station st is fenced: cause-6 record, the station unavailable with its uncommitted panels back in DECLARED
(R60), and each committed panel goes on elsewhere (R62). -/
def State.fenceStation (s : State) (st : Nat) : State :=
  let is := (s.slotsWhere SlotState.isCommitted).filter fun i => bit (s.slot i).mask st
  let s := if is = [] then s else s.writeRecord 6
  let s := (s.setPlan st 2 []).modStation st fun x => { x with current := none }
  is.foldl (fun s i =>
    (s.modSlot i fun p => { p with fencedStations := setBit p.fencedStations st true }).settlePanel i) s

/-- Bring LASER_EN g in line with R249; a drop other than by the hazard net darkens the scanner's 32 beams (R57). -/
def State.relaser (s : State) (g : Nat) : State :=
  let s1 := s.settleLaser g
  if (s.scanner g).laser && !(s1.scanner g).laser && !s.hazard.active then s1.beamFailed g (2 ^ 32 - 1) else s1

def State.relaserDie (s : State) (d : Nat) : State := (upTo 4).foldl (fun s c => s.relaser (4 * d + c)) s

end Sys2Proof.Machine
end

