-- ==== Sys2Proof/Machine/Reactions.lean ====
section
/-! DEFINITION. Fault classes, the hazard net, and the reactions that a fault takes on its unit, the unit's owner and
the part (R21, R57, R62, R103, R249, R267, R282, R289, R305, R308, R315, R322, R383 to R391, R398 to R410). -/

namespace Sys2Proof.Machine

/-! Classes (Tables 4-10, 5-18, 6-6, 7-5, 8-13, 9-18, 10-10, 11-7, 12-4, 13-10, 14-9, 15-15, 16-8). -/

/-- Causes of class 0 by 1024 × unit type + cause. -/
def correctedCauses : List Nat :=
  [0x02 * 1024 + 3, 0x03 * 1024 + 2, 0x08 * 1024 + 1, 0x10 * 1024 + 1, 0x10 * 1024 + 10, 0x18 * 1024 + 6,
   0x1A * 1024 + 1, 0x20 * 1024 + 1, 0x22 * 1024 + 1, 0x28 * 1024 + 6, 0x29 * 1024 + 2, 0x30 * 1024 + 5,
   0x30 * 1024 + 6, 0x30 * 1024 + 7, 0x31 * 1024 + 1, 0x32 * 1024 + 1, 0x32 * 1024 + 3, 0x33 * 1024 + 1,
   0x33 * 1024 + 3, 0x33 * 1024 + 5, 0x34 * 1024 + 1]

/-- Causes of class 2. -/
def fatalCauses : List Nat :=
  [0x01 * 1024 + 2, 0x01 * 1024 + 3, 0x01 * 1024 + 4, 0x02 * 1024 + 4, 0x04 * 1024 + 2, 0x04 * 1024 + 3,
   0x05 * 1024 + 1, 0x05 * 1024 + 2, 0x08 * 1024 + 4, 0x12 * 1024 + 9, 0x28 * 1024 + 1, 0x28 * 1024 + 2,
   0x30 * 1024 + 1, 0x30 * 1024 + 2, 0x31 * 1024 + 4, 0x31 * 1024 + 5, 0x31 * 1024 + 6, 0x32 * 1024 + 7]

/-- Class of a cause. -/
def causeClass (unit cause : Nat) : Nat :=
  if correctedCauses.contains (unit * 1024 + cause) then 0
  else if fatalCauses.contains (unit * 1024 + cause) then 2 else 1

/-- Fault code of a cause, its class included. -/
def codeOf (unit die inst cause : Nat) : Nat := faultCode (causeClass unit cause) unit die inst cause

/-- Take note of a fault, and of the latches of R462. -/
def State.noteFault (s : State) (unit die inst cause : Nat) (injected : Bool := false) : State :=
  let s := s.note (codeOf unit die inst cause) injected
  { s with faults := { s.faults with
      powerLatched := s.faults.powerLatched || (decide (unit = 0x30) && decide (causeClass unit cause = 1))
      thermalLatched := s.faults.thermalLatched || (decide (unit = 0x31) && decide (causeClass unit cause ≠ 0))
      thermalFatal := s.faults.thermalFatal || (decide (unit = 0x31) && decide (causeClass unit cause = 2)) } }

/-! The end of a detention (R461). -/

/-- Bytes of an EMCY message: error code, error register, fault code, 0 (R461). -/
def Emcy.bytes (x : Emcy) : List Nat :=
  [x.error % 256, x.error / 256 % 256, x.register, x.fault % 256, x.fault / 2 ^ 8 % 256, x.fault / 2 ^ 16 % 256,
   x.fault / 2 ^ 24 % 256, 0]

/-- EMCYs leave the queue, the inhibit time of 0x1015 (in 100 microseconds) apart. -/
def State.drainEmcy (s : State) : Nat → State
  | 0 => s
  | n + 1 =>
    match s.can.emcy with
    | [] => s
    | e :: rest =>
      let gap := s.cfg 0x1015 0 * 100 * ticksPerUs
      let free : Bool := match s.can.lastEmcyAt with
        | some t => decide (t + gap ≤ s.timebase)
        | none => true
      if free = true ∧ s.can.ctrl0 ≠ .busOff ∧ s.nmt.state ≠ .stopped ∧ bit (s.cfg 0x1014 0) 31 = false then
        (({ s with can := { s.can with emcy := rest, lastEmcyAt := some s.timebase } }).emit .can 0
          (s.cfg 0x1014 0 % 2 ^ 29 :: e.bytes)).drainEmcy n
      else s

/-- One EMCY joins the queue of 32 and the error list, and leaves when it may; a further one is dropped and counted,
CAN cause 5 (R457, R461). In NMT STOPPED, or with bit 31 of 0x1014 set, there is none (Tables 15-2 and 15-9). The error
list takes errors only, so an EMCY with error code 0 adds no entry (DEDUCED). -/
def State.queueEmcy (s : State) (error fault : Nat) (register : Nat) : State :=
  if s.nmt.state = .stopped then s
  else if bit (s.cfg 0x1014 0) 31 then s
  else if s.can.emcy.length < 32 then
    let e : Emcy := { error, register, fault }
    let entry : Nat := fault % 2 ^ 16 * 2 ^ 16 + error
    let s := { s with can := { s.can with emcy := s.can.emcy ++ [e], errors := if error = 0 then s.can.errors else (entry :: s.can.errors).take 16 } }
    s.drainEmcy 33
  else
    ({ s with nmt := { s.nmt with emcysDropped := wrapInc 32 s.nmt.emcysDropped } }).noteFault 0x33 0 0 5

/-- The error register 0x1001 (R462). -/
def State.errorRegister (s : State) : Nat :=
  let b7 := !s.faults.detained.isEmpty || decide (s.dies.fenced ≠ 0)
  let b4 := decide (s.can.ctrl0 ≠ .active) || decide (s.can.ctrl1 ≠ .active) || s.can.consumers.any fun kv => kv.2.timedOut
  let b3 := (s.thermal.any fun kv => decide (1 ≤ kv.2.level)) || s.faults.thermalLatched || s.faults.thermalFatal
  let b2 := s.faults.powerLatched
  let b0 := b7 || b4 || b3 || b2 || s.faults.latch || s.faults.fatal
  128 * b2n b7 + 16 * b2n b4 + 8 * b2n b3 + 4 * b2n b2 + b2n b0

/-- One EMCY with error code 0 when the latch is clear, nothing fatal is latched and no unit is in detention (R461). -/
def State.errorReset (s : State) : State :=
  if s.can.errorShown ∧ s.faults.latch = false ∧ s.faults.fatal = false ∧ s.faults.detained = [] then
    { (s.queueEmcy 0 0 s.errorRegister) with can := { (s.queueEmcy 0 0 s.errorRegister).can with errorShown := false } }
  else s

/-- NMT enters a state: traced (Table 15-14). -/
def State.toNmt (s : State) (x : NmtState) : State :=
  ({ s with nmt := { s.nmt with state := x } }).traceEntry 2 x.code

/-! Axes (R282, R289, Table 9-5). -/

def axisKey (a : Nat) : Nat := codeOf 0x19 (axisDie a) a 0

/-- The web drive axis has stopped or been detained with a panel COMMITTED or EXPOSING (R289). -/
def State.webGone (s : State) (a : Nat) : Bool :=
  decide (s.webAxis = some a) && !(s.slotsWhere SlotState.isCommitted).isEmpty

/-! The hazard net (R383 to R391). -/

/-- A source is recorded (R388); the internal source with its code (0x4000:2). -/
def State.hazardSource (s : State) (src code : Nat) : State :=
  { s with hazard := { s.hazard with
      sources := setBit s.hazard.sources src true
      internalCause := if src = 10 then code else s.hazard.internalCause } }

/-- Motion axis cause 7 is raised where the web drive axis is gone; its code becomes the internal cause. -/
def State.noteWebGone (s : State) (a : Nat) : State :=
  if s.webGone a then (s.note (codeOf 0x19 (axisDie a) a 7)).hazardSource 10 (codeOf 0x19 (axisDie a) a 7) else s

/-- What the net does to one axis: hazard action 2 stops it, 1 halts it; a fatal fault stops every axis (Table 13-4). -/
def State.hazardAxis (s : State) (code : Nat) (fatal : Bool) (a : Nat) : State :=
  let x := s.axis a
  let action := bits (s.cfg (0x3000 + a) 15) 2 1
  if x.state = .off ∨ x.state = .detained ∨ x.state = .stopped then s
  else if fatal ∨ action = 2 then (s.toStopped a code false).noteWebGone a
  else if action = 1 ∧ (x.state = .moving ∨ x.state = .geared ∨ x.state = .tension ∨ x.state = .web) then
    let s := s.beginAxisHalt a code
    if (s.axis a).state = .stopped then s.noteWebGone a else s
  else s

def State.hazardAxes (s : State) (code : Nat) (fatal : Bool) : State :=
  (s.axes.map (·.1)).foldl (fun s a => s.hazardAxis code fatal a) s

/-- The slot that a unit names leaves detention with the unit (R305). -/
def State.undetainNamed (s : State) (j : Option Nat) : State :=
  match j with
  | some j => s.undetain 0x20 (slotDie j) (j % 64)
  | none => s

/-- An HV channel goes to OFF, its gates inactive, its slot stopped; neither stays in detention (R317). -/
def State.hvOff (s : State) (h : Nat) : State :=
  (((s.modHv h fun x => { x with state := .off, gates := false }).modNamed (s.hvSlot h) LoopSlot.stop).undetain 0x22 (hvDie h)
    (h % 8)).undetainNamed (s.hvSlot h)

/-- A fuser zone goes to OFF: gate off, slot disabled; neither stays in detention (Table 10-4). -/
def State.zoneOff (s : State) (z : Nat) : State :=
  (((s.modZone z fun x => { x with state := .off, gate := false, firing := false, inBand := false, bandSince := none }).modNamed
    (s.zoneSlot z) LoopSlot.stop).undetain 0x23 (zoneDie z) (z % 4)).undetainNamed (s.zoneSlot z)

/-- The nip actuator with hazard action 1 opens (R327). -/
def State.hazardNip (s : State) : State :=
  if s.cfg 0x2190 1 = 1 ∧ bit (s.cfg 0x2190 7) 1 then s.setNip true else s

/-- Incomplete-panel cause of R56 that a demand of this source and code leaves. -/
def stopCause (src code : Nat) : Nat :=
  if src ≠ 10 then 3
  else if codeUnit code = 0x18 then 2
  else if codeUnit code = 0x19 then 3
  else if codeUnit code = 0x30 then 1
  else 4

/-- The four characters of a hazard set (R375): K28.1, the origin's low 8 bits, its high 2 bits with the hop count above them, and
the exclusive-or of the two. -/
def hazardChars (origin hops : Nat) : List Nat :=
  let a := origin % 256
  let b := origin / 256 % 4 + min 63 hops * 4
  [0x3C, a, b, Nat.xor a b]

/-- A hazard set leaves on both ports while a source other than the Haling link holds the net (R375). -/
def State.sendHazardSets (s : State) : State :=
  let go (s : State) (p : Nat) (st : PortState) : State :=
    if st = .up then s.emit .hazardSet p (hazardChars s.seat 0) else s
  go (go s 0 s.haling.portA.state) 1 s.haling.portB.state

/-- Every output of Table 13-1 goes to its safe state. -/
def State.hazardActions (s : State) (src code : Nat) : State :=
  let s := { s with hazard := { s.hazard with active := true, count := wrapInc 32 s.hazard.count, lastAt := s.timebase } }
  let s := (upTo 32).foldl (fun s g => (s.abortLine g).settleLaser g) s
  let s := (s.hv.map (·.1)).foldl State.hvOff s
  let s := (s.zones.map (·.1)).foldl State.zoneOff s
  let s := s.hazardNip.hazardAxes code s.faults.fatal
  let s := if src = 9 then s else s.sendHazardSets
  let s := s.stopTimetable (stopCause src code)
  let s := if s.tt.state = TTState.stopped then (if s.webDriven then s.webDecelerate else s) else s
  (s.postLead 0x0101 s.hazard.sources (if bit s.hazard.sources 10 then s.hazard.internalCause else 0)).errorReset

/-- A demand of a source: recorded, and where the net is not active yet, acted on (R384, R388). The first source but the Haling
link on a net that the link alone holds starts this part's own hazard sets (R375). -/
def State.hazardNet (s : State) (src code : Nat) : State :=
  let linkOnly := decide (setBit s.hazard.sources 9 false = 0)
  let s := s.hazardSource src code
  if s.hazard.active then (if linkOnly ∧ src ≠ 9 then s.sendHazardSets else s) else s.hazardActions src code

/-- A fatal fault: hazard net, every axis to its stop action, latch (Table 13-4); the node is PRE-OPERATIONAL from then on (R406). -/
def State.fatalFault (s : State) (code : Nat) : State :=
  let s := if s.faults.fatal then s
    else { s with faults := { s.faults with fatal := true, fatalCode := code, fatalAt := s.timebase } }
  let s := if s.nmt.state = .operational ∨ s.nmt.state = .stopped then s.toNmt .preOperational else s
  let s := (s.hazardNet 10 code).hazardAxes code true
  s.stopTimetable (stopCause 10 code)

/-! Detention (R407). -/

/-- A detained axis: stop action, with the gates off for an overcurrent trip (R280, R282). -/
def State.detainAxis (s : State) (a code : Nat) (coast : Bool) : State :=
  let x := s.axis a
  if x.state = .off ∨ x.state = .detained then s
  else
    let s := (s.stopAction a coast).modAxis a fun x => { x with state := .detained }
    let s := ((s.detainUnit 0x19 (axisDie a) a code).axisSlotsStop a).axisStopEvent a code
    if s.webGone a then (s.note (codeOf 0x19 (axisDie a) a 7)).hazardNet 10 (codeOf 0x19 (axisDie a) a 7) else s

/-- A detained lane: dark, its beam blanked and failed (R57, R167, R242), the rest of the line in emission formed anew (R165). -/
def State.detainLane (s : State) (l code : Nat) : State :=
  if (s.lane l).state = .detained then s
  else
    let s := s.detainUnit 0x10 (laneStation l) (l % 128) code
    let s := s.modLane l fun x => { x with state := .detained, active := false }
    let s := s.modScanner (laneScanner l) fun x => { x with line := x.line.map fun y => { y with stale := true } }
    (s.blankBeams (laneScanner l) (2 ^ (l % 32))).beamFailed (laneScanner l) (2 ^ (l % 32))

/-- A detained scanner: LASER_EN low, f_ref held, its beams failed (Table 7-3, R224). -/
def State.detainScanner (s : State) (g code : Nat) : State :=
  let x := s.scanner g
  if x.state = .off ∨ x.state = .detained then s
  else
    let s := s.detainUnit 0x11 (scannerStation g) (g % 4) code
    let s := s.modScanner g fun x =>
      { x.darken with state := .detained }
    ((s.scanBank g).flipsDark g).beamFailed g (2 ^ 32 - 1)

/-- A detained HV channel: gates off (R315). -/
def State.detainHv (s : State) (h code : Nat) : State :=
  let x := s.hvChan h
  if x.state = .off ∨ x.state = .detained then s
  else
    ((s.detainUnit 0x22 (hvDie h) (h % 8) code).modHv h fun x => { x with state := .detained, gates := false }).modNamed
      (s.hvSlot h) LoopSlot.stop

/-- A detained fuser zone: gate off (R322). -/
def State.detainZone (s : State) (z code : Nat) : State :=
  let x := s.zone z
  if x.state = .off ∨ x.state = .detained then s
  else
    ((s.detainUnit 0x23 (zoneDie z) (z % 4) code).modZone z fun x =>
        { x with state := .detained, gate := false, firing := false, inBand := false, bandSince := none }).modNamed
      (s.zoneSlot z) LoopSlot.stop

/-- The owner of a slot enters detention with it (R305). -/
def State.detainOwner (s : State) (j code : Nat) : State :=
  match s.slotOwner j with
  | (.host, _) => s
  | (.scanner, g) => s.detainScanner g code
  | (.axis, a) => s.detainAxis a code false
  | (.transport, _) =>
    match s.webAxis with
    | some a => s.detainAxis a code false
    | none => s
  | (.hv, h) => s.detainHv h code
  | (.zone, z) => s.detainZone z code

/-- A slot in detention holds its output and stops computing; so does its owner (R305). -/
def State.detainSlot (s : State) (j code : Nat) : State :=
  ((s.detainUnit 0x20 (slotDie j) (j % 64) code).modLoop j LoopSlot.stop).detainOwner j code

/-- W freezes: a web encoder fault makes the internal source active (R21). -/
def State.webEncoderFault (s : State) (code : Nat) : State :=
  (({ s with web := { s.web with frozen := true }, haling := { s.haling with aligned := false } }).gearsRest).hazardNet 10 code

/-- Axes that feed on a channel. -/
def State.fedAxes (s : State) (ch : Nat) : List Nat :=
  (s.axes.map (·.1)).filter fun a => decide (s.cfg (0x3000 + a) 12 = ch)

/-- A channel enters ERROR (R21, R267). -/
def State.channelError (s : State) (ch cause : Nat) : State :=
  let code := codeOf 0x18 (chanDie ch) ch cause
  let s := (s.noteFault 0x18 (chanDie ch) ch cause).modChan ch fun x => { x with state := .error, lastCause := cause, reading := none }
  let s := if s.cfg 0x2180 1 = ch then s.webEncoderFault code else s
  (s.fedAxes ch).foldl (fun s a => s.detainAxis a code false) s

/-! The panel store (R62, R103). -/

/-- Raster descriptors whose writes the store can no longer take end with STORE_ERROR (Table 3-11). -/
def State.storeErrors (s : State) : State :=
  (s.intake.rings.filter fun kv => decide (ringLocal kv.1 < 4096) && (match kv.2.head with
      | some h => h.moving
      | none => false)).foldl
    (fun s kv => (s.uncountHead kv.1).completeHead kv.1 9 (match kv.2.head with | some h => h.buf.length | none => 0)) s

/-- After a channel loss, v_max falls to the largest REAL32 value that keeps every PLAYBACK weight at its demand (R115). -/
def State.settleVmax (s : State) : State :=
  let short := s.presentDies.any fun d => decide (s.weight d 3 < s.playbackDemand d (s.cfgReal 0x2320 1))
  if short = false ∨ s.channelCount = 0 then s
  else
    let bound (d : Nat) : Rat := ((s.weight d 3 * s.channelCount * 64000000 : Nat) : Rat) / ((max 1 (s.stationSize d) : Nat) : Rat)
    let v := s.presentDies.foldl (fun m d => min m (bound d)) (s.cfgReal 0x2320 1)
    let i := realOf v
    s.setCfg 0x2320 1 (if v < realOr0 i then i - 1 else i)

/-- The fault reaction darkens every scanner before the record is written (R56): the lines in progress are aborted. -/
def State.darkenOutputs (s : State) : State := (upTo 32).foldl State.abortLine s

/-- Cause of the loss of a present channel: 4 where it is the last one (R103). -/
def State.lossCause (s : State) : Nat := if s.channelCount = 1 then 4 else 3

/-- What goes with a present memory channel: its fault is noted, committed panels end, stored lines and uncommitted panels go
(R103). -/
def State.channelGone (s : State) (c : Nat) : State :=
  let cause := s.lossCause
  let s := { s with store := { s.store with channels := mapMod {} s.store.channels c fun x => { x with lost := true } } }
  let s := s.noteFault 0x08 c c cause
  let s := if s.slotsWhere SlotState.isCommitted = [] then s else ((s.darkenOutputs).writeRecord 5).stopCommitted
  let s := s.storeErrors
  let s := { s with lines := [], played := [], store := { s.store with cells := [], probed := [], rasterIn := false },
                    dies := { s.dies with mapChanges := wrapInc 16 s.dies.mapChanges } }
  s.withdrawPanels (s.slotsWhere SlotState.uncommitted)

/-- Legality and v_max against the remaining store, and the fatal fault where no channel is left (R103, R108, R115). -/
def State.afterLoss (s : State) (c cause : Nat) : State :=
  let s := s.settleLegality.settleVmax
  if cause = 4 then s.fatalFault (codeOf 0x08 c c 4) else s

/-- A memory channel is lost in service (R103). -/
def State.loseChannel (s : State) (c : Nat) : State :=
  if s.channelPresent c then (s.channelGone c).afterLoss c s.lossCause else s

/-! Die fences (R408 to R410). -/

/-- AIN inputs of converter c (R308). -/
def ainOf (c n : Nat) : Bool := decide (n / 8 = c)

/-- Zone z reads a sensor on a converter's input. -/
def State.zoneUsesAin (s : State) (c z : Nat) : Bool :=
  let w := s.cfg (0x3500 + z) 6
  match bits w 25 24 with
  | 0 => ainOf c (bits w 15 8)
  | 1 => ainOf c (bits w 15 8) || ainOf c (bits w 7 0)
  | _ => false

/-- Axis a converts an input of converter c: a BLDC shunt, or a bridge supply. -/
def State.axisUsesAin (s : State) (c a : Nat) : Bool :=
  let w := s.cfg (0x3000 + a) 17
  if a < 16 then ainOf c (bits w 31 28) else bit w 47 && ainOf c (bits w 39 36)

/-- Slot j takes an AIN input of converter c, by its own input word or its owner's. -/
def State.slotUsesAin (s : State) (c j : Nat) : Bool :=
  let w := s.inputWord j
  decide (bits w 31 24 = 1) && ainOf c (bits w 23 0)

/-- Units that use a converter enter detention, each with its own fault (R308) or with the converter's. -/
def State.loseConverter (s : State) (c : Nat) (own : Bool) (code : Nat) : State :=
  let s := ((s.axes.map (·.1)).filter (s.axisUsesAin c)).foldl (fun s a =>
    let k := codeOf 0x19 (axisDie a) a (if a < 16 then 3 else 4)
    if own then (if (s.axis a).state = .off ∨ (s.axis a).state = .detained then s
      else (s.noteFault 0x19 (axisDie a) a (if a < 16 then 3 else 4)).detainAxis a k false)
    else s.detainAxis a code false) s
  let s := ((s.zones.map (·.1)).filter (s.zoneUsesAin c)).foldl (fun s z =>
    let k := codeOf 0x23 (zoneDie z) (z % 4) 3
    if own then (if (s.zone z).state = .off ∨ (s.zone z).state = .detained then s
      else (s.noteFault 0x23 (zoneDie z) (z % 4) 3).detainZone z k)
    else s.detainZone z code) s
  ((s.slotsL.map (·.1)).filter fun j => (s.loopSlot j).enabled && s.slotUsesAin c j).foldl (fun s j =>
    if own then (s.noteFault 0x20 (slotDie j) (j % 64) 2).detainSlot j (codeOf 0x20 (slotDie j) (j % 64) 2) else s.detainSlot j code) s

/-- The nip follows its actuator's ball, which goes to its inactive level with the die that it belongs to (R327, R507). -/
def State.dropNip (s : State) (d : Nat) : State :=
  if s.cfg 0x2190 1 = 1 ∧ s.nipBall < 192 ∧ s.nipBall / 24 = d then
    { s with nip := if bit (s.cfg 0x2190 7) 0 then .opened else .closed }
  else s

/-- The outputs of a fenced die drop: LASER_EN, HV and fuser gates, MFIO balls, axes coasting (R408). -/
def State.dropDie (s : State) (d code : Nat) : State :=
  let s := (upTo 4).foldl (fun s c => (s.modScanner (4 * d + c) fun x =>
    { x with state := .off, laser := false, clock := false, line := none, searchDue := false, edge := none, phase := none }).flipsDark (4 * d + c)) s
  let s := (upTo 4).foldl (fun s c => s.modLink (4 * d + c) fun k => { k with state := .disabled }) s
  let s := (upTo 128).foldl (fun s k => s.modLane (128 * d + k) fun x => { x with active := false }) s
  let s := (dieHv d).foldl (fun s h => if (s.hvChan h).state = .off then s else s.hvOff h) s
  let s := (dieZones d).foldl (fun s z => if (s.zone z).state = .off then s else s.zoneOff z) s
  let s := (upTo 64).foldl (fun s k => s.modLoop (64 * d + k) fun x => if x.enabled then x.stop else x) s
  let s := s.dropNip d
  (dieAxes d).foldl (fun s a =>
    let x := s.axis a
    if x.state = .off then s
    else if x.state = .detained ∨ x.state = .stopped then s.modAxis a fun x => { x with braked := false }
    else
      let s := s.toStopped a code true
      if s.webGone a then (s.note (codeOf 0x19 (axisDie a) a 7)).hazardNet 10 (codeOf 0x19 (axisDie a) a 7) else s) s

/-- Feedback channels of a die. -/
def dieChannels (d : Nat) : List Nat := [2 * d, 2 * d + 1, 16 + d]

/-- A die is fenced by the fault `code` (R62, R103, R258, R308, R408, R409). The largest legal H_max is computed anew at the fence of
any die, also of one without a memory channel, since its station no longer counts (DESIGN CHOICE, log 13: R108 names a start and a
channel loss only). -/
def State.fenceDie (s : State) (d code : Nat) : State :=
  if s.present d = false then s
  else if s.presentDies = [d] then (s.noteFault 0x04 d 0 2).fatalFault (codeOf 0x04 d 0 2)
  else
    let changes := s.dies.mapChanges
    let lostChannel := s.channelPresent d
    let s := s.dropDie d code
    let s := (dieChannels d).foldl (fun s ch =>
      if (s.chan ch).state = .run ∨ s.cfg 0x2180 1 = ch then s.channelError ch 7 else s) s
    let cause := s.lossCause
    let s := if lostChannel then s.channelGone d else s
    let s := s.fenceStation d
    let s := { s with dies := { s.dies with
        fenced := setBit s.dies.fenced d true
        mapChanges := wrapInc 16 changes
        moving := s.dies.moving || decide (d = s.dies.lead) } }
    let s := if lostChannel then s.afterLoss d cause else s.settleLegality
    (if d < 2 then s.loseConverter d true 0 else s).errorReset

/-! Raising a fault. -/

/-- A fault of lane l (Table 5-19): corrected causes and cause 8 leave it running. -/
def State.raiseLane (s : State) (l cause : Nat) : State :=
  let s := (s.noteFault 0x10 (laneStation l) (l % 128) cause).modLane l fun x => { x with cause }
  if causeClass 0x10 cause = 0 ∨ cause = 8 then s
  else s.detainLane l (codeOf 0x10 (laneStation l) (l % 128) cause)

/-- A scan timing fault (Table 7-5): causes 5, 7 and 8 detain. -/
def State.raiseScan (s : State) (g cause : Nat) : State :=
  let s := s.noteFault 0x11 (scannerStation g) (g % 4) cause
  if cause = 5 ∨ cause = 7 ∨ cause = 8 then s.detainScanner g (codeOf 0x11 (scannerStation g) (g % 4) cause) else s

/-- A pulse link fault (Table 8-13): cause 9 is fatal; the rest act where they are detected. -/
def State.raiseLink (s : State) (g cause : Nat) : State :=
  let s := s.noteFault 0x12 (scannerStation g) (g % 4) cause
  if cause = 9 then s.fatalFault (codeOf 0x12 (scannerStation g) (g % 4) 9) else s

/-- A motion axis fault (Table 9-18): causes 1 to 4 detain. -/
def State.raiseAxis (s : State) (a cause : Nat) : State :=
  let s := s.noteFault 0x19 (axisDie a) a cause
  if 1 ≤ cause ∧ cause ≤ 4 then s.detainAxis a (codeOf 0x19 (axisDie a) a cause) (decide (cause = 3)) else s

/-- An HV channel fault: causes 2 to 5 detain. -/
def State.raiseHv (s : State) (h cause : Nat) : State :=
  let s := s.noteFault 0x22 (hvDie h) (h % 8) cause
  if 2 ≤ cause then s.detainHv h (codeOf 0x22 (hvDie h) (h % 8) cause) else s

/-- A fuser zone fault: every cause detains. -/
def State.raiseZone (s : State) (z cause : Nat) : State :=
  (s.noteFault 0x23 (zoneDie z) (z % 4) cause).detainZone z (codeOf 0x23 (zoneDie z) (z % 4) cause)

/-- A loop slot fault (Table 10-10). -/
def State.raiseSlot (s : State) (j cause : Nat) : State :=
  let s := s.noteFault 0x20 (slotDie j) (j % 64) cause
  let code := codeOf 0x20 (slotDie j) (j % 64) cause
  match cause with
  | 2 => s.detainSlot j code
  | 3 =>
    ((upTo 64).map (64 * slotDie j + ·)).foldl (fun s k =>
      if (s.loopSlot k).enabled then (s.modLoop k LoopSlot.stop).detainOwner k code else s) s
  | _ => s

/-- A link goes to RETRAIN (Table 8-9); its LASER_EN drops (R249). -/
def State.retrain (s : State) (g : Nat) : State :=
  let k := s.link g
  if k.state = .run ∨ k.state = .ident then
    ((s.abortLine g).modLink g fun k => { k with state := .retrain, since := s.timebase, symbolLock := false, timeSent := false }).relaser g
  else s

/-- A port of the Haling link takes a state; no seat is reached by a port that is not UP (R358). -/
def State.setPort (s : State) (p : Nat) (x : PortState) : State :=
  let forget (y : Peer) : Peer := if x = .up then y else if p = 0 then { y with hopsA := none } else { y with hopsB := none }
  let peers := mapEach {} s.haling.peers fun _ y => forget y
  if p = 0 then { s with haling := { s.haling with peers, portA := { s.haling.portA with state := x } } }
  else { s with haling := { s.haling with peers, portB := { s.haling.portB with state := x } } }

def State.portState (s : State) (p : Nat) : PortState := if p = 0 then s.haling.portA.state else s.haling.portB.state

/-- A member leaves or a port goes DOWN (R364): commits are held until RUN; a RUNNING timetable halts at once. -/
def State.holdForLink (s : State) : State :=
  if s.inGroup then
    let s := { s with tt := { s.tt with holdLink := true } }
    let s := if s.haling.roll = .complete then s.toRoll .forming else s
    if s.tt.state = .running then s.declareHalt false else s
  else s

/-- O and r of a part that leads its group time, or is in no roll call, are 0 (R347); a change is a step. -/
def State.leadTime (s : State) : State :=
  { s with group := { stepAt := if s.group.offset = 0 ∧ s.group.rate = 0 then s.group.stepAt else some s.timebase } }

/-- A port goes DOWN with the PLL that serves it: cause 1 where it was UP (R356). -/
def State.dropPort (s : State) (p : Nat) : State :=
  if s.portState p = .up then (s.setPort p .down).noteFault 0x29 0 p 1 else s.setPort p .down

/-- A PLL of die d loses lock (R335, R343, Table 11-7). -/
def State.losePll (s : State) (d pll : Nat) : State :=
  let s := s.modClock d fun c => { c with lock := setBit c.lock pll false }
  match pll with
  | 0 => (s.noteFault 0x28 d 0 2).fatalFault (codeOf 0x28 d 0 2)
  | 1 => (s.noteFault 0x28 d 0 2).fatalFault (codeOf 0x28 d 0 2)
  | 2 => (s.noteFault 0x28 d 0 3).loseChannel d
  | 3 => s.noteFault 0x28 d 0 4
  | 4 => (upTo 4).foldl (fun s c => s.retrain (4 * d + c)) (s.noteFault 0x28 d 0 4)
  | 5 =>
    (((s.noteFault 0x28 d 0 4).dropPort 0).dropPort 1).holdForLink
  | _ => (s.noteFault 0x28 d 0 4).relaserDie d

/-- The reaction of a cause that no unit-specific operation takes: fatal faults, die fences, detention. -/
def State.react (s : State) (unit die inst cause : Nat) : State :=
  let code := codeOf unit die inst cause
  if causeClass unit cause = 2 then s.fatalFault code
  else if unit = 0x03 ∧ cause ≠ 2 then s.fenceDie die code
  else if unit = 0x04 ∧ cause = 1 then s.fenceDie die code
  else if unit = 0x28 ∧ cause = 5 then s.fenceDie die code
  else s

/-- A fault is raised: noted, with its unit's reaction. Units with reactions of their own have theirs above. -/
def State.raise (s : State) (unit die inst cause : Nat) : State :=
  (s.noteFault unit die inst cause).react unit die inst cause

end Sys2Proof.Machine
end

