-- ==== Sys2Proof/Machine/Sweeps.lean ====
section
/-! DEFINITION. Scheduled sweeps: where they lie on the web, which one a position belongs to, and what is left of a
sweep that is done (R25, R26, R60, R208, R216). -/

namespace Sys2Proof.Machine

/-- F, the facets of scanner g's polygon. -/
def State.facetCount (s : State) (g : Nat) : Nat := max 1 (s.cfg (0x2900 + g) 3)

def State.identityMode (s : State) (g : Nat) : Nat := s.cfg (0x2900 + g) 4

/-- Facets are numbered as in mode 2: mode 2 itself, or mode 0 with a signature that is not distinct (R204, R207). -/
def State.flatFacets (s : State) (g : Nat) : Bool :=
  decide (s.identityMode g = 2) || (decide (s.identityMode g = 0) && !(s.scanner g).distinct)

/-- Position of sweep 0 of the panel in slot i at scanner g (R25, R60). -/
def State.sweepBase (s : State) (i g : Nat) : Int :=
  let st := scannerStation g
  (s.slot i).origin + s.stationOffset st - s.exposureArc st - (if (s.station st).band = 1 then lu (s.leadBeam g) else 0)

/-- Distance between sweeps in 1/65,536. -/
def State.sweepPitch (s : State) (st : Nat) : Int := lu (s.sweepStep st)

/-- Sweeps of a panel at a station. -/
def State.sweepCount (s : State) (i st : Nat) : Nat := ((s.slot i).h + s.sweepStep st - 1) / s.sweepStep st

/-- Sweep n of slot i at scanner g is still to come: not done, and its station still exposes the panel. -/
def State.sweepOpen (s : State) (g i n : Nat) : Bool :=
  let p := s.slot i
  let x := s.scanner g
  let st := scannerStation g
  p.state.isCommitted && bit p.mask st && !bit p.doneStations st && !bit p.fencedStations st
    && (decide (x.panel < p.order) || (decide (x.panel = p.order) && decide (x.sweeps ≤ n)))

/-- The sweep in whose window a position lies (R216), if it is still to come. -/
def State.dueSweep (s : State) (g : Nat) (w : Int) : Option (Nat × Nat) :=
  let st := scannerStation g
  let pitch := s.sweepPitch st
  if s.scannerUsed g = false ∨ (s.station st).band = 2 then none
  else (s.slotsWhere SlotState.isCommitted).findSome? fun i =>
    let k := (w - s.sweepBase i g + pitch / 2) / pitch
    if 0 ≤ k ∧ k.toNat < s.sweepCount i st ∧ s.sweepOpen g i k.toNat then some (i, k.toNat) else none

/-- A window bank that no sweep holds any more; its lines stay readable through the lane window (R146, R165). -/
def Bank.release (b : Bank) : Bank := { b with busy := false }

/-- Sweep n of the panel in slot i is over for one lane whose first line is f: its code buffer is free, and a window
bank filled for it that no program runs on. -/
def Lane.freeUpTo (x : Lane) (i n y : Nat) : Lane :=
  let old (c : CodeBuf) : Bool := c.busy && decide (c.slot = i) && decide (c.n ≤ n)
  let stale (k : Bank) (sel : Bool) : Bool :=
    k.busy && decide (k.slot = i) && decide (k.y ≤ y) && !(x.active && decide (x.bankSel = sel))
  { x with
    buf0 := if old x.buf0 then {} else x.buf0
    buf1 := if old x.buf1 then {} else x.buf1
    bank0 := if stale x.bank0 false then x.bank0.release else x.bank0
    bank1 := if stale x.bank1 true then x.bank1.release else x.bank1 }

/-- Sweep n of the panel in slot i is over: what the lanes of scanner g hold for it is free. -/
def State.freeSweep (s : State) (g i n : Nat) : State :=
  (upTo 32).foldl (fun s b =>
    match s.beamFirst g b with
    | none => s
    | some f => s.modLane (laneOf g b) fun x => x.freeUpTo i n (f + s.sweepStep (scannerStation g) * n)) s

/-- Scanner g has done every sweep of the panel. -/
def State.scannerDone (s : State) (i g : Nat) : Bool :=
  let x := s.scanner g
  let p := s.slot i
  decide (p.order < x.panel) || (decide (x.panel = p.order) && decide (s.sweepCount i (scannerStation g) ≤ x.sweeps))

/-- Sweep n of the panel in slot i is done at scanner g, whole or not: the leading sweeps that left whole are counted (R56). A
station whose used scanners have all done their last sweep completes the panel (R36, Table 2-1). -/
def State.sweepDone (s : State) (g i n : Nat) (full : Bool) : State :=
  let st := scannerStation g
  let s := s.freeSweep g i n
  let p := s.slot i
  if p.state.isCommitted ∧ bit p.mask st ∧ !bit p.doneStations st then
    let s := s.modScanner g fun x =>
      let f := if x.panel = p.order then x.fullSweeps else 0
      { x with panel := p.order, sweeps := n + 1, fullSweeps := if full ∧ f = n then n + 1 else f }
    if (s.usedScanners st).all (s.scannerDone i) then s.stationComplete i st else s
  else s

/-- A scheduled sweep of a committed panel that is not exposed: BEAM_DARK (R216). -/
def State.darkSweep (s : State) (g i n : Nat) : State := (s.flagSlot i 0).sweepDone g i n false

/-- The sweeps of one scanner whose windows W has passed without an edge that exposes them. -/
def State.passSweeps (s : State) (g : Nat) : State :=
  let st := scannerStation g
  let x := s.scanner g
  if x.edge.isSome ∨ x.line.isSome ∨ s.scannerUsed g = false then s
  else (s.slotsWhere SlotState.isCommitted).foldl (fun s i =>
    let p := s.slot i
    let m := ((s.w - s.sweepBase i g - s.sweepPitch st / 2) / s.sweepPitch st + 1).toNat
    let n := min m (s.sweepCount i st)
    if bit p.rung st ∧ 0 < n ∧ s.sweepOpen g i (n - 1) then s.darkSweep g i (n - 1) else s) s

/-- Every scanner, as W moves on. -/
def State.passAll (s : State) : State :=
  s.presentDies.foldl (fun s st => (s.usedScanners st).foldl State.passSweeps s) s

end Sys2Proof.Machine
end

