-- ==== Sys2Proof/Machine/Feedback.lean ====
section
/-! DEFINITION. Feedback channels, W, latches and compare outputs (R18 to R21, R49, R257 to R273, R283, R288, R294,
R517). -/

namespace Sys2Proof.Machine

/-! Compare outputs (R271, R272). -/

/-- Entries that lie behind the source are discarded, counted LATE and raised as cause 1 (R271). -/
def State.cmpLate (s : State) (n : Nat) (k : Nat) : State :=
  match k with
  | 0 => s
  | k + 1 =>
    ((s.modCmp n fun x => { x with late := satInc 8 x.late }).noteFault 0x1A (n / 8) n 1).cmpLate n k

/-- Entries strictly monotonic in the output's direction. -/
def monotone (down : Bool) : List Int → Bool
  | a :: b :: rest => (if down then decide (b < a) else decide (a < b)) && monotone down (b :: rest)
  | _ => true

/-- The order rule of an append (R271). -/
def State.appendOrdered (s : State) (n : Nat) (es : List Int) : Bool :=
  let down := cmpDown (s.cmpCfg n)
  monotone down es && match (s.cmpOut n).lastAppended, es with
    | some l, e :: _ => if down then decide (e < l) else decide (l < e)
    | _, _ => true

/-- Append entries: those that the source has passed are late (R271). -/
def State.cmpAppend (s : State) (n : Nat) (es : List Int) : State :=
  let w := s.cmpCfg n
  let u := s.cmpValue (cmpSource w)
  let late := es.filter (passed (cmpDown w) u)
  let rest := es.filter fun e => !passed (cmpDown w) u e
  let s := s.modCmp n fun x =>
    { x with list := x.list ++ rest, lastAppended := match es.getLast? with | some l => some l | none => x.lastAppended }
  s.cmpLate n late.length

/-- A jump of W from `u` discards the entries it leaves behind, pending ones of a list and series entries alike (R271, R517). An
entry equal to the new W is left behind (DESIGN CHOICE, log 41). -/
def State.cmpJump (s : State) (u : Int) : State :=
  ((upTo 64).filter fun n => bit (s.cmpCfg n) 63 && decide (cmpSource (s.cmpCfg n) = 0)).foldl
    (fun s n =>
      let down := cmpDown (s.cmpCfg n)
      if cmpMode (s.cmpCfg n) = 1 then
        match s.seriesReached n (u : Rat) (s.w : Rat) with
        | none => s
        | some (lo, hi) => (s.modCmp n fun x => { x with next := if down then lo + 1 else hi + 1 }).cmpLate n (hi + 1 - lo)
      else
        let behind := (s.cmpOut n).list.filter (passed down (s.w : Rat))
        (s.modCmp n fun x => { x with list := x.list.filter fun e => !passed down (s.w : Rat) e }).cmpLate n behind.length) s

/-- At a commit, bell-mode outputs of the panel's stations gain B + O (R272). While the web goes back or waits for the run-up an
entry below W is still to be crossed forward, so it stays pending (R273). -/
def State.cmpBells (s : State) (i : Nat) : State :=
  ((upTo 64).filter fun n => bit (s.cmpCfg n) 63 && decide (cmpMode (s.cmpCfg n) = 2)).foldl (fun s n =>
    let st := bits (s.cmpCfg n) 47 45
    let b := s.bellAt i st + s.cfgI64 0x311B (n + 1)
    if bit (s.slot i).mask st = false then s
    else if s.tt.state = TTState.reversing ∨ s.tt.state = TTState.waiting then
      s.modCmp n fun x => { x with list := x.list ++ [b], lastAppended := some b }
    else s.cmpAppend n [b]) s

/-- COMPARE_APPEND by object (R271): order first, then room. -/
def opCompareAppend (n : Nat) (es : List Int) (s : State) : Except Abort State := do
  need (decide (n < 64) && s.present (n / 8)) .noSuchUnit
  need (decide (es ≠ [])) .lengthMismatch
  need (s.appendOrdered n es) .invalid
  need (decide ((s.cmpOut n).list.length + es.length ≤ 4096)) .state
  .ok (s.cmpAppend n es)

def execCompareAppend (n : Nat) (entries : List Int) (s : State) : State := command 0x311D (opCompareAppend n entries) s

/-- The configuration rules of Table 9-4. -/
def cmpCfgOk (v : Nat) : Bool :=
  let src := cmpSource v
  decide (v < 2 ^ 64) && decide (cmpMode v ≠ 3) && (decide (src ≤ 24) || (decide (64 ≤ src) && decide (src ≤ 127)))
    && (decide (cmpMode v ≠ 2) || (decide (src = 0) && !cmpDown v)) && decide (1 ≤ bits v 19 0)

/-- The unit that a source or a station names is present (R4). -/
def State.cmpNames (s : State) (v : Nat) : Bool :=
  let src := cmpSource v
  (decide (src = 0) || (if src ≤ 24 then s.chanPresent (src - 1) else s.axisPresent (src - 64)))
    && (decide (cmpMode v ≠ 2) || s.present (bits v 47 45))

/-- COMPARE_CONFIG_WRITE: EN = 1 only while disarmed; disarming empties the list and ends a pulse (Table 9-4). -/
def opCompareConfigWrite (n v : Nat) (s : State) : Except Abort State := do
  need (decide (n < 64) && s.present (n / 8)) .noSuchUnit
  need (cmpCfgOk v) .invalid
  need (s.cmpNames v) .noSuchUnit
  need (!(bit v 63 && bit (s.cmpCfg n) 63) && (!bit v 63 || s.assigned 11 n 0)) .state
  need (!(bit v 63 && decide (cmpMode v = 1)) || decide (0 < s.cfgI64 0x311C (n + 1))) .invalid
  let s := s.setCfg 0x311A (n + 1) v
  .ok (s.modCmp n fun x =>
    if bit v 63 then { x with next := 0 }
    else { x with list := [], lastAppended := none, next := 0, pulseEnd := none, active := if x.pulseEnd.isSome then false else x.active })

def execCompareConfigWrite (n v : Nat) (s : State) : State := command 0x311A (opCompareConfigWrite n v) s

/-- COMPARE_PULSE_END (R270). -/
def execComparePulseEnd (n : Nat) (s : State) : State :=
  match (s.cmpOut n).pulseEnd with
  | some t => (s.advanceTo t).modCmp n fun x => { x with active := false, pulseEnd := none }
  | none => s

/-! Gears (R283, R285). -/

/-- The commanded position of an axis with feedback is compared with the actual one (R276, cause 2). -/
def State.followAxis (s : State) (a : Nat) : State :=
  let x := s.axis a
  let ch := s.cfg (0x3000 + a) 12
  if ch < 24 ∧ x.state ≠ .off ∧ x.state ≠ .detained
      ∧ (s.cfg (0x3000 + a) 14 : Rat) < ratAbs (x.commanded - ((s.chan ch).position : Rat)) then s.raiseAxis a 2
  else s

/-- A geared or tension axis follows an update of W (R283, R285): ρ v_W plus a correction of P* - P over the interval
of the last two counts, within the axis's acceleration; a tension axis adds the output of its slot. -/
def State.gearFollow (s : State) (a : Nat) : State :=
  let s := s.catchUp a
  let x := s.axis a
  let ff := (x.ratio : Rat) / (2 ^ 32 : Nat) * s.masterRate
  match x.state with
  | .geared =>
    let c := s.chan (s.cfg 0x2180 1)
    let dt : Rat := ((c.t1 - c.t0 : Nat) : Rat) / (ticksPerS : Rat)
    let acc := s.cfgReal (0x3000 + a) 6
    let old := x.vel.at_ s.timebase
    let want := if dt = 0 then ff else ff + (s.gearTarget a - x.commanded) / dt
    let v := if acc = 0 then want else min (max want (min (old - acc * dt) ff)) (max (old + acc * dt) ff)
    (s.setVelocity a v).followAxis a
  | .tension => (s.tensionFollow a).followAxis a
  | _ => s

/-- W jumps: a geared axis does not move, an armed ratio left behind is cancelled (R517). -/
def State.gearJump (s : State) (d : Int) : State :=
  { s with axes := mapEach {} s.axes fun _ x =>
      { x with wg := if x.state = .geared ∨ x.state = .tension then x.wg + d else x.wg
               armed := match x.armed with
                 | some (r, wc) => if wc ≤ s.w then none else some (r, wc)
                 | none => none } }

/-! Web position (R17 to R21, R517). -/

/-- Count of the master channel with the web direction applied. -/
def State.webCount (s : State) : Int :=
  let n := (s.chan (s.cfg 0x2180 1)).position
  if s.cfg 0x2180 3 = 1 then -n else n

/-- Choose W_base so that W stays where it is, with the channel now named (R18). -/
def State.rebase (s : State) : State :=
  { s with web := { s.web with
      base48 := s.web.w48 - s.webCount * (s.cfg 0x2180 2 : Int), lastCountAt := (s.chan (s.cfg 0x2180 1)).t1 } }

/-- W jumps to a value (R517). -/
def State.jumpTo (s : State) (w : Int) : State :=
  let u := s.w
  let s := { s with web := { s.web with w48 := w * 2 ^ 32, winW := s.web.winW + (w - u) } }.rebase
  (s.cmpJump u).gearJump (w - u)

/-- The web is compared with its expected position while RUNNING (R288). -/
def State.webFollowing (s : State) : State :=
  match s.webAxis with
  | none => s
  | some a =>
    if s.tt.state = TTState.running ∧ s.webDriven = true then
      let s := { s with transport := s.transport.integrate s.timebase }
      let far := ratAbs (((s.w - s.transport.fromW : Int) : Rat) / 65536 - s.transport.expected)
      if (s.cfg 0x311F 6 : Rat) < far then s.raiseAxis a 6 else s
    else s

/-- The phase samples that wait for a count take it, within P/4 of their edge (R209). -/
def State.fillPhases (s : State) (t : Nat) : State :=
  { s with scanners := mapEach {} s.scanners fun g x =>
      match x.phase with
      | some e => if e.tb = none ∧ (16 * t : Rat) ≤ (e.t16 : Rat) + 4 * s.facetPeriod g then { x with phase := some { e with wb := s.w, tb := some t } } else x
      | none => x }

/-- W moves with the master channel: compares, phase samples, gears, the following check. A good serial word with an unchanged
position is a count too (DESIGN CHOICE, log 41). -/
def State.masterMoved (s : State) (t : Nat) : State :=
  if s.web.frozen then s
  else
    let u := s.w
    let w48 := s.web.base48 + s.webCount * (s.cfg 0x2180 2 : Int)
    let web := { s.web with w48, lastCountAt := t, moving := true }
    let s := { s with web := web.window t u }
    let s := (s.sourceMoved 0 (u : Rat) (s.w : Rat)).fillPhases t
    let s := if u < s.w then s.passAll else s
    ((s.axes.map (·.1)).foldl State.gearFollow s).webFollowing

/-- The following error of the axes that a channel feeds (R276). -/
def State.checkFollowing (s : State) (ch : Nat) : State :=
  (s.fedAxes ch).foldl (fun s a => (s.catchUp a).followAxis a) s

/-- The position of a channel, signed 64 bits (R259, R265), changes by a count edge or a word stamped t (R258, R261). -/
def State.channelMoved (s : State) (ch t : Nat) (p : Int) : State :=
  let p := toSigned 64 (ofSigned 64 p)
  let u := (s.chan ch).position
  let s := s.advanceTo t
  let s := s.modChan ch fun c => { c with position := p, t0 := c.t1, p0 := c.p1, t1 := t, p1 := p, counted := true }
  let s := s.sourceMoved (ch + 1) (u : Rat) (p : Rat)
  let s := if s.cfg 0x2180 1 = ch then s.masterMoved t else s
  s.checkFollowing ch

/-! Quadrature channels (R259 to R262). -/

/-- Configuration word of a channel (Tables 9-15 and 9-16). -/
def State.chanCfg (s : State) (ch : Nat) : Nat := s.cfg (0x3100 + ch) 5

/-- Step of a legal transition: 1 for A before B. -/
def quadStep (a b a' b' : Bool) : Int :=
  if a ≠ a' then (if a' = b then -1 else 1) else (if a = b' then 1 else -1)

/-- COUNT_EDGE (R259, R260): levels A and B are accepted at stamp t. -/
def execCountEdge (ch : Nat) (a b : Bool) (t : Nat) (s : State) : State :=
  let c := s.chan ch
  if s.chanPresent ch = false ∨ 16 ≤ ch then s
  else
    let s1 := s.modChan ch fun c => { c with a, b }
    if c.state ≠ .run ∨ (c.a = a ∧ c.b = b) then s1
    else if (c.a ≠ a ∧ c.b ≠ b) ∨ (c.counted ∧ t < c.t1 + 40) then
      ((s1.advanceTo t).modChan ch fun c => { c with errors := wrapInc 32 c.errors }).channelError ch 1
    else
      let d := quadStep c.a c.b a b
      s1.channelMoved ch t (c.position + if bit (s.chanCfg ch) 62 then -d else d)

/-- ENCODER_ALARM (R260): an enabled alarm input is low. -/
def execEncoderAlarm (ch : Nat) (s : State) : State :=
  if ch < 16 ∧ s.chanPresent ch ∧ (s.chan ch).state = .run ∧ bit (s.chanCfg ch) 57 then s.channelError ch 2 else s

/-- A position is set without a count (R262, R294): W follows the formula, so W_base takes the change up. -/
def State.setChannel (s : State) (ch : Nat) (p : Int) : State :=
  let p := toSigned 64 (ofSigned 64 p)
  let d := p - (s.chan ch).position
  let s := s.modChan ch fun c => { c with position := p, p1 := c.p1 + d, p0 := c.p0 + d }
  if s.cfg 0x2180 1 = ch then s.rebase else s

/-- POSITION_LOST clears on every axis whose feedback is the channel (R262). -/
def State.homed (s : State) (ch : Nat) : State :=
  ((upTo 64).filter fun a => decide (s.cfg (0x3000 + a) 12 = ch)).foldl
    (fun s a => s.modAxis a fun x => { x with lost := false, commanded := ((s.chan ch).position : Rat) }) s

/-- INDEX_EDGE (R262): an accepted rising edge of Z. -/
def execIndexEdge (ch t : Nat) (s : State) : State :=
  let c := s.chan ch
  let w := s.chanCfg ch
  if s.chanPresent ch = false ∨ 16 ≤ ch ∨ c.state ≠ .run ∨ bits w 59 58 ≠ 2 * b2n c.b + b2n c.a then s
  else
    let s := (s.advanceTo t).modChan ch fun c => { c with capture := c.position }
    if bits w 61 60 = 1 ∧ c.armed then
      ((s.modChan ch fun c => { c with armed := false }).setChannel ch (s.cfgI64 (0x3100 + ch) 4)).homed ch
    else s

/-! Clocked serial channels (R263 to R266). -/

/-- A bad word: counted, cause 6, and ERROR at the limit with the cause of this word (R266). -/
def State.badWord (s : State) (ch cause : Nat) : State :=
  let n := (s.chan ch).bad + 1
  let s := (s.modChan ch fun c => { c with errors := wrapInc 32 c.errors, bad := n, reading := none, lastCause := 6 }).noteFault 0x18 (chanDie ch) ch 6
  if bits (s.chanCfg ch) 13 10 ≤ n then s.channelError ch cause else s

/-- 8 clock periods in ticks, as the first tick at which they are over. -/
def State.recovery (s : State) (ch : Nat) : Nat :=
  let k := max 1 (bits (s.chanCfg ch) 40 34)
  (128000 + k - 1) / k

def State.serialLive (s : State) (ch : Nat) : Bool :=
  decide (16 ≤ ch) && s.chanPresent ch && decide ((s.chan ch).state = .run)

/-- SERIAL_READ_START (R264): the clock falls at t; `low` says that the data line is low as the read is due. -/
def execSerialReadStart (ch t : Nat) (low : Bool) (s : State) : State :=
  if s.serialLive ch then
    let s := s.advanceTo t
    let c := s.chan ch
    if c.reading.isSome ∨ t < c.readyAt then s.modChan ch fun c => { c with skipped := wrapInc 32 c.skipped }
    else if low then s.badWord ch 5
    else (s.modChan ch fun c => { c with reading := some t }).emit .serialClock ch [t]
  else s

/-- Gray code to binary over `n` bits from the top. -/
def grayToBin : Nat → Nat → Nat
  | 0, _ => 0
  | n + 1, g =>
    let hi := grayToBin n (g / 2)
    2 * hi + (hi + g) % 2

/-- CRC of the top bits of a word, most significant first, from 0 (R263). -/
def serialCrc (poly c : Nat) : Nat → Nat → Nat
  | 0, _ => 0
  | n + 1, w =>
    let r := serialCrc poly c n (w / 2)
    let top := b2n (bit r (c - 1))
    let r2 := 2 * r % 2 ^ c
    if (top + w) % 2 = 1 then Nat.xor r2 (poly % 2 ^ c) else r2

/-- SERIAL_WORD (R263, R265, R266): the N data bits, the first as the most significant. The first good word since EN has none before it:
the position takes its P bits, signed, over (DEDUCED, log 41). -/
def execSerialWord (ch word : Nat) (s : State) : State :=
  match (s.chan ch).reading with
  | none => s
  | some t0 =>
    if s.serialLive ch then
      let c := s.chan ch
      let w := s.chanCfg ch
      let n := bits w 57 52 + 1
      let p := bits w 51 46 + 1
      let k := bits w 45 41
      let word := word % 2 ^ n
      let s := s.modChan ch fun c => { c with reading := none, readyAt := s.timebase + s.recovery ch }
      let crcBad := decide (0 < k) && decide (serialCrc (s.cfg (0x3100 + ch) 10) k (n - k) (word / 2 ^ k) + word % 2 ^ k + 1 ≠ 2 ^ k)
      let errBad := bit w 59 && decide (bit word (n - p - 1) = bit w 58)
      if crcBad then s.badWord ch 3
      else if errBad then s.badWord ch 4
      else
        let raw := word / 2 ^ (n - p)
        let v := if bit w 61 then grayToBin p raw else raw
        let d : Int := toSigned p (v + 2 ^ p - c.lastWord.getD 0)
        let from_ : Int := if c.lastWord.isSome then c.position else 0
        let s := s.modChan ch fun c => { c with lastWord := some v, bad := 0 }
        s.channelMoved ch (t0 - 64 * bits w 9 2) (from_ + if bit w 62 then -d else d)
    else s

/-- SERIAL_WORD_TIMEOUT (R266): no start bit by the word timeout. -/
def execSerialWordTimeout (ch : Nat) (s : State) : State :=
  if s.serialLive ch ∧ (s.chan ch).reading.isSome ∧ bit (s.chanCfg ch) 60 then
    (s.advanceTo ((s.chan ch).reading.getD 0 + 160 * bits (s.chanCfg ch) 33 24)).badWord ch 5
  else s

/-! Channel commands (R294). -/

def State.chanGuard (s : State) (ch : Nat) : Except Abort Unit := need (s.chanPresent ch) .noSuchUnit

/-- CHANNEL_CLEAR (R267): an ERROR channel returns to RUN, and after an illegal transition its axes have lost their
position; the master web encoder's W moves again from where it froze. -/
def opChannelClear (ch : Nat) (s : State) : Except Abort State := do
  s.chanGuard ch
  let c := s.chan ch
  if c.state = .error then
    let s := s.modChan ch fun c => { c with state := .run, bad := 0, counted := false }
    let s := if c.lastCause = 1 then
        ((upTo 64).filter fun a => decide (s.cfg (0x3000 + a) 12 = ch)).foldl (fun s a => s.modAxis a fun x => { x with lost := true }) s
      else s
    .ok (if s.cfg 0x2180 1 = ch then { s with web := { s.web with frozen := false } } else s)
  else .ok s

def execChannelClear (ch : Nat) (s : State) : State := command (0x3100 + ch) (opChannelClear ch) s

/-- CHANNEL_ARM (R262). -/
def opChannelArm (ch : Nat) (s : State) : Except Abort State := do
  s.chanGuard ch
  .ok (s.modChan ch fun c => { c with armed := true })

def execChannelArm (ch : Nat) (s : State) : State := command (0x3100 + ch) (opChannelArm ch) s

/-- CHANNEL_SET (R294). -/
def opChannelSet (ch : Nat) (s : State) : Except Abort State := do
  s.chanGuard ch
  .ok (s.setChannel ch (s.cfgI64 (0x3100 + ch) 4))

def execChannelSet (ch : Nat) (s : State) : State := command (0x3100 + ch) (opChannelSet ch) s

/-! Latches and mark correction (R49, R206, R268). -/

/-- The seam correction: an update of W by -δ (R49, R517). -/
def State.seamCorrect (s : State) (d : Int) : State :=
  let u := s.w
  let s := { s with
    web := { s.web with w48 := s.web.w48 - d * 2 ^ 32, base48 := s.web.base48 - d * 2 ^ 32 }
    tt := { s.tt with delta := d, chosenMark := none } }
  s.sourceMoved 0 (u : Rat) (s.w : Rat)

/-- The recorded crossing nearest to a position. -/
def nearest (w : Int) : List Int → Option Int
  | [] => none
  | x :: xs => match nearest w xs with
    | none => some x
    | some y => if (y - w).natAbs < (x - w).natAbs then some y else some x

/-- A forward crossing of a registration mark at W: at restart the chosen mark corrects W (R49), and the homeroom's group is told
(R372). The same mark is the one whose
recorded crossing lies nearest to the new one (DESIGN CHOICE, log 13). -/
def State.markCrossed (s : State) (w : Int) : State :=
  let hit := match s.tt.chosenMark with
    | some m => decide (nearest w s.tt.marks = some m)
    | none => false
  let s1 := { s with tt := { s.tt with marks := (w :: s.tt.marks).take 64 } }
  match s.tt.chosenMark with
  | none => s1
  | some m =>
    if hit then
      let d := w - m
      if (d.natAbs : Int) ≤ lu (s.cfg 0x2100 11) then
        let s2 := (s1.seamCorrect d).sendDelta d
        { s2 with tt := { s2.tt with marks := s2.tt.marks.map fun x => if x = w then m else x } }
      else
        let s2 := { s1 with tt := { s1.tt with chosenMark := none } }
        match s2.nextPanel with
        | some i => s2.flagSlot i 3
        | none => s2
    else s1

/-- The master web encoder last moved W forward. -/
def State.webForward (s : State) : Bool :=
  let c := s.chan (s.cfg 0x2180 1)
  let d := c.p1 - c.p0
  decide (0 < if s.cfg 0x2180 3 = 1 then -d else d)

/-- The MFIO input that a latch channel watches: a latch or a registration sensor input (Table 17-5). -/
def State.latchWired (s : State) (n : Nat) : Bool := s.assigned 12 n 0 || s.assigned 13 n 0

/-- LATCH_CAPTURE (R268). -/
def execLatchCapture (n t : Nat) (rising : Bool) (s : State) : State :=
  let w := s.cfg 0x3118 (n + 1)
  let x := s.latch n
  let edge := bits w 30 29
  let armed := match x.lastAt with
    | some l => decide (l + 160 ≤ t)
    | none => true
  if s.latchPresent n && s.latchWired n && bit w 31 && armed && (decide (edge = 2) || (decide (edge = 0) && rising) || (decide (edge = 1) && !rising)) then
    let s := s.advanceTo t
    let ch := bits w 28 24
    let rec_ : Capture := { stamp := t, w := s.w, position := if ch < 24 then (s.chan ch).position else 0 }
    let s := s.modLatch n fun x =>
      if x.queue.length < 16 then { x with queue := x.queue ++ [rec_], lastAt := some t }
      else { x with dropped := wrapInc 32 x.dropped, lastAt := some t }
    let s := if bit w 15 then s.postEvent (n / 8) 0x0202 n (ofSigned 64 rec_.w + ofSigned 64 rec_.position * 2 ^ 64) else s
    let sc := mapEach {} s.scanners fun g y =>
      if s.cfg (0x2900 + g) 4 = 1 ∧ s.cfg (0x2900 + g) 5 = n then { y with indexSeen := true } else y
    let s := { s with scanners := sc }
    let m := s.cfg 0x2100 10
    if bit m 7 ∧ m % 64 = n ∧ s.webForward then s.markCrossed rec_.w else s
  else s

/-- The 24 bytes of a capture (R268). -/
def Capture.bytes (c : Capture) : List Nat :=
  (leBytes 8 c.stamp ++ leBytes 8 (ofSigned 64 c.w) ++ leBytes 8 (ofSigned 64 c.position)).map (·.toNat)

/-- LATCH_QUEUE_READ (R268). -/
def execLatchQueueRead (n : Nat) (s : State) : State :=
  if s.latchPresent n then
    { (s.modLatch n fun x => { x with queue := [] }) with answer := (s.latch n).queue.flatMap Capture.bytes, resp := none }
  else s.refuse .noSuchUnit

end Sys2Proof.Machine
end

