-- ==== Sys2Proof/Machine/Intake.lean ====
section
/-! DEFINITION. Rings, doorbells, descriptors, DMA and the resets of the PCIe function (chapter 3). -/

namespace Sys2Proof.Machine

/-- ABSENT_ACCESS is set (R72, R74). -/
def State.setAbsent (s : State) : State := { s with intake := { s.intake with absentAccess := true } }

/-- A BAR access to an absent or reserved unit: ABSENT_ACCESS, counted in 0x2200:6 (R72). -/
def State.absent (s : State) : State :=
  { s.setAbsent with intake := { s.setAbsent.intake with absentCount := wrapInc 32 s.intake.absentCount } }

/-- Ring Q exists on this part now. -/
def State.ringPresent (s : State) (q : Nat) : Bool := decide (q < 65536) && s.present (ringDie q)

/-- INTAKE_STATUS (Table 3-4): LINK_UP is 1 whenever it is read over the link. -/
def State.intakeStatus (s : State) : Nat :=
  let k := s.intake
  k.linkSpeed * 2 ^ 12 + k.linkWidth * 2 ^ 8 + 8 * b2n k.flrSeen + 4 * b2n k.dbError + 2 * b2n k.absentAccess + 1

/-- The 256 bits of a ring table entry (Table 3-7). -/
def State.ringEntry (s : State) (q : Nat) : Nat :=
  let r := s.ring q
  r.base + s.ringKind q % 2 ^ 8 * 2 ^ 80 + r.order * 2 ^ 88 + r.format * 2 ^ 93 + r.channel * 2 ^ 95 + r.vector * 2 ^ 101
    + b2n r.enable * 2 ^ 112 + r.producer * 2 ^ 128 + r.consumer * 2 ^ 160 + r.lastStatus * 2 ^ 192 + b2n r.waiting * 2 ^ 200
    + b2n r.dbErr * 2 ^ 201 + r.bad * 2 ^ 224

/-- The doorbell of ring Q (Table 3-8): PART_INDEX above HOST_INDEX. -/
def State.doorbellImage (s : State) (q : Nat) : Nat :=
  let r := s.ring q
  if s.ringKind q = 5 then r.producer * 2 ^ 32 + r.consumer else r.consumer * 2 ^ 32 + r.producer

/-- An MSI-X table entry as PCIe lays it out. -/
def MsixEntry.image (e : MsixEntry) : Nat := e.addr + e.data * 2 ^ 64 + b2n e.masked * 2 ^ 96

/-- 64 bits of the pending bit array from vector `v` on. -/
def State.pendingWord (s : State) (v : Nat) : Nat := ((upTo 64).map fun k => b2n (s.msixEntry (v + k)).pending * 2 ^ k).sum

/-- Set DB_ERR of a ring, and DB_ERROR. -/
def State.doorbellError (s : State) (q : Nat) : State :=
  let s := s.modRing q fun r => { r with dbErr := true }
  { s with intake := { s.intake with dbError := true } }

/-- The enable checks of R78. -/
def State.ringEnableOk (s : State) (q : Nat) : Bool :=
  let r := s.ring q
  let k := s.ringKind q
  decide (k ≠ 0) && decide (1 ≤ r.order) && decide (r.order ≤ 16) && decide (r.base % 64 = 0)
    && !(decide (r.format = 1) && !s.variant.codec)
    && !(decide (r.format = 2) && !bit s.legacySelection 2)
    && decide (r.format ≠ 3) && !(decide (r.format ≠ 0) && decide (k ≠ 1))

/-- Writing ENABLE from 0 to 1 (R78): DB_ERR where a check fails. -/
def State.enableRing (s : State) (q : Nat) : State :=
  if (s.ring q).enable then s
  else if s.ringEnableOk q then
    let s := s.modRing q fun r => { r with enable := true, producer := 0, consumer := 0, head := none, waiting := false, bad := 0 }
    if s.ringKind q = 5 ∧ s.eventRing (ringDie q) = some q then s.reportDrops (ringDie q) q else s
  else s.modRing q fun r => { r with dbErr := true }

/-- Writing ENABLE from 1 to 0 (R78): a ring reset; the codec stream of the ring is discarded (R127). An event ring holds no
descriptors, so it writes no completions and keeps its indices until it is enabled again (DESIGN CHOICE, log 37). -/
def State.disableRing (s : State) (q : Nat) : State :=
  if (s.ring q).enable then
    let s := if s.ringKind q = 5 then s else s.ringReset q
    let s := { s with store := { s.store with streams := mapSet {} s.store.streams q {} } }
    s.modRing q fun r => { r with enable := false }
  else s

/-- RING_ENABLE (R78). -/
def execRingEnable (q : Nat) (s : State) : State := if s.ringPresent q then s.enableRing q else s.absent

/-- RING_RESET (R78). -/
def execRingReset (q : Nat) (s : State) : State := if s.ringPresent q then s.disableRing q else s.absent

/-- Doorbell of a host-fed ring (R79). -/
def State.hostDoorbell (s : State) (q v : Nat) : State :=
  let r := s.ring q
  let p' : Nat := v % 2 ^ 32
  let step : Int := ((p' : Int) - r.producer) % 2 ^ 32
  let fill : Int := ((p' : Int) - r.consumer) % 2 ^ 32
  if step < 2 ^ 31 ∧ fill ≤ 2 ^ r.order then s.modRing q fun r => { r with producer := p' } else s.doorbellError q

/-- Doorbell of an event ring (R94): space returns to the part. -/
def State.eventDoorbell (s : State) (q v : Nat) : State :=
  let r := s.ring q
  let h' : Nat := v % 2 ^ 32
  let step : Int := ((h' : Int) - r.consumer) % 2 ^ 32
  let fill : Int := ((r.producer : Int) - h') % 2 ^ 32
  if step < 2 ^ 31 ∧ fill ≤ 2 ^ r.order then
    let s := s.modRing q fun r => { r with consumer := h' }
    if s.eventRing (ringDie q) = some q then s.reportDrops (ringDie q) q else s
  else s.doorbellError q

/-- A write of HOST_INDEX (Table 3-8). A doorbell ends the recess of its die's pair (R434). -/
def State.writeHostIndex (s : State) (q v : Nat) : State :=
  let s := s.leaveRecess (ringDie q)
  if s.ringPresent q then
    if (s.ring q).enable then (if s.ringKind q = 5 then s.eventDoorbell q v else s.hostDoorbell q v)
    else s.doorbellError q
  else s.absent

/-- DOORBELL (R79). -/
def execDoorbell (q v : Nat) (s : State) : State := s.writeHostIndex q v

/-- EVENT_RING_DOORBELL (R94). -/
def execEventRingDoorbell (q v : Nat) (s : State) : State := s.writeHostIndex q v

/-! Raster descriptors (R82 to R86). -/

/-- Checks of R83 that need no panel. -/
def State.rasterStatic (s : State) (q d : Nat) : Bool :=
  let r := s.ring q
  let x := s.spanOf (laneScanner (ringLane q))
  decide (bits d 447 216 = 0) && decide (bits d 127 106 = 0) && decide (bits d 95 89 = 0)
    && decide (descOp d = 1) && decide (descAddr d % 64 = 0) && decide (1 ≤ descLines d)
    && decide (1 ≤ descLength d) && decide (descLength d ≤ 16777216)
    && (decide (r.format = 1) || decide (descLength d = descLines d * lineStride r.format x.1 x.2))

/-- Checks of R83 against the panel of the slot. -/
def State.rasterLines (s : State) (q d : Nat) : Bool :=
  let i := ringSlot q
  let l := ringLane q
  let step := s.sweepStep (laneStation l)
  match s.laneFirstOf i l with
  | none => false
  | some f =>
    decide (f ≤ descFirst d) && decide ((descFirst d - f) % step = 0)
      && decide (descFirst d + descLines d * step - step < (s.slot i).h)

/-- What Table 2-1 and R35 make of the end of a descriptor that was transferred. -/
def State.afterDescriptor (s : State) (i seq : Nat) : State :=
  (s.loadingFrom i seq).settleResident i

/-- End the head descriptor: with an error its lines are uncounted (R89); a transferred raster descriptor moves its
panel on. -/
def State.endHead (s : State) (q status : Nat) : State :=
  match (s.ring q).head with
  | none => s
  | some h =>
    let s := if status = 0 then s else s.uncountHead q
    let s := s.completeHead q status h.buf.length
    if s.ringKind q = 1 then s.afterDescriptor (ringSlot q) (descSeq h.raw) else s

/-- Channel of a ring, as a key over the dies. -/
def State.channelKey (s : State) (q : Nat) : Nat := ringDie q * 64 + (s.ring q).channel

/-- No other ring holds the channel of ring q (R92). -/
def State.channelFree (s : State) (q : Nat) : Bool :=
  let c := mapGet {} s.intake.channels (s.channelKey q)
  decide (c.ring = none) || decide (c.ring = some q)

/-- Begin the transfer of the head: its chain, its channel, and the first line it replaces (R82, R92, R119). -/
def State.beginTransfer (s : State) (q : Nat) : State :=
  match (s.ring q).head with
  | none => s
  | some h =>
    let s := { s with intake := { s.intake with
        channels := mapMod {} s.intake.channels (s.channelKey q) fun c => { c with ring := some q } } }
    let s := s.modRing q fun r =>
      { r with waiting := false, head := some { h with moving := true, chain := s.store.nextChain } }
    let s := { s with store := { s.store with nextChain := s.store.nextChain + 1 } }
    if s.ringKind q = 1 then
      (s.uncountLines (ringSlot q) (ringLane q) [descFirst h.raw]).settleResident (ringSlot q)
    else s

/-- Process the head of a raster ring by its SEQ (R82). One with the panel's SEQ that fails the checks of R83 against the panel
counts as transferred, so a DECLARED panel is LOADING after it (DESIGN CHOICE, log 13). -/
def State.judgeRaster (s : State) (q : Nat) : State :=
  match (s.ring q).head with
  | none => s
  | some h =>
    let d := h.raw
    let p := s.slot (ringSlot q)
    let wait := s.modRing q fun r => { r with waiting := true }
    if h.moving then s
    else if !s.rasterStatic q d then s.completeHead q 4 0
    else if p.state = .free ∨ follows32 (descSeq d) p.seq then wait
    else if descSeq d ≠ p.seq then s.completeHead q 6 0
    else match p.state with
      | .withdrawn => wait
      | .declared =>
        if !p.granted then wait
        else if s.rasterLines q d then s.beginTransfer q
        else (s.completeHead q 4 0).afterDescriptor (ringSlot q) p.seq
      | .loading => if s.rasterLines q d then s.beginTransfer q else s.completeHead q 4 0
      | .resident => if s.rasterLines q d then s.beginTransfer q else s.completeHead q 4 0
      | _ => s.completeHead q 7 0

/-- The ring has a descriptor to work on and its channel is free for it. -/
def State.fetchable (s : State) (q : Nat) : Bool :=
  let r := s.ring q
  s.ringPresent q && r.enable && decide (s.ringKind q ≠ 5) && decide (r.consumer ≠ r.producer) && s.channelFree q

/-- Places from the ring that the channel served last to ring q, in ring numbers (R92). -/
def State.turnOf (s : State) (q : Nat) : Nat :=
  (q + 65535 - (mapGet {} s.intake.channels (s.channelKey q)).lastRing) % 65536

/-- It is the turn of ring q at its channel: no ring of the channel with a descriptor to work on comes before it, those that wait
being passed over (R92). The turns follow the ring numbers (DESIGN CHOICE, log 53). -/
def State.ringTurn (s : State) (q : Nat) : Bool :=
  s.intake.rings.all fun kv => kv.2.waiting || decide (s.channelKey kv.1 ≠ s.channelKey q) || !s.fetchable kv.1
    || decide (s.turnOf q ≤ s.turnOf kv.1)

/-- The channel has served ring q last. -/
def State.servedRing (s : State) (q : Nat) : State :=
  { s with intake := { s.intake with
      channels := mapMod {} s.intake.channels (s.channelKey q) fun c => { c with lastRing := q } } }

/-- Rings of slot i that waited for this panel or its store wait no longer (R36, R82): their heads are judged at their next
turn. -/
def State.wakeRings (s : State) (i : Nat) : State :=
  let p := s.slot i
  let wake (q : Nat) (r : Ring) : Ring :=
    match r.head with
    | some h => if ringLocal q < 4096 ∧ ringSlot q = i ∧ descSeq h.raw = p.seq then { r with waiting := false } else r
    | none => r
  if p.state = .declared ∧ p.granted then { s with intake := { s.intake with rings := mapEach {} s.intake.rings wake } } else s

/-! Data (R85, R86, R93). -/

/-- What the lines of a TRC buffer that have not been taken yet come to (R84): none while nothing is wrong, 5 at the first
line that is invalid, 4 where the whole buffer is read and ends inside a line or after more than LINES lines. -/
def trcVerdict (whole : Bool) (n : Nat) : Nat → List Nat → List Nat → List Nat → Option Nat
  | 0, bs, _, _ => if whole && !bs.isEmpty then some 4 else none
  | lines + 1, bs, above, above2 =>
    match trcLine bs above above2 n with
    | .ok px size => trcVerdict whole n lines (bs.drop size) px above
    | .short => if whole then some 4 else none
    | .bad => some 5

/-- The verdict on the head of ring q, for a raster ring of format TRC. -/
def State.headVerdict (s : State) (q : Nat) (h : Head) : Option Nat :=
  if s.ringKind q = 1 ∧ (s.ring q).format = 1 then
    let x := s.spanOf (laneScanner (ringLane q))
    trcVerdict (decide (h.buf.length = descLength h.raw)) (x.2 + 1 - x.1) (descLines h.raw - h.linesStored) (h.buf.drop h.offset)
      h.above h.above2
  else none

/-- AER logs a PCIe error (R89). -/
def State.logAer (s : State) (k : Nat) : State := { s with intake := { s.intake with aer := setBit s.intake.aer k true } }

/-- Host address of a codec job's report (Table 4-6), and the two words of Table 4-7 written there. -/
def jobReport (d : Nat) : Nat := bits d 319 256

def State.report (s : State) (d used out blocks mismatches : Nat) : State :=
  s.emit .hostWrite (jobReport d) [used + out * 2 ^ 32, blocks + mismatches * 2 ^ 32]

/-- A read of the buffer of ring q failed: the descriptor ends, a codec job after a report of nothing done (R93, R130). -/
def State.readFailed (s : State) (q : Nat) (h : Head) (status : Nat) : State :=
  (if s.ringKind q = 2 then s.report h.raw 0 0 0 0 else s).endHead q status

/-- A read completion for the head's buffer: its bytes are staged, as many as the channel's 4 KB staging buffer has room for and
the channel therefore asked for (R92), and reading stops at the first error in TRC raster (R84); a
bus error, a timeout or a poisoned completion ends the descriptor (R93). -/
def State.readCompletion (s : State) (q : Nat) (status : ReadStatus) (bytes : List Nat) : State :=
  match (s.ring q).head with
  | none => s
  | some h =>
    if h.moving then
      match status with
      | .ok =>
        let staged := (mapGet ({} : DmaChannel) s.intake.channels (s.channelKey q)).staged
        let room := min (descLength h.raw - h.buf.length) (4096 - staged)
        let new := (bytes.take room).map (· % 256)
        let h1 := { h with buf := h.buf ++ new }
        let s := s.modRing q fun r => { r with head := some h1 }
        let s := { s with intake := { s.intake with
            channels := mapMod {} s.intake.channels (s.channelKey q) fun c => { c with staged := c.staged + new.length } } }
        match s.headVerdict q h1 with
        | some st => s.endHead q st
        | none => s
      | .busError => (s.logAer 0).readFailed q h 1
      | .timeout => (s.logAer 1).readFailed q h 2
      | .poisoned => (s.logAer 2).readFailed q h 3
    else s

/-- DMA_READ_COMPLETION (R93). -/
def execDmaReadCompletion (q : Nat) (status : ReadStatus) (bytes : List Nat) (s : State) : State :=
  s.readCompletion q status bytes

/-- COMPLETION_TIMEOUT (R93). -/
def execCompletionTimeout (q : Nat) (s : State) : State := s.readCompletion q .timeout []

/-- Priority of a channel (0x2208); a throttled die raises no channel (R430 acts on what may be granted). -/
def State.channelPriority (s : State) (d ch : Nat) : Nat := s.cfg (0x2208 + d) (ch + 1)

def State.port (s : State) (k : Nat) : Port := mapGet {} s.store.ports k

def State.modPort (s : State) (k : Nat) (f : Port → Port) : State :=
  { s with store := { s.store with ports := mapMod {} s.store.ports k f } }

/-- Intake stalls: a present port holds its requesters other than PLAYBACK in detention (R114). Raster is interleaved over the
ports in service (R101), so none of it can be written. -/
def State.intakeStalled (s : State) : Bool := (upTo 2).any fun k => s.channelPresent k && (s.port k).detained

/-- The head of ring q is 4-bit raster with pixels for the compressor: transferred, its next line read and not all coded. -/
def State.compressible (s : State) (q : Nat) : Option Head :=
  match (s.ring q).head with
  | none => none
  | some h =>
    let x := s.spanOf (laneScanner (ringLane q))
    let stride := lineStride 0 x.1 x.2
    if s.ringKind q ≠ 1 ∨ (s.ring q).format ≠ 0 ∨ s.variant.codec = false ∨ h.moving = false ∨ descLines h.raw ≤ h.linesStored
        ∨ x.2 + 1 - x.1 ≤ h.blockPixels ∨ h.moved < (h.linesStored + 1) * stride ∨ h.buf.length < (h.linesStored + 1) * stride then none
    else some h

/-- Priority at which ring q's raster goes through its die's compressor: that of its channel (R86). -/
def State.ringPriority (s : State) (q : Nat) : Nat := s.channelPriority (ringDie q) (s.ring q).channel

/-- No other ring of the die with raster for the compressor has a higher priority (R86). -/
def State.compressorTurn (s : State) (q : Nat) : Bool :=
  s.intake.rings.all fun kv => decide (ringDie kv.1 ≠ ringDie q) || decide (s.ringPriority kv.1 ≤ s.ringPriority q)
    || (s.compressible kv.1).isNone

/-- The channel that wins the next beat of die d (R92): highest priority with data ready. Among equals the one that has not
reached the 4 KB boundary of its transfer goes on, also after a channel of higher priority has pre-empted it; at a boundary the
next in turn follows. -/
def State.beatWinner (s : State) (d : Nat) : Option Nat :=
  let chan := fun ch => mapGet ({} : DmaChannel) s.intake.channels (64 * d + ch)
  let ready := (upTo 64).filter fun ch => decide (0 < (chan ch).staged) && s.channelMayMove d (s.channelPriority d ch)
    && !(s.intakeStalled && (match (chan ch).ring with
      | some q => s.ringKind q == 1
      | none => false))
  let top := ready.foldl (fun m ch => max m (s.channelPriority d ch)) 0
  let best := ready.filter fun ch => decide (s.channelPriority d ch = top)
  let last := mapGet 0 s.intake.lastChannel (16 * d + top)
  let open_ := best.filter fun ch => decide ((chan ch).sinceBoundary ≠ 0)
  if open_.contains last then some last
  else match open_.head? with
    | some ch => some ch
    | none => match best.find? fun ch => decide (last < ch) with
      | some ch => some ch
      | none => best.head?

/-- One beat more of the die's engine, moved or passed over (R430). -/
def State.countBeat (s : State) (d : Nat) : State :=
  { s with intake := { s.intake with beats := mapMod 0 s.intake.beats d (wrapInc 32) } }

/-- DMA_BEAT (R92): the winner moves 64 bytes, or what is left, out of its staging buffer. -/
def execDmaBeat (die : Nat) (s : State) : State :=
  if s.present die then
    match s.beatWinner die with
    | none => s.countBeat die
    | some ch =>
      let s := s.countBeat die
      let c := mapGet ({} : DmaChannel) s.intake.channels (64 * die + ch)
      let n := min 64 c.staged
      let s := { s with intake := { s.intake with
          lastChannel := mapSet 0 s.intake.lastChannel (16 * die + s.channelPriority die ch) ch
          channels := mapSet {} s.intake.channels (64 * die + ch)
            { c with staged := c.staged - n, sinceBoundary := (c.sinceBoundary + n) % 4096 } } }
      match c.ring with
      | none => s
      | some q => s.modRing q fun r => { r with head := r.head.map fun h => { h with moved := h.moved + n } }
  else s

/-- Lines of an earlier chain that a new descriptor leaves behind stop counting as stored (R119). -/
def State.breakChain (s : State) (i l y : Nat) (carried : List Nat) : State :=
  let old := s.lineAt i l y
  if old.form = 1 ∧ old.chain ≠ 0 then
    { s with lines := mapEach {} s.lines fun k x =>
        if k / 2 ^ 24 = i * 1024 + l ∧ y < k % 2 ^ 24 ∧ x.chain = old.chain ∧ !carried.contains (k % 2 ^ 24) then
          { x with stored := false }
        else x }
  else s

/-- Put one stored line in its slot, with what follows for the chain it replaces and the next line (R82, R119). -/
def State.putLine (s : State) (q : Nat) (h : Head) (y : Nat) (ln : StoredLine) (h' : Head) : State :=
  let i := ringSlot q
  let l := ringLane q
  let carried := s.descLineList q h.raw
  let s := s.breakChain i l y carried
  let s := { s with store := { s.store with cells := [], probed := [], rasterIn := true } }
  let s := { s with lines := mapSet {} s.lines (lineKey i l y) ln }
  let s := s.modRing q fun r => { r with head := some { h' with linesStored := h.linesStored + 1, blocks := [], blockPixels := 0 } }
  let s := if h.linesStored + 1 < descLines h.raw then s.uncountLines i l [y + s.sweepStep (laneStation l)] else s
  s.settleResident i

/-- The next line of the head is acknowledged by the store (R85, R86, R123), once its bytes have left the staging buffer; not while
intake stalls (R114). 4-bit raster of a variant with a codec is stored as its compressor emitted it; the verifier makes TYPE 1 blocks
of what a compressor in detention has not emitted (R123). -/
def State.storeLine (s : State) (q : Nat) : State :=
  match (s.ring q).head with
  | none => s
  | some h =>
    let r := s.ring q
    let l := ringLane q
    let x := s.spanOf (laneScanner l)
    let n := x.2 + 1 - x.1
    let y := descFirst h.raw + s.sweepStep (laneStation l) * h.linesStored
    if s.ringKind q ≠ 1 ∨ !h.moving ∨ descLines h.raw ≤ h.linesStored ∨ s.intakeStalled then s
    else if r.format = 1 then
      match trcLine (h.buf.drop h.offset) h.above h.above2 n with
      | .ok px size =>
        if h.moved < h.offset + size then s
        else s.putLine q h y { stored := true, form := 1, bytes := (h.buf.drop h.offset).take size, chain := h.chain }
          { h with offset := h.offset + size, above := px, above2 := h.above }
      | .short => if h.buf.length = descLength h.raw then s.endHead q 4 else s
      | .bad => s.endHead q 5
    else
      let stride := lineStride r.format x.1 x.2
      if h.buf.length < (h.linesStored + 1) * stride ∨ h.moved < (h.linesStored + 1) * stride then s
      else if r.format = 2 then
        s.putLine q h y { stored := true, form := 2, bytes := bufferLine 2 x.1 x.2 h.linesStored h.buf } h
      else if s.variant.codec then
        if h.blockPixels < n ∧ (bit s.store.compressorHeld (ringDie q) = false ∨ s.compressorTurn q = false) then s
        else
        let px := bufferLine 0 x.1 x.2 h.linesStored h.buf
        let bytes := h.blocks ++ trcStoredLine (n + 1) (px.drop h.blockPixels)
        s.putLine q h y { stored := true, form := 1, bytes, chain := h.chain } h
      else
        let raw := (h.buf.drop (h.linesStored * stride)).take ((x.2 - x.1 / 2 * 2) / 2 + 1)
        s.putLine q h y { stored := true, form := 0, bytes := raw } h

/-- LINE_STORED (R85). -/
def execLineStored (q : Nat) (s : State) : State := s.storeLine q

/-- DESCRIPTOR_COMPLETE (R87): a raster descriptor whose lines are all stored, or whose TRC buffer has ended. The completion
always waits for the acknowledgements, as BARRIER asks; without BARRIER R90 would let it go earlier (DESIGN CHOICE, log 37). -/
def execDescriptorComplete (q : Nat) (s : State) : State :=
  match (s.ring q).head with
  | none => s
  | some h =>
    if s.ringKind q ≠ 1 ∨ !h.moving then s
    else if (s.ring q).format = 1 then
      if h.buf.length < descLength h.raw then s
      else if h.linesStored < descLines h.raw then s.storeLine q
      else if h.offset < descLength h.raw then s.endHead q 4 else s.endHead q 0
    else if h.linesStored < descLines h.raw then s else s.endHead q 0

/-- At a commit, every raster descriptor of the panel still in transfer ends with SLOT_BUSY; its stored lines stay
(R38, R89). -/
def State.endTransfers (s : State) (i : Nat) : State :=
  let seq := (s.slot i).seq
  (s.intake.rings.filter fun kv =>
      decide (ringLocal kv.1 < 4096) && decide (ringSlot kv.1 = i) &&
        (match kv.2.head with
          | some h => h.moving && decide (descSeq h.raw = seq)
          | none => false)).foldl
    (fun s kv => s.completeHead kv.1 7 (match kv.2.head with | some h => h.buf.length | none => 0)) s

/-! Resets and link loss (R96). -/

/-- Every ring is disabled, transfers in flight are discarded without completions, every vector is masked. MSI-X Enable and
Function Mask fall to their PCIe reset values with the function (PRESUMED, log 37); Max_Read_Request_Size, 10-bit tags and ASPM
control stay as the host set them (DESIGN CHOICE, log 37). -/
def State.interfaceReset (s : State) : State :=
  let s := s.intake.rings.foldl (fun s kv => s.uncountHead kv.1) s
  { s with intake := { s.intake with
      rings := mapEach {} s.intake.rings fun _ r => { r with enable := false, head := none, waiting := false }
      channels := []
      msix := mapEach {} s.intake.msix fun _ e => { e with masked := true }
      msixEnable := false, functionMask := false
      flrSeen := true } }

/-- FUNCTION_LEVEL_RESET (R96, R456). -/
def execFunctionLevelReset (s : State) : State :=
  let s := s.interfaceReset
  { s with mirrors := mapEach {} s.mirrors fun _ m => { m with vectorOn := false, vector := 0 } }

/-- HOT_RESET (R96): as a function level reset. -/
def execHotReset (s : State) : State :=
  let s := s.interfaceReset
  { s with mirrors := mapEach {} s.mirrors fun _ m => { m with vectorOn := false, vector := 0 } }

/-- PCIE_LINK_LOSS (R96). -/
def execPcieLinkLoss (s : State) : State :=
  let s := s.interfaceReset
  { s with intake := { s.intake with linkUp := false, linkSpeed := 0, linkWidth := 0 } }

/-- PCIE_LINK_TRAINED (R68, Table 3-4): speeds 3 to 5 and widths 1, 2, 4 and 8 occur. -/
def execPcieLinkTrained (speed width : Nat) (s : State) : State :=
  if 3 ≤ speed ∧ speed ≤ 5 ∧ (width = 1 ∨ width = 2 ∨ width = 4 ∨ width = 8) then
    { s with intake := { s.intake with linkUp := true, linkSpeed := speed, linkWidth := width } }
  else s

end Sys2Proof.Machine
end

