-- ==== Sys2Proof/Machine/Lane.lean ====
section
/-! DEFINITION. The lane engine: registers, memories, window, the five instruction formats and the fields of a lane
word (R142 to R158). -/

namespace Sys2Proof.Machine

/-! Registers (R148). -/

def zeroVec : List Byte := List.replicate 32 0

/-- S register (a field of four bits); S0 reads as 0. -/
def Lane.reg (l : Lane) (r : Nat) : Word := if r % 16 = 0 then 0 else mapGet 0 l.regs (r % 16)

/-- Write an S register; a write to S0 is discarded. -/
def Lane.setReg (l : Lane) (r : Nat) (v : Word) : Lane :=
  if r % 16 = 0 then l else { l with regs := mapSet 0 l.regs (r % 16) v }

def Lane.vec (l : Lane) (v : Nat) : List Byte := mapGet zeroVec l.vregs (v % 8)

def Lane.setVec (l : Lane) (v : Nat) (x : List Byte) : Lane := { l with vregs := mapSet zeroVec l.vregs (v % 8) x }

/-- Element e of a vector register. -/
def Lane.elem (l : Lane) (v e : Nat) : Byte := (l.vec v).getD e 0

/-! Lane words (Tables 5-7 to 5-11, 5-13). -/

def wordS (op sd sa sb : Nat) : Nat := op * 2 ^ 26 + sd % 16 * 2 ^ 22 + sa % 16 * 2 ^ 18 + sb % 16 * 2 ^ 14

def wordI (op sd sa imm : Nat) : Nat := op * 2 ^ 26 + sd % 16 * 2 ^ 22 + sa % 16 * 2 ^ 18 + imm % 2 ^ 18

def wordB (op sa sb target : Nat) : Nat := op * 2 ^ 26 + sa % 16 * 2 ^ 22 + sb % 16 * 2 ^ 18 + target % 2 ^ 11

def wordM (op v sa line : Nat) (off : Int) : Nat :=
  op * 2 ^ 26 + v % 8 * 2 ^ 23 + sa % 16 * 2 ^ 19 + line % 4 * 2 ^ 17 + ofSigned 15 off

def wordV (op vd va vb sa imm : Nat) : Nat :=
  op * 2 ^ 26 + vd % 8 * 2 ^ 23 + va % 8 * 2 ^ 20 + vb % 8 * 2 ^ 17 + sa % 16 * 2 ^ 13 + imm % 256

/-- A lane word is legal: its opcode is in Table 5-13, every field that the operation does not name is 0, and every
selector, LINE and shift value lies in its range (R150). -/
def laneLegal (w : Nat) : Bool :=
  let op := bits w 31 26
  let sa := bits w 21 18
  let i18 := bits w 17 0
  let mRes := decide (bits w 16 15 = 0)
  let line := bits w 18 17
  let va := bits w 22 20
  let vb := bits w 19 17
  let vsa := bits w 16 13
  let vres := decide (bits w 12 8 = 0)
  let imm8 := bits w 7 0
  if op = 0 then decide (w = 0)
  else if op ≤ 0x07 then decide (bits w 13 0 = 0)
  else if op = 0x0B ∨ op = 0x0C then decide (i18 ≤ 31)
  else if op = 0x0D then decide (sa = 0)
  else if op = 0x10 then decide (sa = 0) && decide (i18 ≤ 11)
  else if op ≤ 0x0F then true
  else if op = 0x14 ∨ op = 0x1A then decide (bits w 25 11 = 0)
  else if 0x15 ≤ op ∧ op ≤ 0x18 then decide (bits w 17 11 = 0)
  else if op = 0x19 then decide (bits w 21 11 = 0)
  else if op = 0x1B ∨ op = 0x1C then decide (bits w 25 0 = 0)
  else if op = 0x20 then mRes && decide (line ≤ 2)
  else if op = 0x21 then mRes && decide (line = 1)
  else if op = 0x22 ∨ op = 0x23 then mRes && decide (line = 0)
  else if (0x28 ≤ op ∧ op ≤ 0x2D) ∨ op = 0x30 ∨ op = 0x31 ∨ op = 0x34 then decide (vsa = 0) && vres && decide (imm8 = 0)
  else if op = 0x2E then decide (va = 0) && decide (vb = 0) && vres && decide (imm8 = 0)
  else if op = 0x2F then decide (vb = 0) && decide (vsa = 0) && vres && decide (imm8 ≤ 7)
  else if op = 0x32 then decide (vb = 0) && decide (vsa = 0) && vres
  else if op = 0x33 then decide (vb = 0) && decide (vsa = 0) && vres && decide (imm8 = 0)
  else if op = 0x35 then decide (bits w 25 23 = 0) && vres && decide (imm8 = 0)
  else false

/-! The window (R143, R154). -/

def Lane.bank (l : Lane) : Bank := if l.bankSel then l.bank1 else l.bank0

/-- Pixel x of window line j: 0 outside the span, outside the panel, and where the pixel is dark by R102. -/
def Lane.pixel (l : Lane) (lo hi h : Nat) (j : Nat) (x : Int) : Nat :=
  let b := l.bank
  let row := (l.y : Int) - 1 + j
  if x < lo ∨ hi < x ∨ row < 0 ∨ (h : Int) ≤ row then 0
  else
    let px := match j with
      | 0 => b.line0
      | 1 => b.line1
      | _ => b.line2
    let v := px.getD (x - lo).toNat 0
    if 16 ≤ v then 0 else v

/-- Edge value at pixel x (R154). -/
def Lane.edgeAt (l : Lane) (lo hi h : Nat) (x : Int) : Nat :=
  let p := l.pixel lo hi h
  let c := p 1 x
  let m := min (min (p 1 (x - 1)) (p 1 (x + 1))) (min (p 0 x) (p 2 x))
  if m < c then c - m else 0

/-! Data memory (R142, R153). -/

def Lane.dataByte (l : Lane) (a : Nat) : Nat := mapGet 0 l.data a

def Lane.dataBytes (l : Lane) (a n : Nat) : List Nat := mapGetList 0 l.data a n

def Lane.setData (l : Lane) (a : Nat) (bs : List Nat) : Lane := { l with data := mapSetList 0 l.data a bs }

/-- A data access of n bytes at a computed address is in range and aligned. -/
def dataOk (a : Int) (n : Nat) : Bool := decide (0 ≤ a) && decide (a + n ≤ 0x2000) && decide (a % n = 0)

/-! Tone-to-width table (R156, R157, R159). -/

/-- Tone entry of the panel that the lane's program works on. -/
def State.toneOf (s : State) (lane k : Nat) : Nat :=
  (((s.slot (s.lane lane).slot).tone).getD (laneStation lane) []).getD k 0

/-- START for a width and an alignment (R157). -/
def toneStart (entry w : Nat) : Nat :=
  let w := min w 63
  if w = 0 then 0
  else match bits entry 7 6 with
    | 1 => (63 - w) / 2
    | 2 => 63 - w
    | _ => 0

/-! One instruction. -/

/-- The program of the lane runs and the word at its PC is this legal word. -/
def State.laneAt (s : State) (lane w : Nat) : Bool :=
  let l := s.lane lane
  decide (lane < 1024) && l.active && decide (l.state = .running) && decide (l.pc < 2048)
    && decide (mapGet 0 l.prog l.pc = w) && laneLegal w

/-- Execute one instruction that goes on to the next address: the lane's change, and its cycles (R149). -/
def State.laneStep (s : State) (lane w cyc : Nat) (f : Lane → Lane) : State :=
  if s.laneAt lane w then
    s.modLane lane fun l => let l := f l; { l with pc := l.pc + 1, cycles := l.cycles + cyc }
  else s

/-- Execute one instruction that sets the PC itself. -/
def State.laneJump (s : State) (lane w cyc : Nat) (f : Lane → Lane) : State :=
  if s.laneAt lane w then s.modLane lane fun l => let l := f l; { l with cycles := l.cycles + cyc } else s

/-- A program fault: FAULT_PC is recorded and the lane is detained (R150, R153, R167). The faults of the program's own instructions,
causes 2 to 4, are program faults; causes 5, 6 and 7 record no FAULT_PC (DESIGN CHOICE, log 35: R167 does not define the term). -/
def State.programFault (s : State) (lane cause : Nat) : State :=
  (s.modLane lane fun l => { l with faultPc := min l.pc 2047 }).raiseLane lane cause

/-- Sign-extended 18-bit immediate and 15-bit offset images. -/
def imm18 (i : Int) : Nat := ofSigned 18 i

/-- Scalar operation of format S. -/
def State.scalarOp (s : State) (lane op sd sa sb cyc : Nat) (f : Word → Word → Word) : State :=
  s.laneStep lane (wordS op sd sa sb) cyc fun l => l.setReg sd (f (l.reg sa) (l.reg sb))

/-- Vector operation of three registers. -/
def State.vectorOp (s : State) (lane op vd va vb : Nat) (f : Byte → Byte → Byte) : State :=
  s.laneStep lane (wordV op vd va vb 0 0) 1 fun l =>
    l.setVec vd ((upTo 32).map fun e => f (l.elem va e) (l.elem vb e))

/-- Branch of format B: 2 cycles taken, 1 not taken. -/
def State.branchOp (s : State) (lane op sa sb target : Nat) (c : Word → Word → Bool) : State :=
  s.laneJump lane (wordB op sa sb target) 0 fun l =>
    if c (l.reg sa) (l.reg sb) then { l with pc := target, cycles := l.cycles + 2 }
    else { l with pc := l.pc + 1, cycles := l.cycles + 1 }

/-- Context value of Table 5-6. -/
def State.context (s : State) (lane sel : Nat) : Nat :=
  let l := s.lane lane
  let g := laneScanner lane
  let x := s.spanOf g
  match sel with
  | 0 => x.1
  | 1 => x.2
  | 2 => l.y
  | 3 => l.n
  | 4 => lane % 32
  | 5 => l.facet
  | 6 => s.cfg 0x2183 (laneStation lane + 1)
  | 7 => l.cycles
  | 8 => lane
  | 9 => (s.slot l.slot).seq
  | 10 => if (s.station (laneStation lane)).band = 1 then 256 + s.leadBeam g else 0
  | _ => (s.slot l.slot).h

end Sys2Proof.Machine
end

