-- ==== Sys2Proof/Machine/LaneCmds.lean ====
section
/-! DEFINITION. Lane commands, the lane window, playback into the windows and the start of lane programs (R125,
R137, R138, R144 to R147, R159 to R163). -/

namespace Sys2Proof.Machine

/-! Lane commands (R160 to R163). -/

/-- Lanes of a scope: 0 lane, 1 scanner, 2 station, 3 every fitted station. -/
def State.scopeLanes (s : State) (scope l : Nat) : List Nat :=
  match scope with
  | 0 => [l]
  | 1 => (upTo 32).map fun b => l / 32 * 32 + b
  | 2 => (upTo 128).map fun k => l / 128 * 128 + k
  | _ => s.presentDies.flatMap fun st => (upTo 128).map fun k => st * 128 + k

/-- Stations of a scope. -/
def State.scopeStations (s : State) (scope l : Nat) : List Nat := if scope < 3 then [laneStation l] else s.presentDies

/-- Some slot in one of these states names the station. -/
def State.named (s : State) (st : Nat) (p : SlotState → Bool) : Bool :=
  (upTo 32).any fun i => p (s.slot i).state && bit (s.slot i).mask st

def SlotState.live (x : SlotState) : Bool := x.uncommitted || x.isCommitted

/-- A lane command is in progress: 0x2500:3 reads 1 (R162). -/
def State.laneBusy (s : State) : Bool := decide (s.timebase < s.laneCmd.until_)

/-- A LOAD to the lane is in progress (R147). -/
def State.laneLoading (s : State) (l : Nat) : Bool :=
  s.laneBusy && s.laneCmd.image.isSome && (s.scopeLanes s.laneCmd.scope s.laneCmd.lane).contains l

/-- A LOAD reads the image (R168). -/
def State.imageRead (s : State) (image : Nat) : Bool := s.laneBusy && decide (s.laneCmd.image = some image)

/-- The checks of R161, in the order value, absent unit, state; `from_` is the state that Table 5-17 requires. -/
def State.laneCheck (s : State) (image scope l : Nat) (load : Bool) (from_ : LaneState → Bool) : Except Abort Unit := do
  need (decide (scope ≤ 3) && decide (image < 16) && decide (l < 1024) && (load || decide (image = 0))
    && (decide (scope < 3) || decide (l = 0))) .invalid
  need ((s.scopeStations scope l).all s.present) .noSuchUnit
  need (decide (s.nmt.state ≠ .stopped)) .state
  need (!s.laneBusy) .state
  need (!(s.scopeStations scope l).any fun st => s.named st SlotState.live) .state
  need ((s.scopeLanes scope l).all fun k => from_ (s.lane k).state) .state
  need (!load || decide (s.domain (0x2540 + image) 0 ≠ [])) .noData

/-- A lane command is accepted: it completes at an instant within 1 ms that nothing fixes (R162). -/
def State.laneAccepted (s : State) (image scope lane : Nat) (load : Bool) : State :=
  let (n, s) := s.freeNat
  { (s.accept 0x2500) with
    laneResult := 0
    laneCmd := { until_ := s.timebase + n % (ticksPerMs + 1), image := if load then some image else none, scope, lane } }

/-- A lane command: its result is recorded in 0x2500:2 whether it is accepted or refused. The lanes of an accepted one have
changed at its acceptance (DESIGN CHOICE, log 35). -/
def State.laneCommand (s : State) (image scope l : Nat) (load : Bool) (from_ : LaneState → Bool) (f : State → Nat → State) : State :=
  match s.laneCheck image scope l load from_ with
  | .error a => { (s.refuse a) with laneResult := a.code }
  | .ok _ => ((s.scopeLanes scope l).foldl f s).laneAccepted image scope l load

/-- Words of a program image. -/
def imageWords : List Nat → List Nat
  | a :: b :: c :: d :: rest => word4 [a, b, c, d] :: imageWords rest
  | _ => []

/-- A register file cleared by START and RELEASE (R148, R163). -/
def Lane.clearRegs (l : Lane) : Lane := { l with regs := [], vregs := [], stack := [], pc := 0, active := false, cycles := 0 }

/-- Free the window banks, whose lines stay readable (R146), and drop the code buffers: no sweep is in hand. -/
def Lane.clearBuffers (l : Lane) : Lane :=
  { l with bank0 := l.bank0.release, bank1 := l.bank1.release, buf0 := {}, buf1 := {}, bufSel := false, active := false, lastRun := 0 }

/-- LOAD of one lane: the rest of both memories reads 0. -/
def Lane.load (l : Lane) (image : Nat) (prog data : List Nat) : Lane :=
  { l with prog := mapSetList 0 [] 0 (imageWords prog), data := mapSetList 0 [] 0 data, hostWritten := false, image }

/-- LANE_LOAD (R163). -/
def execLaneLoad (image scope l : Nat) (s : State) : State :=
  s.laneCommand image scope l true (· = .stopped) fun t k =>
    t.modLane k fun x => x.load image (s.domain (0x2540 + image) 0) (s.domain (0x2560 + image) 0)

/-- LANE_START (R163): BAND_DARK where the band plan leaves the beam dark. -/
def execLaneStart (scope l : Nat) (s : State) : State :=
  s.laneCommand 0 scope l false (· = .stopped) fun t k =>
    let dark := decide ((t.station (laneStation k)).band = 1) && (t.beamFirst (laneScanner k) (k % 32)).isNone
    t.modLane k fun x =>
      { x.clearRegs.clearBuffers with
        cyclesPeak := 0, cyclesLast := 0, sweeps := 0, state := if dark then .bandDark else .running }

/-- LANE_STOP (R163). -/
def execLaneStop (scope l : Nat) (s : State) : State :=
  s.laneCommand 0 scope l false (fun x => x = .running || x = .bandDark) fun t k =>
    t.modLane k fun x => { x.clearBuffers with state := .stopped }

/-- LANE_RELEASE (R163): the unit leaves detention; an error-reset EMCY may follow (R461). -/
def execLaneRelease (scope l : Nat) (s : State) : State :=
  let t := s.laneCommand 0 scope l false (· = .detained) fun t k =>
    (t.undetain 0x10 (laneStation k) (k % 128)).modLane k fun x => { x.clearRegs.clearBuffers with state := .stopped }
  t.errorReset

/-! The lane window (R146, R147). -/

/-- LANE_MEMORY_WRITE: 4 or 8 bytes of program or data memory, while STOPPED and no LOAD to the lane goes on; otherwise WR_REFUSED. Of the registers behind
the memories only WR_REFUSED of LANE_STATUS is writable, with 1; the window views are read-only, and the rest is reserved
(Tables 5-4, 5-5). -/
def execLaneMemoryWrite (lane offset size value : Nat) (s : State) : State :=
  if (size ≠ 4 ∧ size ≠ 8) ∨ offset % size ≠ 0 then s
  else if 1024 ≤ lane ∨ s.present (laneStation lane) = false then s.absent
  else if offset = 0x4000 then (if bit value 28 then s.modLane lane fun l => { l with wrRefused := false } else s)
  else if (0x4000 ≤ offset ∧ offset < 0x4020) ∨ (0x8000 ≤ offset ∧ offset < 0xF800) then s
  else if 0x4000 ≤ offset then s.absent
  else if (s.lane lane).state ≠ .stopped ∨ s.laneLoading lane then s.modLane lane fun l => { l with wrRefused := true }
  else
    let ws := (upTo (size / 4)).map fun k => value / 2 ^ (32 * k) % 2 ^ 32
    if offset < 0x2000 then
      s.modLane lane fun l => { l with prog := mapSetList 0 l.prog (offset / 4) ws, hostWritten := true }
    else s.modLane lane fun l => l.setData (offset - 0x2000) (ws.flatMap bytes4)

/-- A pixel of a window view: 0 outside the span and where it is dark by R102. -/
def viewPixel (px : List Nat) (lo x : Nat) : Nat :=
  if x < lo then 0
  else
    let v := px.getD (x - lo) 0
    if 16 ≤ v then 0 else v

/-- Byte k of the view of one window line (Table 5-4): two pixels from x_a on. -/
def viewByte (px : List Nat) (lo k : Nat) : Nat :=
  let x := lo / 2 * 2 + 2 * k
  viewPixel px lo x + 16 * viewPixel px lo (x + 1)

/-- LANE_STATUS (Table 5-5). -/
def Lane.status (x : Lane) : Nat :=
  x.state.code * 2 ^ 29 + b2n x.wrRefused * 2 ^ 28 + b2n x.hostWritten * 2 ^ 27 + x.image % 16 * 2 ^ 23 + x.cause % 1024

/-- One byte of a lane window (Table 5-4). -/
def State.laneWindowByte (s : State) (l o : Nat) : Nat :=
  let x := s.lane l
  let lo := (s.spanOf (laneScanner l)).1
  if o < 0x2000 then mapGet 0 x.prog (o / 4) / 256 ^ (o % 4) % 256
  else if o < 0x4000 then x.dataByte (o - 0x2000)
  else if o < 0x4020 then
    (x.status + (x.cyclesPeak % 2 ^ 32 * 2 ^ 32 + x.cyclesLast % 2 ^ 32) * 2 ^ 64 + x.sweeps % 2 ^ 32 * 2 ^ 128
      + x.faultPc % 2 ^ 11 * 2 ^ 192) / 256 ^ (o - 0x4000) % 256
  else if o < 0xA800 then viewByte x.bank.line0 lo (o - 0x8000)
  else if o < 0xD000 then viewByte x.bank.line1 lo (o - 0xA800)
  else viewByte x.bank.line2 lo (o - 0xD000)

/-- What a read of a lane window answers; none for an absent lane and at reserved offsets (R72, R146). A read changes nothing and
never stalls the program (R147). -/
def State.laneWindowBytes (s : State) (l o size : Nat) : Option (List Nat) :=
  if 1024 ≤ l ∨ s.present (laneStation l) = false ∨ 0xF800 ≤ o ∨ (0x4020 ≤ o ∧ o < 0x8000) then none
  else some ((upTo size).map fun k => s.laneWindowByte l (o + k))

/-! Tone tables (R159). -/

/-- APPLY_TONE_TABLE: the staging copy becomes current. -/
def opApplyToneTable (st v : Nat) (s : State) : Except Abort State := do
  need (decide (st < 8) && s.present st) .noSuchUnit
  need (decide (v = 1)) .invalid
  let gen := (s.tone st).gen
  need (!(upTo 32).any fun i =>
    (s.slot i).state.isCommitted && bit (s.slot i).mask st && decide ((s.slot i).toneGen.getD st 0 ≠ gen)) .state
  let table := (upTo 16).map fun k => s.cfg (0x2508 + st) (k + 1)
  .ok { s with tones := mapSet {} s.tones st { current := table, gen := gen + 1 } }

def execApplyToneTable (st v : Nat) (s : State) : State := command (0x2508 + st) (opApplyToneTable st v) s

/-! Playback (R102, R125, R144). -/

/-- Order of the sweep that writes line y of the panel in slot i, over all panels of a lane. -/
def State.sweepKey (s : State) (i y : Nat) : Nat := (s.slot i).order * 2 ^ 32 + y + 1

/-- An uncorrectable error of a memory channel (R102, R103): counted, and 16 within one second lose the channel. -/
def State.memoryError (s : State) (c : Nat) : State :=
  let e := (s.timebase :: ((s.memChannel c).errors.filter fun t => decide (s.timebase < t + 1000 * ticksPerMs)))
  let s := { s with store := { s.store with
      uncorrectable := wrapInc 32 s.store.uncorrectable
      channels := mapMod {} s.store.channels c fun x => { x with errors := e.take 16 } } }
  let s := s.raise 0x08 c c 2
  if 16 ≤ e.length then s.loseChannel c else s

/-- PLAYBACK_LINE_DECODE (R125), in increasing y per lane, from the prefetch buffer of R113: blocks named in `failed` met an uncorrectable error of channel `chan` (R102), those
in `undecodable` fail R120; their pixels are dark. -/
def execPlaybackLineDecode (slot lane y chan : Nat) (failed undecodable : List Nat) (s : State) : State :=
  if lane < 1024 ∧ (s.slot slot).state.isCommitted ∧ s.isStored slot lane y ∧ s.present (laneStation lane)
      ∧ (s.lane lane).lastPlayed < s.sweepKey slot y then
    let bad := failed ++ undecodable
    let s := s.modLane lane fun x => { x with lastPlayed := s.sweepKey slot y }
    let d := laneStation lane
    let s := { s with store := { s.store with
        prefetch := mapMod 0 s.store.prefetch d (· - ceilDiv (s.lineAt slot lane y).bytes.length 64) } }
    let s := { s with lines := mapMod {} s.lines (lineKey slot lane y) fun x => { x with badBlocks := x.badBlocks ++ bad } }
    let s := { s with played := mapSet [] s.played (lineKey slot lane y) (s.decodeStored slot lane y) }
    let s := if bad = [] then s else (s.flagSlot slot 0).dimLine slot (laneStation lane) y
    let s := if failed = [] then s else s.memoryError (chan % 2)
    if undecodable = [] then s else s.raise 0x0B (laneStation lane) 0 1
  else s

/-- A bank takes line j of its window. -/
def Bank.put (b : Bank) (j : Nat) (px : List Nat) : Bank :=
  let b := { b with have_ := setBit b.have_ j true }
  match j with
  | 0 => { b with line0 := px }
  | 1 => { b with line1 := px }
  | _ => { b with line2 := px }

/-- A played-back line enters the bank that holds, or will hold, the window of line y (R144). -/
def Lane.putWindow (l : Lane) (slot y key j : Nat) (px : List Nat) : Lane :=
  let fresh : Bank := { slot, y, busy := true }
  if l.bank0.busy && decide (l.bank0.slot = slot) && decide (l.bank0.y = y) then { l with bank0 := l.bank0.put j px }
  else if l.bank1.busy && decide (l.bank1.slot = slot) && decide (l.bank1.y = y) then { l with bank1 := l.bank1.put j px }
  else if key ≤ l.lastRun then l
  else if l.bank0.busy = false ∧ (l.bankSel ∨ l.bank1.busy) then { l with bank0 := fresh.put j px }
  else if l.bank1.busy = false then { l with bank1 := fresh.put j px }
  else if l.bank0.busy = false then { l with bank0 := fresh.put j px }
  else l

/-- WINDOW_FILL (R144): the decoded line of this lane goes to every lane of the scanner whose window holds it. -/
def execWindowFill (slot lane y : Nat) (s : State) : State :=
  let px := mapGet [] s.played (lineKey slot lane y)
  if px = [] then s
  else
    let g := laneScanner lane
    let st := laneStation lane
    let step := s.sweepStep st
    let h := (s.slot slot).h
    let s1 := { s with played := mapSet [] s.played (lineKey slot lane y) [] }
    (upTo 32).foldl (fun t b =>
      match s.beamFirst g b with
      | none => t
      | some f =>
        if (t.lane (laneOf g b)).state = .running then
          (upTo 3).foldl (fun t j =>
            let yy := y + 1 - j
            if 1 ≤ y + 1 - j + j ∧ j ≤ y + 1 ∧ yy < h ∧ f ≤ yy ∧ (yy - f) % step = 0 then
              t.modLane (laneOf g b) fun l => l.putWindow slot yy (s.sweepKey slot yy) j px
            else t) t
        else t) s1

/-! Lane programs (R137, R138). -/

/-- The bank holds its three lines, those outside the panel counting as held (R143). -/
def Bank.full (b : Bank) (h : Nat) : Bool :=
  (decide (b.y = 0) || bit b.have_ 0) && bit b.have_ 1 && (decide (h ≤ b.y + 1) || bit b.have_ 2)

/-- Facet f of sweep n, fixed for the sweep (Table 5-6): on from the facet of the last edge, inferred ones counted as one line
position each, by the line positions that W has still to pass (DEDUCED, log 35); 0 where every edge is facet 0 (R207); while facets
are not numbered, the one that the command names. -/
def State.sweepFacet (s : State) (g i n named : Nat) : Nat :=
  if s.flatFacets g then 0 else
  let x := s.scanner g
  let pitch := s.sweepPitch (scannerStation g)
  let last : Option Int := match x.phase with
    | some p => some p.wa
    | none => x.wPrev.map fun v => ratFloor v.1
  match last, x.numbered with
  | some w, true => (((x.facet : Int) + (s.sweepBase i g + pitch * n - (w + pitch * x.inferred) + pitch / 2) / pitch) % (s.facetCount g : Int)).toNat
  | _, _ => named

/-- The last line of panel k that a lane whose first line is f writes at its station, as the order of its sweep; 0 where it writes none. -/
def State.lastKey (s : State) (k f st : Nat) : Nat :=
  let h := (s.slot k).h
  let step := s.sweepStep st
  if h ≤ f then 0 else s.sweepKey k (f + step * ((h - 1 - f) / step))

/-- The program of the lane's previous sweep has ended (R137): every sweep before this one whose line the lane writes has been run, or
is over. -/
def State.previousRan (s : State) (lane slot n f : Nat) : Bool :=
  let g := laneScanner lane
  let st := laneStation lane
  let step := s.sweepStep st
  let last := (s.lane lane).lastRun
  (decide (n = 0) || decide (s.sweepKey slot (f + step * (n - 1)) ≤ last) || !s.sweepOpen g slot (n - 1))
    && (s.slotsWhere SlotState.isCommitted).all fun k =>
      decide ((s.slot slot).order ≤ (s.slot k).order) || !bit (s.slot k).mask st || decide (s.lastKey k f st ≤ last)
        || !s.sweepOpen g k (((s.slot k).h - 1 - f) / step)

/-- PROGRAM_START: the program of sweep n starts at address 0 once the previous one has ended, its code line buffer is
free and its window bank is full. -/
def execProgramStart (lane slot n facet : Nat) (s : State) : State :=
  let g := laneScanner lane
  let st := laneStation lane
  let l := s.lane lane
  let p := s.slot slot
  match s.beamFirst g (lane % 32) with
  | none => s
  | some f =>
    let y := f + s.sweepStep st * n
    let key := s.sweepKey slot y
    let inBank (b : Bank) : Bool := b.busy && decide (b.slot = slot) && decide (b.y = y) && b.full p.h
    let buf := if l.bufSel then l.buf0 else l.buf1
    if lane < 1024 ∧ s.present st ∧ l.state = .running ∧ l.active = false ∧ p.state.isCommitted ∧ bit p.mask st
        ∧ s.scannerUsed g ∧ y < p.h ∧ l.lastRun < key ∧ s.previousRan lane slot n f ∧ buf.busy = false ∧ (inBank l.bank0 ∨ inBank l.bank1) then
      s.modLane lane fun l =>
        let nb : CodeBuf := { slot, n, busy := true }
        let l := { l with
          active := true, pc := 0, stack := [], cycles := 0, slot, y, n, lastRun := key,
          facet := s.sweepFacet g slot n facet,
          bankSel := !inBank l.bank0 }
        if l.bufSel then { l with buf0 := nb, bufSel := false } else { l with buf1 := nb, bufSel := true }
    else s

end Sys2Proof.Machine
end

