-- ==== Sys2Proof/Machine/StoreOps.lean ====
section
/-! DEFINITION. The panel store seen from BAR4, the loss of a channel, the arbiter, the compressor and the codec jobs
(R74, R100 to R103, R109 to R114, R121 to R130). -/

namespace Sys2Proof.Machine

/-! Diagnostic access (R74, R102). -/

/-- Memory channel that holds data byte `a` (R101). -/
def State.channelOf (s : State) (a : Nat) : Nat :=
  if s.channelCount = 2 then a / 4096 % 2 else if s.channelPresent 0 then 0 else 1

/-- A byte of the store's data space; an unlisted byte reads 0. -/
def cellGet : List Host.Cell → Nat → Nat
  | [], _ => 0
  | c :: rest, a => if c.1 = a then c.2.toNat else if a < c.1 then 0 else cellGet rest a

/-- A byte written, in the canonical form: addresses rise, and no entry is 0. -/
def cellSet : List Host.Cell → Nat → Nat → List Host.Cell
  | [], a, v => if BitVec.ofNat 8 v = 0 then [] else [(a, BitVec.ofNat 8 v)]
  | c :: rest, a, v =>
    if a < c.1 then (if BitVec.ofNat 8 v = 0 then c :: rest else (a, BitVec.ofNat 8 v) :: c :: rest)
    else if c.1 = a then (if BitVec.ofNat 8 v = 0 then rest else (a, BitVec.ofNat 8 v) :: rest)
    else c :: cellSet rest a v

/-- Bytes of `v`, written from `a` on. -/
def cellsSet (m : List Host.Cell) (a : Nat) : List Nat → List Host.Cell
  | [] => m
  | b :: bs => cellsSet (cellSet m a b) (a + 1) bs

/-- Every address of the list lies at or above `k`, the addresses rise, and no entry is 0. -/
def cellsAbove : Nat → List Host.Cell → Bool
  | _, [] => true
  | k, c :: rest => decide (k ≤ c.1) && decide (c.2 ≠ 0) && cellsAbove (c.1 + 1) rest

/-- The one canonical form of the store's bytes. -/
def cellsWf (m : List Host.Cell) : Bool := cellsAbove 0 m

/-- Access sizes that the part accepts (R69): 4 and 8 bytes, naturally aligned. -/
def barSizeOk (offset size : Nat) : Bool := (size == 4 || size == 8) && decide (offset % size = 0)

/-- A BAR access of another size or alignment: completed with Unsupported Request, nothing changed (R69). -/
def State.unsupported (s : State) (bar offset size : Nat) : State := s.emit .unsupported bar [offset, size]

/-- The data bytes of a BAR4 read. Raster that the part has stored lies among them, at places the spec does not give, so a byte is a
free value once any has been stored (log 4), but for one that BAR4 has written since. -/
def State.storeBytes (s : State) (offset size : Nat) : List Nat × State :=
  if s.store.rasterIn then
    let (v, t) := s.freeNat
    ((upTo size).map fun k =>
      if s.store.probed.contains (offset + k) then cellGet s.store.cells (offset + k) else v / 256 ^ k % 256, t)
  else ((upTo size).map fun k => cellGet s.store.cells (offset + k), s)

/-! The inline parity sectors (R100). They follow from the data: no command writes or reads them, and R74 keeps them out of
BAR4. -/

/-- Device address of data byte `a` of a channel: each 512-byte group holds seven data sectors and one parity sector (R100). -/
def deviceAddress (a : Nat) : Nat := a / 448 * 512 + a % 448

/-- The 64 bytes of the parity sector of group `g`: a check byte for each of the 56 words of its data sectors, then the group's
8-byte address tag. The spec gives neither code, so both are opaque (log 4). -/
def State.paritySector (s : State) (g : Nat) : List Nat :=
  ((upTo 56).map fun w =>
      Config.checkByte (((upTo 8).map fun k => cellGet s.store.cells (448 * g + 8 * w + k) * 256 ^ k).sum) % 256)
    ++ (upTo 8).map fun k => Config.groupTag g / 256 ^ k % 256

/-- A BAR4 access waits at the port of its channel as a burst of the SUPERVISOR requester of the lead die (R74, R109). -/
def State.supervisorBurst (s : State) (c : Nat) : State :=
  s.modPort c fun p => { p with supervisor := p.supervisor + 1 }

/-- DIAGNOSTIC_STORE_READ (R74): `failure` is 0 for a good read, 1 for a single-bit error, 2 for an uncorrectable one,
whose sector reads all ones. A BAR4 read of another size than R69 accepts completes with Unsupported Request, as on the other
BARs (DESIGN CHOICE, log 4). -/
def execDiagnosticStoreRead (offset size failure : Nat) (s : State) : State :=
  if barSizeOk offset size = false then s.unsupported 4 offset size
  else if s.dataBytes < offset + size then { s with answer := List.replicate size 255 }
  else
    let c := s.channelOf offset
    let (data, s) := (s.supervisorBurst c).storeBytes offset size
    if failure = 0 then { s with answer := data }
    else if failure = 1 then
      ({ s with answer := data, store := { s.store with corrected := wrapInc 32 s.store.corrected } }).raise 0x08 c c 1
    else { s with answer := List.replicate size 255 }.memoryError c

/-- DIAGNOSTIC_STORE_WRITE (R74): any other write is discarded and sets ABSENT_ACCESS. -/
def execDiagnosticStoreWrite (offset size value : Nat) (s : State) : State :=
  if barSizeOk offset size = true ∧ s.tt.state = TTState.idle ∧ s.nmt.state = .preOperational ∧ s.cfg 0x2200 8 = 1
      ∧ s.slotsWhere SlotState.uncommitted = [] ∧ offset + size ≤ s.dataBytes then
    let s := s.supervisorBurst (s.channelOf offset)
    { s with store := { s.store with
        cells := cellsSet s.store.cells offset ((leBytes size value).map (·.toNat))
        probed := if s.store.rasterIn then ((upTo size).map (offset + ·)) ++ s.store.probed else [] } }
  else s.setAbsent

/-- CHANNEL_LOST (R103): the power-good of a rail has failed, or 16 errors have come within one second. -/
def execChannelLost (c : Nat) (s : State) : State := s.loseChannel c

/-! The arbiter (R109 to R114). -/

/-- Requester 8d + c exists. -/
def State.requesterOk (s : State) (r : Nat) : Bool := s.present (r / 8) && decide (r % 8 < classesOf (r / 8))

/-- Credit that a requester began this window with (R109). -/
def State.windowWeight (s : State) (k r : Nat) : Nat := (mapGet none (s.port k).weights r).getD (s.weight (r / 8) (r % 8))

/-- Credit of a requester in this window (R109). -/
def State.credit (s : State) (k r : Nat) : Int := (s.windowWeight k r : Int) - (mapGet 0 (s.port k).spent r : Nat)

/-- Every requester of the present dies with its weight now. -/
def State.weightsNow (s : State) : Map (Option Nat) :=
  s.presentDies.foldl (fun m d => (upTo (classesOf d)).foldl (fun m c => mapSet none m (8 * d + c) (some (s.weight d c))) m) []

/-- The playback decompressor of die d may ask for another burst: its prefetch buffer holds fewer than 2 w (R113). -/
def State.prefetchOpen (s : State) (d : Nat) : Bool := decide (mapGet 0 s.store.prefetch d < 2 * s.weight d 3)

/-- Requester number of BAR4 accesses: SUPERVISOR of the lead die (R74, Table 4-3). -/
def State.barRequester (s : State) : Nat := 8 * s.dies.lead + 5

/-- Who asks at a decision: those named that are not PLAYBACK, every PLAYBACK whose prefetch buffer has room (R113), and BAR4
accesses that wait. -/
def State.asking (s : State) (k : Nat) (pending : List Nat) : List Nat :=
  (pending.filter fun r => decide (r % 8 ≠ 3)) ++ ((s.presentDies.filter s.prefetchOpen).map (8 * · + 3))
    ++ (if (s.port k).supervisor = 0 ∨ pending.contains s.barRequester then [] else [s.barRequester])

/-- Requester a goes before b (R110): more credit, then PLAYBACK, then the lower die, then the lower class. -/
def State.before (s : State) (k a b : Nat) : Bool :=
  if s.credit k a ≠ s.credit k b then decide (s.credit k b < s.credit k a)
  else if decide (a % 8 = 3) ≠ decide (b % 8 = 3) then decide (a % 8 = 3)
  else decide (a < b)

/-- The requester that wins a decision. -/
def State.arbWinner (s : State) (k : Nat) : List Nat → Option Nat
  | [] => none
  | r :: rest => match s.arbWinner k rest with
    | none => some r
    | some w => some (if s.before k r w then r else w)

/-- Dies whose PLAYBACK was short in the window that ends (R114). -/
def State.shortDies (s : State) (k : Nat) : List Nat :=
  s.presentDies.filter fun d =>
    bit (s.port k).asked d && !bit (s.port k).missed d && decide (mapGet 0 (s.port k).spent (8 * d + 3) < s.windowWeight k (8 * d + 3))

/-- A port is short of PLAYBACK bursts (R114). -/
def State.shortPort (s : State) (k : Nat) : State :=
  let s := (s.modPort k fun p => { p with detained := true, shortWindows := wrapInc 32 p.shortWindows }).raise 0x09 k k 1
  s.detainUnit 0x09 k k (codeOf 0x09 k k 1)

/-- The end of a window on one port, and the start of the next with every counter at its weight. -/
def State.endWindow (s : State) (k : Nat) : State :=
  if s.channelPresent k then
    let short := s.shortDies k
    let ws := s.weightsNow
    let s := s.modPort k fun p => { p with weights := ws, spent := [], asked := 0, missed := 0, excluded := [], lastGrant := none }
    if short = [] then s else s.shortPort k
  else s

/-- ARBITER_WINDOW_START (R109): the timebase has come to a multiple of 1,600 ticks. -/
def execArbiterWindowStart (s : State) : State :=
  let s := s.advanceTo ((s.timebase + 1599) / 1600 * 1600)
  (s.endWindow 0).endWindow 1

/-- Marks of one decision: which dies' PLAYBACK asked, and which did not. -/
def Port.decision (p : Port) (dies pending : List Nat) : Port :=
  dies.foldl (fun p d =>
    if pending.contains (8 * d + 3) then { p with asked := setBit p.asked d true }
    else { p with missed := setBit p.missed d true }) p

/-- A burst has been granted to requester r: charged, and taken by what asked for it. -/
def State.grantBurst (s : State) (k r : Nat) : State :=
  let s := s.modPort k fun p => { p with
    spent := mapMod 0 p.spent r (· + 1), lastGrant := some r
    supervisor := if r = s.barRequester then p.supervisor - 1 else p.supervisor }
  if r % 8 = 3 then { s with store := { s.store with prefetch := mapMod 0 s.store.prefetch (r / 8) (· + 1) } } else s

/-- ARBITER_GRANT (R110): `pending` lists the requesters asking. -/
def execArbiterGrant (port : Nat) (pending : List Nat) (s : State) : State :=
  if s.channelPresent port then
    let asking := s.asking port pending
    let ok := asking.filter fun r =>
      s.requesterOk r && !(s.port port).excluded.contains r && (!(s.port port).detained || decide (r % 8 = 3))
    let s := s.modPort port fun p => p.decision s.presentDies asking
    match s.arbWinner port ok with
    | none => s.modPort port fun p => { p with lastGrant := none }
    | some r => s.grantBurst port r
  else s

/-- GRANT_WITHDRAWN (R111). -/
def execGrantWithdrawn (port : Nat) (s : State) : State :=
  match (s.port port).lastGrant with
  | none => s
  | some r =>
    let s := s.modPort port fun p =>
      { p with spent := mapMod 0 p.spent r (· - 1), lastGrant := none, excluded := r :: p.excluded }
    if r % 8 = 3 then { s with store := { s.store with prefetch := mapMod 0 s.store.prefetch (r / 8) (· - 1) } } else s

/-! The compressor (R121 to R123). -/

/-- The compressor of die d is held from its mismatch limit on (R123). -/
def State.holdCompressor (s : State) (d : Nat) : State :=
  (({ s with store := { s.store with compressorHeld := setBit s.store.compressorHeld d true } }).raise 0x0A d 0 2).detainUnit
    0x0A d 0 (codeOf 0x0A d 0 2)

/-- A mismatch of die d's compressor: counted, cause 1, and cause 2 with detention at the limit. -/
def State.mismatch (s : State) (d : Nat) : State :=
  let n := wrapInc 32 (mapGet 0 s.store.mismatches d)
  let s := ({ s with store := { s.store with mismatches := mapSet 0 s.store.mismatches d n } }).raise 0x0A d 0 1
  if s.cfg 0x2330 1 ≤ n ∧ bit s.store.compressorHeld d = false then
    s.holdCompressor d
  else s

/-- The block decodes to these pixels and is no longer than their TYPE 1 form (R121, R122). -/
def blockHolds (block prev prev2 : List Nat) (x : Nat) (px : List Nat) : Bool :=
  match trcBlock block prev prev2 x with
  | some (q, size) => decide (plain q = px) && decide (size = block.length) && decide (size ≤ (trcStored px).length)
  | none => false

/-- COMPRESSOR_BLOCK_EMIT (R121, R122): the next block of the line that a 4-bit raster ring stores: 2,048 pixels, or what is left
of the line. -/
def execCompressorBlockEmit (q : Nat) (block : List Nat) (s : State) : State :=
  match s.compressible q with
  | none => s
  | some h =>
    if s.compressorTurn q = false ∨ bit s.store.compressorHeld (ringDie q) = true ∨ s.intakeStalled = true then s
    else
      let x := s.spanOf (laneScanner (ringLane q))
      let line := fun k => bufferLine 0 x.1 x.2 k h.buf
      let prev := if 1 ≤ h.linesStored then line (h.linesStored - 1) else []
      let prev2 := if 2 ≤ h.linesStored then line (h.linesStored - 2) else []
      let npix := min 2048 (x.2 + 1 - x.1 - h.blockPixels)
      let px := ((line h.linesStored).drop h.blockPixels).take npix
      let good := blockHolds block prev prev2 h.blockPixels px
      let bytes := if good then block else trcStored px
      let s := s.modRing q fun r => { r with head := some { h with
        blocks := h.blocks ++ bytes, blockPixels := h.blockPixels + npix } }
      if good then s else s.mismatch (ringDie q)

/-! Codec jobs (R126 to R130). -/

def jobOutLength (d : Nat) : Nat := bits d 248 224

def jobOutAddr (d : Nat) : Nat := bits d 223 160

def jobLine (d : Nat) : Nat := bits d 142 128

/-- Checks of R126 against the stream of the ring. -/
def State.jobOk (s : State) (q d : Nat) : Bool :=
  let st : Stream := mapGet {} s.store.streams q
  decide (bits d 447 320 = 0) && decide (bits d 255 249 = 0) && decide (bits d 159 143 = 0) && decide (bits d 127 108 = 0)
    && decide (bits d 95 89 = 0) && (decide (descOp d = 0x20) || decide (descOp d = 0x21))
    && decide (jobOutAddr d % 64 = 0) && decide (jobReport d % 16 = 0) && decide (descAddr d % 64 = 0)
    && decide (1 ≤ descLength d) && decide (descLength d ≤ 16777216)
    && decide (1 ≤ jobOutLength d) && decide (jobOutLength d ≤ 16777216)
    && decide (1 ≤ jobLine d) && decide (jobLine d ≤ 20480)
    && (bit d 107 || decide (st.linePixels = jobLine d))
    && (decide (descOp d = 0x21) || decide (descLength d % 64 = 0))

/-- What a job has done so far. -/
structure Job where
  stream : Stream
  /-- Input bytes not yet used, the first from the stream's open block. -/
  input : List Nat
  /-- Bytes of this job's buffer used. -/
  used : Nat
  out : List Nat := []
  blocks : Nat := 0
  mismatches : Nat := 0
  status : Nat := 0
  done : Bool := false
deriving DecidableEq, Repr

/-- Close one line of the stream when its pixels are all there. -/
def Stream.grow (x : Stream) (px : List Nat) : Stream :=
  let cur := x.cur ++ px
  if x.linePixels ≤ cur.length then { x with prev2 := x.prev, prev := cur, cur := [] } else { x with cur }

/-- Use n bytes of the input; bytes carried over from the job before are not bytes of this buffer. -/
def Job.take (j : Job) (n : Nat) : Job :=
  let old := min n j.stream.pendingBytes.length
  { j with input := j.input.drop n, used := j.used + (n - old),
           stream := { j.stream with pendingBytes := j.stream.pendingBytes.drop n } }

/-- One block of a compress job (R121, R128, R129): closed after 2,048 pixels, at the end of a line or at a flush. After as many
mismatches as `allowed` the compressor is in detention, and the job ends there with CODEC_FENCED (R123). -/
def Job.compressBlock (j : Job) (flush : Bool) (limit allowed : Nat) (cand : List Nat) : Job :=
  let x := j.stream
  let left := x.linePixels - x.cur.length
  let n := min 2048 left
  let stride := lineStride 0 0 (x.linePixels - 1)
  let need := if left ≤ 2048 then stride - x.cur.length / 2 else 1024
  let have_ := j.input.length
  if have_ = 0 then { j with done := true }
  else if have_ < need ∧ !flush then
    { j with done := true, used := j.used + (have_ - min have_ x.pendingBytes.length), stream := { x with pendingBytes := j.input }, input := [] }
  else
    let bytes := min need have_
    let px := padTo (min n (2 * bytes)) (unpack4 (j.input.take bytes))
    let good := blockHolds cand x.prev x.prev2 x.cur.length px
    let b := if good then cand else trcStored px
    if limit < j.out.length + b.length then { j with done := true, status := 32 }
    else
      let j := j.take bytes
      let n := j.mismatches + b2n (!good && !cand.isEmpty)
      let held := decide (allowed ≤ n) && decide (j.mismatches < n)
      { j with stream := j.stream.grow px, out := j.out ++ b, blocks := j.blocks + 1, mismatches := n,
               done := j.done || held, status := if held then 33 else j.status }

/-- The blocks that the compressor emits are given; where none is given it emits TYPE 1. -/
def Job.compress (flush : Bool) (limit allowed : Nat) : Nat → List (List Nat) → Job → Job
  | 0, _, j => j
  | fuel + 1, cands, j =>
    if j.done then j else Job.compress flush limit allowed fuel (cands.drop 1) (j.compressBlock flush limit allowed (cands.headD []))

/-- One block of a decompress job (R124, R127 to R129); `mark` is the state at the last line boundary. -/
def Job.decompressStep (j : Job) (limit : Nat) (mark : Job) : Job × Job :=
  let x := j.stream
  let stride := lineStride 0 0 (x.linePixels - 1)
  if j.input.length < 4 ∨ j.input.length < 4 + bits (word4 j.input) 21 11 then
    let n := j.input.length
    ({ j with done := true, used := j.used + (n - min n x.pendingBytes.length), stream := { x with pendingBytes := j.input }, input := [] }, mark)
  else match trcBlock j.input x.prev x.prev2 x.cur.length with
    | none => ({ j with done := true, status := 34 }, mark)
    | some (px, size) =>
      if x.linePixels < x.cur.length + px.length ∨ zTrc x.linePixels < x.size + size then ({ j with done := true, status := 34 }, mark)
      else
        let j1 : Job := { (j.take size) with blocks := j.blocks + 1 }
        let g := j1.stream.grow (plain px)
        let y : Stream := { g with size := if g.cur = [] then 0 else x.size + size }
        if y.cur = [] then
          if limit < j.out.length + stride then ({ mark with done := true, status := 32 }, mark)
          else
            let j2 := { j1 with stream := y, out := j.out ++ padTo stride (pack4 y.prev) }
            (j2, j2)
        else ({ j1 with stream := y }, mark)

def Job.decompress (limit : Nat) : Nat → Job → Job → Job
  | 0, j, _ => j
  | fuel + 1, j, mark => if j.done then j else
      let r := j.decompressStep limit mark
      Job.decompress limit fuel r.1 r.2

/-- The stream that a job starts from. -/
def State.jobStream (s : State) (q d : Nat) : Stream :=
  if bit d 107 then { linePixels := jobLine d } else mapGet {} s.store.streams q

/-- The job that the head of ring q begins, once its buffer has come. -/
def State.jobStart (s : State) (q : Nat) (h : Head) : Job :=
  let st := s.jobStream q h.raw
  { stream := { st with skip := 0 }, input := st.pendingBytes ++ h.buf.drop st.skip, used := min st.skip h.buf.length }

/-- Write the report, the output and the completion of a job, and keep its stream (R129, R130). -/
def State.endJob (s : State) (q d : Nat) (j : Job) : State :=
  let stream := { j.stream with skip := if j.status = 0 then 0 else j.used % 64 }
  let s := { s with store := { s.store with streams := mapSet {} s.store.streams q stream } }
  let s := if j.out = [] then s else s.emit .hostBytes (jobOutAddr d) j.out
  (s.report d j.used j.out.length j.blocks j.mismatches).endHead q j.status

/-- The head of ring q is a codec job with this OP whose buffer is whole. -/
def State.jobReady (s : State) (q op : Nat) : Option Head :=
  match (s.ring q).head with
  | some h => if s.ringKind q = 2 ∧ h.moving ∧ descOp h.raw = op ∧ h.buf.length = descLength h.raw
      ∧ descLength h.raw ≤ h.moved then some h else none
  | none => none

/-- CODEC_COMPRESS_JOB (R127 to R130): `blocks` are the blocks the compressor emits, in order. -/
def execCodecCompressJob (q : Nat) (blocks : List (List Nat)) (s : State) : State :=
  match s.jobReady q 0x20 with
  | none => s
  | some h =>
    if bit s.store.compressorHeld (ringDie q) then (s.report h.raw 0 0 0 0).endHead q 33
    else
      let j0 := s.jobStart q h
      let allowed := s.cfg 0x2330 1 - mapGet 0 s.store.mismatches (ringDie q)
      let j := Job.compress (bit h.raw 106) (jobOutLength h.raw) allowed (j0.input.length + 1) blocks j0
      let s := (upTo j.mismatches).foldl (fun s _ => s.mismatch (ringDie q)) s
      s.endJob q h.raw j

/-- CODEC_DECOMPRESS_JOB (R124, R127 to R130). -/
def execCodecDecompressJob (q : Nat) (s : State) : State :=
  match s.jobReady q 0x21 with
  | none => s
  | some h =>
    let j0 := s.jobStart q h
    s.endJob q h.raw (Job.decompress (jobOutLength h.raw) (j0.input.length + 1) j0 j0)

end Sys2Proof.Machine
end

