-- ==== Sys2Proof/Machine/Law.lean ====
section
/-! DEFINITION. The law of a loop slot, the terms its owner sets, triggers and the two converters (R297 to R310). -/

namespace Sys2Proof.Machine

/-! REAL32 arithmetic: every operation is rounded, and a NaN or an infinity ends the computation (R304, R305). -/

def rAdd (a b : Rat) : Option Rat := realRound (a + b)

def rSub (a b : Rat) : Option Rat := realRound (a - b)

def rMul (a b : Rat) : Option Rat := realRound (a * b)

def rDiv (a b : Rat) : Option Rat := if b = 0 then none else realRound (a / b)

/-- What one computation reads beside the slot (R304). -/
structure LawIn where
  kp : Rat := 0
  ki : Rat := 0
  kd : Rat := 0
  tf : Rat := 0
  lo : Rat := 0
  hi : Rat := 0
  slew : Rat := 0
  /-- ACTION is -1. -/
  minus : Bool := false
  onMeasure : Bool := false
  t : Rat := 0
  setpoint : Rat := 0
  y : Rat := 0
  ff : Rat := 0
  /-- The error before ACTION, where the owner's chapter defines one (R212). -/
  err : Option Rat := none
deriving DecidableEq, Repr

/-- Output limits, then the slew rate from u_prev. -/
def LawIn.limit (x : LawIn) (up w : Rat) : Option Rat :=
  let w := clampR x.lo x.hi w
  if 0 < x.slew then do
    let st ← rMul x.slew x.t
    let a ← rSub up st
    let b ← rAdd up st
    some (clampR a b w)
  else some w

/-- p, then the sum of the terms of the law. -/
def sum4 (p i d ff : Rat) : Option Rat := do
  let a ← rAdd p i
  let b ← rAdd a d
  rAdd b ff

/-- One computation (R304), or the first of a hand-over (R306); none on a NaN or an infinity (R305). -/
def LoopSlot.compute (l : LoopSlot) (x : LawIn) : Option LoopSlot := do
  let act : Rat := if x.minus then -1 else 1
  let e0 ← (match x.err with
    | some e => realRound e
    | none => rSub x.setpoint x.y)
  let e := act * e0
  let p ← rMul x.kp e
  let (i, d, clamped) ← (if l.handover then do
      let q ← rSub l.u p
      let i ← rSub q x.ff
      if l.u < x.lo ∨ x.hi < l.u then
        let q ← rSub (clampR x.lo x.hi l.u) p
        let i ← rSub q x.ff
        some (i, (0 : Rat), true)
      else some (i, 0, false)
    else do
      let ePrev := if l.first then e else l.ePrev
      let yPrev := if l.first then x.y else l.yPrev
      let d0 := if l.first then 0 else l.d
      let dif ← (if x.onMeasure then do let q ← rSub x.y yPrev; some (-(act * q)) else rSub e ePrev)
      let dv ← rDiv dif x.t
      let tt ← rAdd x.tf x.t
      let a ← rDiv x.tf tt
      let ad ← rMul a d0
      let a1 ← rSub 1 a
      let k1 ← rMul a1 x.kd
      let k2 ← rMul k1 dv
      let d ← rAdd ad k2
      let g ← rMul x.ki x.t
      let h ← rMul g e
      let iTry ← rAdd l.i h
      let v ← sum4 p iTry d x.ff
      let w ← x.limit l.u v
      let held := (decide (w < v) && decide (0 < e)) || (decide (v < w) && decide (e < 0))
      some (if held then l.i else iTry, d, l.clamped))
  let u0 ← sum4 p i d x.ff
  let u ← x.limit l.u u0
  some { l with
    first := false, handover := false, clamped, saturated := decide (u ≠ u0), u, e, i, d, ePrev := e, yPrev := x.y }

/-! What a slot is wired to (R298, R300, Table 10-2). -/

/-- Parameter k of bank b: 0 Kp, 1 Ki, 2 Kd, 3 tf, 4 and 5 the limits, 6 slew. -/
def State.bankParam (s : State) (j k : Nat) : Rat :=
  s.cfgReal (0x3200 + j) (10 + 7 * b2n (s.loopSlot j).bank + k)

/-- Modulator clock of a delta-sigma input in Hz; a clock received from the modulator counts as 100 MHz / 4, the highest
the part drives. -/
def State.dsClock (s : State) (i : Nat) : Rat :=
  let v := s.cfg (0x3400 + i / 2) 15
  if bit v 7 then 25000000 else 100000000 / (max 1 (v % 128) : Nat)

/-- Declared rate of a trigger word on die d, per second (R301); chains of kind 6 are at most four slots long. -/
def State.rateOf (s : State) (d : Nat) : Nat → Nat → Rat
  | 0, _ => 0
  | n + 1, w =>
    match bits w 31 28 with
    | 1 => 100000000 / (max 1 (bits w 27 0) : Nat)
    | 2 =>
      let i := 16 * d + bits w 27 20 % 16
      s.dsClock i / ((max 1 (s.cfg (0x3400 + i / 2) 16) * max 1 (bits w 15 0) : Nat) : Rat)
    | 4 => 2000
    | 5 => ((bits (s.cfg (0x3000 + w % 64) 17) 63 48 * 100 : Nat) : Rat)
    | 6 => s.rateOf d n (s.trigWord (64 * d + w % 64))
    | 7 =>
      match s.zones.find? fun kv => decide (zoneDie kv.1 = d) && decide (s.zoneSlot kv.1 = some (64 * d + bits w 27 0)) with
      | some kv => 1000 / (max 1 (s.cfg (0x3500 + kv.1) 10) : Nat)
      | none => 100
    | _ => 0

/-- Declared rate of slot j. -/
def State.declaredRate (s : State) (j : Nat) : Rat :=
  match s.slotOwner j with
  | (.zone, z) => 1000 / (max 1 (s.cfg (0x3500 + z) 10) : Nat)
  | _ => s.rateOf (slotDie j) 5 (s.trigWord j)

/-! Axis quantities. -/

/-- Commanded position of an axis, as reported. -/
def State.axisCommanded (s : State) (a : Nat) : Int := ratFloor (s.axis a).commanded

/-- Actual position: the feedback channel's, or the commanded position without feedback. -/
def State.axisActual (s : State) (a : Nat) : Int :=
  let ch := s.cfg (0x3000 + a) 12
  if ch < 24 then (s.chan ch).position else s.axisCommanded a

/-- Measured velocity of an axis: of its last two counts, or the commanded one without feedback. -/
def State.axisMeasured (s : State) (a : Nat) : Rat :=
  let ch := s.cfg (0x3000 + a) 12
  if ch < 24 then
    let c := s.chan ch
    if c.t1 = c.t0 then 0 else ((c.p1 - c.p0 : Int) : Rat) * (ticksPerS : Rat) / ((c.t1 - c.t0 : Nat) : Rat)
  else s.axisVelocity a

/-- Commanded velocity of an axis with its loops' corrections: the position slot adds its output, and in WEB the web
position loop trims, in line units by the web axis scale (R276, R286, R287). -/
def State.velocityWanted (s : State) (a : Nat) : Rat :=
  let web := if (s.axis a).state = .web ∧ s.transport.target.isSome then
      s.namedOut s.webSlot * (s.cfgI64 0x311F 2 : Rat) / (2 ^ 32 : Nat)
    else 0
  s.axisWanted a + s.namedOut (s.axisSlot a 2) + web

/-- No loop output takes an axis beyond its bound (R277). -/
def State.velocityGoal (s : State) (a : Nat) : Rat := clampR (-(s.axisLimit a)) (s.axisLimit a) (s.velocityWanted a)

/-! A computation (R302, R304). -/

/-- Raw input of slot j as its input word names it. -/
def State.slotInput (s : State) (j : Nat) : Rat :=
  let w := s.inputWord j
  let n := bits w 23 0
  match s.slotOwner j with
  | (.zone, z) => (s.zone z).temp
  | (.transport, _) => (s.w : Rat) / 65536
  | _ =>
    match bits w 31 24 with
    | 1 => (s.loopSlot j).input
    | 2 =>
      if bits (s.trigWord j) 31 28 = 2 ∧ bits (s.trigWord j) 27 20 % 16 = n % 16 then (s.loopSlot j).input
      else (s.dsInput (16 * slotDie j + n % 16)).main
    | 3 => ((s.chan (n % 24)).position : Rat)
    | 4 => s.axisMeasured (n % 64)
    | 5 => (s.loopSlot (64 * slotDie j + n % 64)).u
    | 6 => s.cfgReal (0x3200 + j) 7
    | _ => 0

/-- The power fraction limit of a zone (R320). -/
def State.powerLimit (s : State) (z : Nat) : Rat :=
  ((lower (s.cfg (0x3500 + z) 19) (s.fuse 0x4014 (z + 1)) : Nat) : Rat) / 1024

/-- Output limits that the owner of slot j sets (R212, R298, R313, R320); none for a host slot. No loop output takes an axis beyond its
speed bound (R277); a duty lies between -1 and 1; where a velocity slot feeds a current slot the spec states no limits, and they are free
(log 14). -/
def State.ownerLimits (s : State) (j : Nat) : Option (Rat × Rat) :=
  let both (v : Rat) : Option (Rat × Rat) := some (-v, v)
  match s.slotOwner j with
  | (.host, _) => none
  | (.scanner, g) => both ((s.cfg (0x2900 + g) 17 : Rat) / 65536 * ratAbs (s.loopSlot j).ff)
  | (.axis, a) =>
    match s.axisRole a (j % 64) with
    | 0 => both 1
    | 1 => if (s.axisSlot a 0).isSome then both (Config.slotTop j : Rat) else both 1
    | _ => both (s.axisLimit a)
  | (.transport, _) =>
    let k := s.cfgI64 0x311F 2
    both (if k = 0 then 0 else s.axisLimit (s.cfg 0x311F 1) * (2 ^ 32 : Nat) / ratAbs (k : Rat))
  | (.hv, h) => some (0, if s.cfg (0x3400 + h) 4 = 0 then (s.cfg (0x3400 + h) 7 : Rat) / 1024 else 1)
  | (.zone, z) => some (0, s.powerLimit z)

/-- Setpoint, feed-forward, limits and sign of ACTION of slot j: its owner's, or the host's. -/
def State.ownerTerms (s : State) (j : Nat) : Rat × Rat × Rat × Rat × Bool :=
  let m := bit (s.cfg (0x3200 + j) 3) 1
  let (lo, hi) := (s.ownerLimits j).getD (s.bankParam j 4, s.bankParam j 5)
  match s.slotOwner j with
  | (.host, _) => (s.cfgReal (0x3200 + j) 6, s.cfgReal (0x3200 + j) 8, lo, hi, m)
  | (.scanner, _) => ((s.loopSlot j).setpoint, 0, lo, hi, m)
  | (.axis, a) =>
    match s.axisRole a (j % 64) with
    | 0 => (s.namedOut (s.axisSlot a 1), 0, lo, hi, m)
    | 1 => (s.velocityGoal a, 0, lo, hi, m)
    | 2 => ((s.axisCommanded a : Rat), 0, lo, hi, m)
    | _ => (Config.tensionSetpoint a, 0, lo, hi, m)
  | (.transport, _) => ((s.transport.target.getD s.w : Rat) / 65536, 0, lo, hi, m)
  | (.hv, h) => (s.hvSetpoint h, 0, lo, hi, decide (s.hvSetpoint h < 0))
  | (.zone, z) => ((s.zone z).setpoint, 0, lo, hi, m)

/-- The step t in seconds: from the trigger before, also a missed one, at most ten declared periods. At the first computation since enable
the spec names no trigger before: a free number of ticks, within the same bound. -/
def State.stepTime (s : State) (j t : Nat) : Rat × State :=
  let rate := s.declaredRate j
  let top : Rat := if rate = 0 then 10 else 10 / rate
  match (s.loopSlot j).trigPrev with
  | some p => (min top (((t - p : Nat) : Rat) / (ticksPerS : Rat)), s)
  | none => let (n, s1) := s.freeNat; (min top (((n + 1 : Nat) : Rat) / (ticksPerS : Rat)), s1)

/-- The terms of one computation of slot j for the trigger t, with input y already scaled; what the owner gives is rounded to REAL32,
as all arithmetic of the law is (R304). -/
def State.lawIn (s : State) (j : Nat) (dt y : Rat) : LawIn :=
  let (sp, ff, lo, hi, minus) := s.ownerTerms j
  let r (q : Rat) : Rat := realOr0 (realOf q)
  { kp := s.bankParam j 0, ki := s.bankParam j 1, kd := s.bankParam j 2, tf := s.bankParam j 3, lo := r lo, hi := r hi
    slew := s.bankParam j 6, minus, onMeasure := bit (s.cfg (0x3200 + j) 3) 0, t := r dt, setpoint := r sp, y, ff := r ff }

/-- Slots that wait for the completion of slot j become due (kind 6). -/
def State.chainDue (s : State) (j : Nat) : State :=
  (s.slotsL.map (·.1)).foldl (fun s k =>
    if slotDie k = slotDie j ∧ (s.loopSlot k).enabled ∧ bits (s.trigWord k) 31 28 = 6 ∧ s.trigWord k % 64 = j % 64 then
      s.modLoop k fun l => { l with due := true }
    else s) s

/-- Frequency of the gates of an HV channel in Hz, and the duty of each that it drives, from the slot's output (R313); the duty is
rounded down to 1/1,024. -/
def State.hvDrive (s : State) (h : Nat) : Rat × Rat :=
  let u := s.namedOut (s.hvSlot h)
  let c := fun k => s.cfg (0x3400 + h) k
  if c 4 = 0 then ((c 5 : Rat), (ratFloor (u * 1024) : Rat) / 1024)
  else
    let f := (c 6 : Rat) - u * ((c 6 : Rat) - (c 5 : Rat))
    (f, 1 / 2 - (c 8 : Rat) / 1000000000 * f)

/-- The gates of an HV channel take the frequency and duty of the slot's output (R313). -/
def State.driveHv (s : State) (h : Nat) : State :=
  s.modHv h fun x => { x with freq := (s.hvDrive h).1, duty := (s.hvDrive h).2 }

/-- The speed bound of an axis acts on the loops: on the velocity command with their corrections, or on the output of slot j (R277). -/
def State.boundActs (s : State) (a j : Nat) : Bool :=
  decide (s.velocityGoal a ≠ s.velocityWanted a)
    || ((s.loopSlot j).saturated && match s.ownerLimits j with
      | some (lo, hi) => decide ((s.loopSlot j).u = realOr0 (realOf lo)) || decide ((s.loopSlot j).u = realOr0 (realOf hi))
      | none => false)

/-- SPEED_CLAMPED is set where the bound acts on a loop output of axis a (R277). -/
def State.noteClamp (s : State) (a j : Nat) : State :=
  if s.boundActs a j then s.modAxis a fun x => { x with clamped := true } else s

/-- What the new output of slot j changes at its owner: an HV channel's gates, SPEED_CLAMPED of an axis, or a tension axis's velocity
(R277, R285, R313). -/
def State.applyOutput (s : State) (j : Nat) : State :=
  match s.slotOwner j with
  | (.hv, h) => s.driveHv h
  | (.axis, a) =>
    let s := if s.axisRole a (j % 64) = 0 ∨ (s.axisRole a (j % 64) = 1 ∧ s.velocityGoal a = s.velocityWanted a) then s else s.noteClamp a j
    if s.axisRole a (j % 64) = 3 ∧ (s.axis a).state = .tension then s.tensionFollow a else s
  | (.transport, _) => s.noteClamp (s.cfg 0x311F 1) j
  | _ => s

/-- Run the law of slot j with these terms; a result that is not finite detains the slot (R305). -/
def State.applyLaw (s : State) (j t : Nat) (x : LawIn) : State :=
  match (s.loopSlot j).compute x with
  | none => (s.modLoop j fun l => { l with trigger := none, waiting := false }).raiseSlot j 2
  | some l => ((s.modLoop j fun _ => { l with trigPrev := some t, trigger := none, waiting := false }).applyOutput j).chainDue j

/-- A computation is ready: triggered, and its input has come (R302). -/
def State.slotReady (s : State) (j : Nat) : Bool :=
  let l := s.loopSlot j
  l.enabled && l.trigger.isSome && !l.waiting

/-- Deadline of a triggered computation: the next trigger instant, at the declared rate (R302). -/
def State.deadline (s : State) (j : Nat) : Rat :=
  let rate := s.declaredRate j
  ((s.loopSlot j).trigger.getD 0 : Rat) + if rate = 0 then 10 * (ticksPerS : Rat) else (ticksPerS : Rat) / rate

/-- Slot j is the one that the engine of its die runs next: ready, and no ready slot has an earlier deadline (R302); between equal
deadlines the lower number (DESIGN CHOICE, log 15). -/
def State.engineRuns (s : State) (j : Nat) : Bool :=
  s.slotReady j && s.slotsL.all fun kv =>
    decide (slotDie kv.1 ≠ slotDie j) || !s.slotReady kv.1 || decide (s.deadline j < s.deadline kv.1)
      || (decide (s.deadline j = s.deadline kv.1) && decide (j ≤ kv.1))

/-- LOOP_COMPUTATION (R302, R304): the engine runs the ready computation of the earliest deadline, in 160 ticks; it applies the output
at their end. -/
def execLoopComputation (j : Nat) (s : State) : State :=
  match (s.loopSlot j).trigger with
  | none => s
  | some t =>
    if s.engineRuns j ∧ s.slotPresent j then
      let s := s.advanceTo (t + 160)
      match rMul (realOr0 (realOf (s.slotInput j))) (s.cfgReal (0x3200 + j) 9) with
      | none => (s.modLoop j fun l => { l with trigger := none }).raiseSlot j 2
      | some y =>
        let (dt, s1) := s.stepTime j t
        s1.applyLaw j t (s1.lawIn j dt y)
    else s

/-! Converters (R308 to R310). -/

def State.conv (s : State) (c : Nat) : Converter := if c = 0 then s.conv0 else s.conv1

def State.setConv (s : State) (c : Nat) (x : Converter) : State := if c = 0 then { s with conv0 := x } else { s with conv1 := x }

/-- Order of R309: shunts, slots, zones, then supplies, each by number; a zone's cold junction after its sensor. -/
def ConvUser.key : ConvUser → Nat
  | .shunt a => a
  | .slot j => 1024 + j
  | .zone z cold => 2048 + 2 * z + b2n cold
  | .supply a => 4096 + a

def insertUser (u : ConvUser × Nat) : List (ConvUser × Nat) → List (ConvUser × Nat)
  | [] => [u]
  | x :: xs => if u.1.key < x.1.key then u :: x :: xs else x :: insertUser u xs

/-- A deadline missed (R303). -/
def State.missSlot (s : State) (j : Nat) : State :=
  (s.modLoop j fun l =>
    { l with missed := true, misses := wrapInc 32 l.misses, trigPrev := l.trigger.or l.trigPrev, trigger := none, waiting := false }).raiseSlot j 1

/-- A zone that heats: WARMUP, REGULATE or SETBACK. -/
def State.zoneLive (s : State) (z : Nat) : Bool :=
  decide ((s.zone z).state ≠ .off) && decide ((s.zone z).state ≠ .detained)

/-- The zone's sample triggers its slot (kind 7), with the temperature it holds. -/
def State.zoneDue (s : State) (z : Nat) : State :=
  s.modNamed (s.zoneSlot z) fun l => { l with due := l.enabled }

/-- One more bad sample of a zone (R321): the temperature is held, and the third in a row detains a heating zone with
cause 3. -/
def State.zoneBad (s : State) (z : Nat) : State :=
  let s := s.modZone z fun x => { x with bad := x.bad + 1, sampling := false, code := none, cold := none }
  if 3 ≤ (s.zone z).bad ∧ s.zoneLive z then s.raiseZone z 3 else s.zoneDue z

/-- A request that the converter drops (R310): the overrun counts in the slot that the user feeds; a current loop keeps its last
input. A sample of two conversions counts as one bad sample, whichever of them is dropped (R321). -/
def State.dropUser (s : State) : ConvUser → State
  | .shunt a => s.modNamed (s.axisSlot a 0) fun l => { l with overruns := wrapInc 32 l.overruns, waiting := false }
  | .slot j => (s.modLoop j fun l => { l with overruns := wrapInc 32 l.overruns }).missSlot j
  | .zone z _ =>
    let s := s.modNamed (s.zoneSlot z) fun l => { l with overruns := wrapInc 32 l.overruns }
    if (s.zone z).sampling then s.zoneBad z else s
  | .supply _ => s

/-- Request a conversion of AIN n for a user: it joins the sequence of the same SYSCLK cycle (2 ticks), in the order of R309; the
conversion that then is the ninth is dropped. -/
def State.request (s : State) (u : ConvUser) (n : Nat) : State :=
  let c := n / 8 % 2
  let x := s.conv c
  if s.present c = false then (match u with
    | .zone z _ => s.zoneBad z
    | _ => s)
  else if x.running = [] then s.setConv c { running := [(u, n)], cycle := s.timebase / 2, finished := 0, size := 1 }
  else if x.cycle = s.timebase / 2 ∧ x.finished = 0 then
    let all := insertUser (u, n) x.running
    match all.drop 8 with
    | [] => s.setConv c { x with running := all, size := all.length }
    | y :: _ => (s.setConv c { x with running := all.take 8, size := 8 }).dropUser y.1
  else s.dropUser u

/-! Triggers (R300, R303). -/

/-- A trigger of slot j now: an unfinished computation has missed its deadline; an AIN input is converted first. -/
def State.triggerSlot (s : State) (j : Nat) : State :=
  let l := s.loopSlot j
  let s := if l.trigger.isSome then s.missSlot j else s
  let w := s.inputWord j
  let ain := decide (bits w 31 24 = 1)
  let s := s.modLoop j fun l => { l with trigger := some s.timebase, waiting := ain, due := false }
  if ain then s.request (.slot j) (bits w 23 0 % 16) else s

/-- LOOP_TRIGGER (R300): a timer trigger comes at its period; a trigger of another kind once its cause has come. -/
def execLoopTrigger (j : Nat) (s : State) : State :=
  let l := s.loopSlot j
  if s.slotPresent j = false ∨ l.enabled = false then s
  else
    let w := s.trigWord j
    match bits w 31 28 with
    | 1 =>
      let last := match l.trigger with
        | some t => some t
        | none => l.trigPrev
      (match last with
        | some t => s.advanceTo (t + bits w 27 0 * 16)
        | none => s).triggerSlot j
    | 0 => s
    | 4 => s
    | _ => if l.due then s.triggerSlot j else s

/-! Slot commands (R307). -/

/-- Checks shared by the slot commands. -/
def State.hostSlot (s : State) (j : Nat) : Except Abort Unit := do
  need (s.slotPresent j) .noSuchUnit
  need (decide ((s.slotOwner j).1 = .host)) .state

/-- Sum of the declared rates of a die's enabled slots. -/
def State.rateSum (s : State) (d : Nat) : Rat :=
  ((s.slotsL.filter fun kv => decide (slotDie kv.1 = d) && kv.2.enabled).map fun kv => s.declaredRate kv.1).sum

/-- Length of the chain of kind 6 that ends at slot j; 5 where it is longer than four or returns to itself (R301). -/
def State.chainLength (s : State) (j : Nat) : Nat → Nat
  | 0 => 5
  | n + 1 =>
    let w := s.trigWord j
    if bits w 31 28 = 6 then 1 + s.chainLength (64 * slotDie j + w % 64) n else 1

/-- The rates of die d hold R301. -/
def State.ratesOk (s : State) (d : Nat) : Bool :=
  decide (s.rateSum d ≤ 8000000)
    && s.slotsL.all fun kv => !(decide (slotDie kv.1 = d) && kv.2.enabled) || decide (s.declaredRate kv.1 ≤ 100000)

/-- A slot whose detention ended is at rest: nothing in detention is enabled. -/
def State.slotHeld (s : State) (j : Nat) : Bool := s.inDetention (codeOf 0x20 (slotDie j) (j % 64) 0)

def opSlotEnable (j : Nat) (s : State) : Except Abort State := do
  s.hostSlot j
  let s1 := (s.undetain 0x20 (slotDie j) (j % 64)).modLoop j fun l => l.start l.bank
  need (s1.ratesOk (slotDie j)) .invalid
  .ok s1.errorReset

/-- SLOT_ENABLE (R307): the slot starts anew, on the bank selected. -/
def execSlotEnable (j : Nat) (s : State) : State := command (0x3200 + j) (opSlotEnable j) s

def opSlotDisable (j : Nat) (s : State) : Except Abort State := do
  s.hostSlot j
  .ok ((s.undetain 0x20 (slotDie j) (j % 64)).modLoop j LoopSlot.stop).errorReset

/-- SLOT_DISABLE (R307). -/
def execSlotDisable (j : Nat) (s : State) : State := command (0x3200 + j) (opSlotDisable j) s

def opSlotBank (j : Nat) (bank : Bool) (s : State) : Except Abort State := do
  s.hostSlot j
  .ok (s.modLoop j fun l => l.handTo bank)

/-- SLOT_SELECT_BANK0 (R306). -/
def execSlotSelectBank0 (j : Nat) (s : State) : State := command (0x3200 + j) (opSlotBank j false) s

/-- SLOT_SELECT_BANK1 (R306). -/
def execSlotSelectBank1 (j : Nat) (s : State) : State := command (0x3200 + j) (opSlotBank j true) s

def opSlotClearFlags (j : Nat) (s : State) : Except Abort State := do
  s.hostSlot j
  .ok (s.modLoop j fun l => { l with missed := false })

/-- SLOT_CLEAR_FLAGS (R307). -/
def execSlotClearFlags (j : Nat) (s : State) : State := command (0x3200 + j) (opSlotClearFlags j) s

end Sys2Proof.Machine
end

