-- ==== Sys2Proof/Machine/Timetable.lean ====
section
/-! DEFINITION. The commands and events of the timetable: geometry writes, declaration and commit of panels, bells,
the phases of the seamless halt, RUN, HALT and END (R18, R20, R32 to R51, R61, R66, R431). -/

namespace Sys2Proof.Machine

/-! Geometry writes (R18, R20, R27). -/

def State.preop (s : State) : Bool := decide (s.nmt.state = .preOperational)

def State.ttIdle (s : State) : Bool := decide (s.tt.state = .idle)

/-- A write of 0x2180:1 to 3 that leaves W where it is (R18). -/
def State.rebasedWrite (s : State) (sub v : Nat) : State := (s.setCfg 0x2180 sub v).rebase

/-- MASTER_WEB_ENCODER_WRITE: W freezes or follows with the state of the new channel, whose counts the rest test now judges;
a frozen W is no longer aligned (R21, R368). -/
def opMasterWebEncoderWrite (v : Nat) (s : State) : Except Abort State := do
  need s.preop .state
  need (decide (v < 24)) .invalid
  need (s.chanPresent v) .noSuchUnit
  let s := s.rebasedWrite 1 v
  let frozen := decide ((s.chan v).state = .error)
  .ok { s with web := { s.web with frozen }, haling := { s.haling with aligned := s.haling.aligned && !frozen } }

def execMasterWebEncoderWrite (v : Nat) (s : State) : State := command 0x2180 (opMasterWebEncoderWrite v) s

/-- WEB_SCALE_WRITE. -/
def opWebScaleWrite (v : Nat) (s : State) : Except Abort State := do
  need s.preop .state
  need (decide (v < 2 ^ 64)) .invalid
  .ok (s.rebasedWrite 2 v)

def execWebScaleWrite (v : Nat) (s : State) : State := command 0x2180 (opWebScaleWrite v) s

/-- WEB_DIRECTION_WRITE. -/
def opWebDirectionWrite (v : Nat) (s : State) : Except Abort State := do
  need s.preop .state
  need (decide (v ≤ 1)) .invalid
  .ok (s.rebasedWrite 3 v)

def execWebDirectionWrite (v : Nat) (s : State) : State := command 0x2180 (opWebDirectionWrite v) s

/-- The value is a Q47.16 image. -/
def fitsI64 (w : Int) : Bool := decide (-(2 ^ 63) ≤ w) && decide (w < 2 ^ 63)

/-- WEB_POSITION_PRESET (R20): a jump. -/
def opWebPositionPreset (w : Int) (s : State) : Except Abort State := do
  need (s.preop && s.ttIdle && s.webQuiet) .state
  need (fitsI64 w) .invalid
  .ok (s.jumpTo w)

def execWebPositionPreset (w : Int) (s : State) : State := command 0x2180 (opWebPositionPreset w) s

/-- NEXT_ORIGIN_WRITE (R33): a write begins a new job. -/
def opNextOriginWrite (w : Int) (s : State) : Except Abort State := do
  need (s.ttIdle && decide (s.slotsWhere SlotState.uncommitted = [])) .state
  need (fitsI64 w) .invalid
  .ok { s with tt := { s.tt with nextOrigin := w, last := none } }

def execNextOriginWrite (w : Int) (s : State) : State := command 0x2101 (opNextOriginWrite w) s

/-! Declaration, withdrawal and store (R32 to R36). -/

/-- A panel may be declared in, and its slot reused from, these states. -/
def SlotState.open_ : SlotState → Bool
  | .free => true
  | .complete => true
  | .withdrawn => true
  | .incomplete => true
  | _ => false

/-- The station is open to declarations (R32 check 4). -/
def State.stationOpen (s : State) (st : Nat) : Bool :=
  decide ((s.station st).band ≠ 2) && decide ((s.stitch st).mismatch = 0)
    && ((s.usedScanners st).all fun g => decide ((s.scanner g).state ≠ .off) && decide ((s.scanner g).state ≠ .detained))
    && ((s.usedLanes st).all fun l => (s.beamFirst (laneScanner l) (l % 32)).isNone || decide ((s.lane l).state = .running))

/-- Every panel declared before slot i has been granted, and the free store holds it (R36). -/
def State.grantable (s : State) (i : Nat) : Bool :=
  let p := s.slot i
  p.state.uncommitted && !p.granted
    && ((s.slotsWhere SlotState.uncommitted).all fun k => decide (p.order ≤ (s.slot k).order) || (s.slot k).granted)
    && decide (p.shares.sum + s.reservedRaster ≤ s.usableStore)

/-- Grant the reservation of slot i where it can be granted. -/
def State.tryGrant (s : State) (i : Nat) : State :=
  if s.grantable i then (s.modSlot i fun p => { p with granted := true }).wakeRings i else s

/-- STORE_GRANT (R36). -/
def execStoreGrant (slot : Nat) (s : State) : State := s.tryGrant slot

/-- DECLARE (R32). -/
def opDeclare (i : Nat) (s : State) : Except Abort State := do
  need (decide (i < 32)) .noObject
  let seq := s.cfg (0x2110 + i) 1
  let h := s.cfg (0x2110 + i) 2
  let g := s.cfg (0x2110 + i) 3
  let mask := s.cfg (0x2110 + i) 4
  need (s.slot i).state.open_ .state
  need ((maskStations mask).all s.present) .noSuchUnit
  need (decide (1 ≤ h) && decide (h ≤ s.cfg 0x2100 8) && decide ((h + g) % 32 = 0) && decide (g ≤ 16777216)
    && decide (mask ≠ 0)
    && (match s.tt.last with
      | some l => decide (seq = wrapInc 32 l.seq)
      | none => true)) .invalid
  need ((maskStations mask).all s.stationOpen) .state
  let origin := match s.tt.last with
    | some l => l.origin + lu (l.h + l.g)
    | none => s.tt.nextOrigin
  let s1 := s.modSlot i fun _ =>
    { seq, h, g, mask, state := .declared, origin, order := s.tt.nextOrder, prev := s.tt.last
      shares := s.sharesOf mask h }
  let s1 := { s1 with
    lines := s1.lines.filter fun kv => decide (kv.1 / 2 ^ 34 ≠ i)
    tt := { s1.tt with last := some { seq, origin, h, g }, nextOrder := s1.tt.nextOrder + 1 } }
  .ok (s1.tryGrant i).settleRest

def execDeclare (slot : Nat) (s : State) : State := command (0x2110 + slot) (opDeclare slot) s

/-- WITHDRAW (R34): this panel and every panel declared after it. -/
def opWithdraw (i : Nat) (s : State) : Except Abort State := do
  need (decide (i < 32)) .noObject
  let p := s.slot i
  need p.state.uncommitted .state
  .ok (s.withdrawPanels ((s.slotsWhere SlotState.uncommitted).filter fun k => decide (p.order ≤ (s.slot k).order))).settleRest

def execWithdraw (slot : Nat) (s : State) : State := command (0x2110 + slot) (opWithdraw slot) s

/-! Commit (R38, R40, R66). -/

/-- Commits are held (R51, R57, R364, R409, R447). -/
def State.commitsHeld (s : State) : Bool :=
  s.tt.holdHalt || s.tt.holdLink || s.tt.holdBeam || s.dies.moving || decide (s.nmt.pending ≠ .none)

/-- Panels commit in these states (R38). -/
def TTState.commits : TTState → Bool
  | .running => true
  | .reversing => true
  | .waiting => true
  | .restarting => true
  | _ => false

/-- The commit conditions of R38 for slot i. -/
def State.commitable (s : State) (i : Nat) : Bool :=
  let p := s.slot i
  decide (p.state = .resident) && decide (s.firstUncommitted = some i) && !s.commitsHeld
    && s.tt.state.commits
    && (decide (s.tt.state = .reversing) || decide (s.tt.state = .waiting) || (decide (s.w < s.deadlineAt i) && !p.late))
    && ((maskStations p.mask).all fun st => s.present st && decide ((s.station st).band ≠ 2))
    && (!s.inGroup || p.commitMsg)

/-- The slot of the panel declared before panel i in its job. -/
def State.slotBefore (s : State) (i : Nat) : Option Nat :=
  match (s.slot i).prev with
  | none => none
  | some d => (upTo 32).find? fun k => decide (k ≠ i) && decide ((s.slot k).seq = d.seq) && decide ((s.slot k).origin = d.origin)
      && decide ((s.slot k).order < (s.slot i).order) && decide ((s.slot k).state ≠ .free)

/-- Origins of panel i and of every later declared panel, moved by d. -/
def State.shiftOrigins (s : State) (i : Nat) (d : Int) : State :=
  let o := (s.slot i).order
  let shift (x : Declared) : Declared := { x with origin := x.origin + d }
  let s1 := (s.slotsWhere SlotState.uncommitted).foldl (fun s k =>
    if o ≤ (s.slot k).order then
      s.modSlot k fun p => { p with origin := p.origin + d, prev := if o < p.order then p.prev.map shift else p.prev }
    else s) s
  { s1 with tt := { s1.tt with last := s1.tt.last.map shift } }

/-- LEGACY: the gap before panel i grows so that the web need not reverse (R66 steps 4 to 6); the object of the panel before it
shows it while a slot still holds that panel. The run-up is rounded up, so that W_p does not lie below the exact bound. -/
def State.legacyGap (s : State) (i : Nat) : State :=
  match (s.slot i).prev with
  | none => s
  | some d =>
    let vr := s.tt.vr
    let want := s.tt.wstop - (s.firstBell i - (s.slot i).origin) - ratPos (-(vr * vr / (2 * s.cfgReal 0x2100 6)))
      + lu (s.cfg 0x2100 3) + lu (s.cfg 0x2100 4)
    let short := want - (s.slot i).origin
    if short ≤ 0 then s
    else
      let blocks := -((-short) / (32 * 65536))
      let g := d.g + 32 * blocks.toNat
      let k := s.slotBefore i
      let s := (s.shiftOrigins i (blocks * 32 * 65536)).modSlot i fun p => { p with prev := some { d with g } }
      let s := match k with
        | some k => (s.modSlot k fun p => { p with g }).setCfg (0x2110 + k) 3 g
        | none => s
      s.postLead 5 d.seq g

/-- Commit panel i (Table 2-1, R38). -/
def State.commitPanel (s : State) (i : Nat) : State :=
  let s := if s.tt.legacyStop then s.legacyGap i else s
  let s := s.endTransfers i
  let s := { s with blends := s.blends.filter fun kv => decide (kv.1 / (1024 * 2 ^ 24) ≠ i) }
  let seq := (s.slot i).seq
  let s := s.modSlot i fun p => { p with
    state := .committed
    late := false
    tone := (upTo 8).map fun st => (s.tone st).current
    toneGen := (upTo 8).map fun st => (s.tone st).gen }
  let s := { s with tt := { s.tt with lastCommitted := seq } }
  (((s.postLead 1 seq 0).cmpBells i).zonesResume).legacyNip

/-- COMMIT (R38). -/
def execCommit (slot : Nat) (s : State) : State := if s.commitable slot then s.commitPanel slot else s

/-- COMMIT_DEADLINE (R40): W has reached C_p while p is uncommitted. -/
def execCommitDeadline (slot : Nat) (s : State) : State :=
  let p := s.slot slot
  if p.state.uncommitted = true ∧ (s.tt.state = TTState.running ∨ s.tt.state = TTState.restarting) ∧ s.deadlineAt slot ≤ s.w ∧ p.late = false then
    (s.modSlot slot fun p => { p with late := true }).declareHalt true
  else s

/-! Bells (R41, R431, R447). -/

/-- The thermal ceiling at the first bell of a panel (R431). -/
def State.thermalAtBell (s : State) : State :=
  let hot := s.presentDies.filter fun d => (s.heat d).request
  if hot ≠ [] then
    let c := realOf (max (s.cfgReal 0x4220 4) (s.runningSpeed * 3 / 4))
    hot.foldl (fun s d => s.postEvent d 0x0300 d c) { s with thermalCeiling := c }
  else if s.thermalCeiling ≠ 0 ∧ s.presentDies.all fun d => (match (s.heat d).coolSince with
      | some t => decide (t + 10 * ticksPerS ≤ s.timebase)
      | none => false) then { s with thermalCeiling := 0 }
  else s

/-- The lanes that wait for this bell flip, and the request counts as made at this station once (R191, R192). -/
def State.flipStation (s : State) (r st : Nat) (newFrom : Option Nat) : State :=
  let q := s.flipReq r
  let hit := fun (l : Nat) (x : Lane) => decide (l / 128 = st) && decide (x.flipReq = r) && decide (x.draftState = .pending)
  if s.lanes.any fun kv => hit kv.1 kv.2 then
    let first := decide (q.made = 0)
    { s with
      lanes := mapEach {} s.lanes fun l x =>
        if hit l x then { x with slate := x.draft, draft := x.slate, draftState := .copying, flips := x.flips + 1,
                                 newFrom, flipReq := 0 }
        else x
      flips := { s.flips with
        performed := if first then wrapInc 32 s.flips.performed else s.flips.performed
        requests := mapSet {} s.flips.requests r { q with made := setBit q.made st true } } }
  else s

/-- Flips named for the bell of a panel at a station: the first panel at or after SEQ whose mask names it (R191). -/
def State.flipsAtBell (s : State) (seq st : Nat) : State :=
  s.pendingReqs.foldl (fun s r =>
    let q := s.flipReq r
    if q.when_ = 1 ∧ (q.seq = seq ∨ follows32 seq q.seq) then s.flipStation r st (some seq) else s) s

/-- The first bell of a panel (Table 2-2, R37). -/
def State.firstBellRings (s : State) (i : Nat) : State :=
  let s := (s.modSlot i fun p => { p with state := .exposing }).thermalAtBell
  let s := if s.tt.state = TTState.restarting then (s.enterTT .running).webRunning
    else if s.tt.state = TTState.running then s.webFollow else s
  if s.tt.state = TTState.running ∧ s.nmt.pending ≠ .none then s.beginEnding else s

/-- BELL (R41, Table 15-14): W reaches B of the panel at a station. A web that goes back or waits has still to reach it forward. -/
def execBell (slot st : Nat) (s : State) : State :=
  let p := s.slot slot
  if p.state.isCommitted ∧ st < 8 ∧ bit p.mask st ∧ !bit p.rung st ∧ !bit p.fencedStations st ∧ s.present st
      ∧ s.bellAt slot st ≤ s.w ∧ s.tt.state ≠ TTState.reversing ∧ s.tt.state ≠ TTState.waiting then
    let s := s.modSlot slot fun p => { p with rung := setBit p.rung st true }
    let s := if p.state = .committed then s.firstBellRings slot else s
    let s := s.modStation st fun x => { x with current := some slot }
    ((s.traceEntry 4 (st * 2 ^ 13 + p.seq % 2 ^ 13)).postLead 2 p.seq st).flipsAtBell p.seq st
  else s

/-! The halt (R43 to R50). -/

/-- This part drives the timetable's phases: standalone, homeroom, or the owner of the web (R379). -/
def State.leadsPhases (s : State) : Bool := s.isHomeroom || s.webAxis.isSome

/-- DECELERATION_START (R44). -/
def execDecelerationStart (s : State) : State := s.checkDeceleration

/-- The web is at rest: geared axes come to rest at their target (R283). -/
def State.atRest (s : State) : State :=
  ({ s with web := { s.web with moving := false, speed := 0, winAt := s.timebase, winW := s.w } }).gearsRest

/-- WEB_AT_REST (R45, R51). -/
def execWebAtRest (s : State) : State :=
  let s := s.atRest
  match s.tt.state with
  | .halting =>
    if s.tt.decelerating && s.leadsPhases then s.beginReverse else ({ s with tt := { s.tt with wstop := s.w } }).ownRest
  | .ending => if s.tt.decelerating && s.leadsPhases then s.enterIdle else s
  | .stopped => if s.tt.endPending then s.enterIdle else s
  | _ => s

/-- The web stands within ±U of W_rest (R46). -/
def State.restInBand (s : State) : Bool := decide (((s.w - s.tt.wrest).natAbs : Int) ≤ lu (s.cfg 0x2100 4))

/-- A corrective move at v_b / 8 towards W_rest (R46). -/
def State.correctiveMove (s : State) : State :=
  let s := { s with tt := { s.tt with corrective := .moving } }
  s.webMove s.tt.wrest (s.cfgReal 0x2100 7 / 8)

/-- REVERSE_COMPLETE (R46). -/
def execReverseComplete (s : State) : State :=
  if s.tt.state = .reversing ∧ s.tt.corrective = .none then
    let s := s.atRest
    if s.restInBand ∨ s.tt.restKnown = false then (s.enterTT .waiting).webHold s.tt.wrest else s.correctiveMove
  else s

/-- CORRECTIVE_MOVE_DONE (R46). -/
def execCorrectiveMoveDone (s : State) : State :=
  if s.tt.corrective = .moving then
    let s := s.atRest
    let ok := s.restInBand
    let s := { s with tt := { s.tt with corrective := if ok then .none else .failed } }
    let s := if s.tt.state = .reversing then s.enterTT .waiting else s
    let s := s.webHold s.tt.wrest
    if ok then s
    else match s.webAxis with
      | some a => s.raiseAxis a 5
      | none => s
  else s

/-- A scanner runs in speed hold within the pull range at v_r / Λ (R46). -/
def State.scannerReady (s : State) (g : Nat) : Bool :=
  let v := s.tt.vr / (s.lambda (scannerStation g) : Rat)
  decide ((s.scanner g).state = .speedHold) && s.facetMeasured g
    && decide (ratAbs (s.facetRate g - v) ≤ (s.cfg (0x2900 + g) 17 : Rat) / 65536 * v)

/-- Restart readiness of this part for the panel of slot i (R46). -/
def State.restartReady (s : State) (i : Nat) : Bool :=
  decide ((s.slot i).state = .committed) && s.zonesInBand
    && (maskStations (s.slot i).mask).all fun st => !s.present st || (s.usedScanners st).all s.scannerReady

/-- Every other member of the census has reported restart readiness. -/
def State.membersReady (s : State) : Bool :=
  !s.inGroup || s.haling.census.all fun seat => decide (seat = s.seat) || (s.peer seat).restart

/-- The mark that will correct the seam: the latest latched crossing in the window of R49. -/
def State.chooseMark (s : State) (i : Nat) : Option Int :=
  s.tt.marks.find? fun m =>
    decide (s.tt.wrest + lu (s.cfg 0x2100 4) ≤ m) && decide (m ≤ s.firstBell i - lu (s.cfg 0x2100 3))

/-- RESTARTING begins (Table 2-2, R46, R49). -/
def State.beginRestart (s : State) (i : Nat) : State :=
  let marks := bit (s.cfg 0x2100 10) 7
  let m := if marks then s.chooseMark i else none
  let s := if marks ∧ m = none then s.flagSlot i 3 else s
  let s := { s with tt := { s.tt with chosenMark := m, reached := false } }
  let s := s.legacyNip
  ((s.enterTT .restarting).webRunUp s.tt.vr).hvToRun

/-- RESTART (R46): the part leaves WAITING. A hold by HALT ends only with RUN, but for the restart that a deferred NMT
transition asks for (R447). -/
def execRestart (s : State) : State :=
  match s.nextPanel with
  | none => s
  | some i =>
    if s.tt.state = .waiting ∧ s.tt.corrective = .none ∧ s.leadsPhases ∧ s.restartReady i ∧ s.membersReady
        ∧ (s.tt.holdHalt = false ∨ s.nmt.pending ≠ .none) ∧ s.hazard.active = false then
      s.beginRestart i
    else s

/-- RESTART_SPEED_REACHED (Table 7-1): the web has reached v_r. -/
def execRestartSpeedReached (s : State) : State :=
  if s.tt.state = .restarting ∧ s.leadsPhases then ({ s with tt := { s.tt with reached := true } }).settlePolygons else s

/-- The web runs forward and no deceleration has begun. -/
def State.webOnward (s : State) : Bool := match s.tt.state with
  | .restarting => true
  | .running => true
  | .halting => !s.tt.decelerating
  | .ending => !s.tt.decelerating
  | _ => false

/-- FUSER_NIP_CLOSE_POINT (R47): W reaches W_fo forward; a halt or an END declared before that point does not keep the nip open. -/
def execFuserNipClosePoint (s : State) : State :=
  if s.tt.nipPending ∧ s.webOnward ∧ s.tt.wfo ≤ s.w then
    { (s.setNip false) with tt := { (s.setNip false).tt with nipPending := false } }
  else s

/-! RUN, HALT, END (R51). -/

/-- The homeroom's conditions for RUN in a group (R369). -/
def State.groupReady (s : State) : Bool :=
  !s.inGroup || !s.isHomeroom ||
    (decide (s.haling.roll = .complete) && s.haling.census.all fun seat =>
      decide (seat = s.seat) || ((s.peer seat).heard && (s.peer seat).info.aligned && decide ((s.peer seat).info.nextOrigin = s.tt.nextOrigin)))

/-- The conditions of RUN in IDLE and STOPPED. -/
def State.runOk (s : State) : Bool :=
  !s.hazard.active && !s.web.moving && decide (0 < s.runningSpeed)
    && (!s.isHomeroom || (match s.webAxis with
      | some a => decide ((s.axis a).state = .hold)
      | none => false))

/-- RUN accepted at a member in IDLE or STOPPED: the homeroom drives the phases, and the speed-hold target goes to v_r / Λ of a web at
rest (R45, Table 7-1). -/
def State.memberRun (s : State) : State :=
  ({ s with tt := { s.tt with ranIn := true, vBefore := 0, vr := s.runningSpeed } }).settlePolygons

/-- RUN ends the holds of commits. -/
def State.releaseHolds (s : State) : State := { s with tt := { s.tt with holdHalt := false, holdLink := false, ranIn := true } }

/-- A run from IDLE or STOPPED: the reverse, wait and restart phases for the first uncommitted panel (R51, R326). -/
def State.startRun (s : State) : State :=
  let s := s.webTake
  let s := if s.nip = .opened then { s with tt := { s.tt with wfo := s.w, nipPending := true } } else s
  let s := { s with tt := { s.tt with vBefore := 0, endPending := false, afterEnd := false } }
  let s := if s.tt.holdBeam then s.replan else s
  s.beginReverse

/-- The web position loop's slot fits the engine of its die (R301). -/
def State.webLoopFits (s : State) : Bool := match s.webAxis with
  | some a => (s.modNamed s.webSlot fun l => l.start false).ratesOk (axisDie a)
  | none => true

/-- TIMETABLE_RUN (R51). -/
def opTimetableRun (s : State) : Except Abort State := do
  need (decide (s.nmt.state = .operational) && decide (s.nmt.pending = .none) && !s.faults.fatal && s.groupReady) .state
  match s.tt.state with
  | .waiting =>
    let s := s.releaseHolds
    .ok (if s.tt.corrective = .failed then s.correctiveMove else s)
  | .idle =>
    need s.runOk .state
    need s.webLoopFits .invalid
    .ok (if s.isHomeroom then s.releaseHolds.startRun else s.releaseHolds.memberRun)
  | .stopped =>
    need s.runOk .state
    need s.webLoopFits .invalid
    .ok (if s.isHomeroom then s.releaseHolds.startRun else s.releaseHolds.memberRun)
  | _ => .error .state

def execTimetableRun (s : State) : State := command 0x2100 opTimetableRun s

/-- TIMETABLE_HALT (R51). -/
def opTimetableHalt (s : State) : Except Abort State :=
  let hold (s : State) : State := { s with tt := { s.tt with holdHalt := true } }
  match s.tt.state with
  | .running => .ok (hold (s.declareHalt false))
  | .halting => .ok (hold s)
  | .reversing => .ok (hold s)
  | .waiting => .ok (hold s)
  | _ => .error .state

def execTimetableHalt (s : State) : State := command 0x2100 opTimetableHalt s

/-- TIMETABLE_END (R51). -/
def opTimetableEnd (s : State) : Except Abort State :=
  match s.tt.state with
  | .running => .ok s.beginEnding
  | .stopped => .ok (if s.web.moving then { s with tt := { s.tt with endPending := true } } else s.enterIdle)
  | _ => .error .state

def execTimetableEnd (s : State) : State := command 0x2100 opTimetableEnd s

/-- BAND_MODE_WRITE (R61). A station that becomes available counts in R107 again, so legality is computed anew as after a channel
loss (DESIGN CHOICE, log 13). -/
def opBandModeWrite (st v : Nat) (s : State) : Except Abort State := do
  need (decide (st < 8) && s.present st) .noSuchUnit
  need (decide (v = 0)) .invalid
  need (s.ttIdle && (s.usedScanners st).all fun g => (upTo 32).all fun b => s.beamHealthy g b) .state
  .ok (s.setPlan st 0 []).settleLegality

def execBandModeWrite (st v : Nat) (s : State) : State := command 0x2150 (opBandModeWrite st v) s

end Sys2Proof.Machine
end

