-- ==== Sys2Proof/Machine/Mesh.lean ====
section
/-! DEFINITION. The correction mesh: records, interpolation, stages 3 to 6 of the lane pipeline, flips, knot rings and
stitch settings (chapter 6; R136, R219, R241). -/

namespace Sys2Proof.Machine

/-! Records (R169, R170). -/

def knotWord (k : Knot) : Nat :=
  ofSigned 16 k.inscan * 2 ^ 48 + ofSigned 8 k.xscan * 2 ^ 40 + k.shade % 4096 * 2 ^ 28 + k.cls % 16 * 2 ^ 24

def knotOf (w : Nat) : Knot :=
  { inscan := toSigned 16 (bits w 63 48), xscan := toSigned 8 (bits w 47 40), shade := bits w 39 28, cls := bits w 27 24 }

def facetWord (f : FacetRec) : Nat := ofSigned 16 f.startOff * 2 ^ 48 + ofSigned 8 f.xoff * 2 ^ 40

def facetOf (w : Nat) : FacetRec := { startOff := toSigned 16 (bits w 63 48), xoff := toSigned 8 (bits w 47 40) }

def Mesh.knot (m : Mesh) (k : Nat) : Knot := mapGet {} m.knots k

def Mesh.facet (m : Mesh) (f : Nat) : FacetRec := mapGet {} m.facets f

def Mesh.setKnot (m : Mesh) (k : Nat) (x : Knot) : Mesh := { m with knots := mapSet {} m.knots k x }

def Mesh.setFacet (m : Mesh) (f : Nat) (x : FacetRec) : Mesh := { m with facets := mapSet {} m.facets f x }

/-- The 8,320 bytes of a mesh (R196). -/
def Mesh.bytes (m : Mesh) : List Nat :=
  (((upTo 1024).map fun k => knotWord (m.knot k)) ++ ((upTo 16).map fun f => facetWord (m.facet f))).flatMap fun w =>
    (leBytes 8 w).map (·.toNat)

/-- Groups of eight bytes as words. -/
def words8 : List Nat → List Nat
  | a :: b :: c :: d :: e :: f :: g :: h :: rest =>
    (word4 [a, b, c, d] + 2 ^ 32 * word4 [e, f, g, h]) :: words8 rest
  | _ => []

/-- A mesh from its words: 1,024 knots, then 16 facet records. -/
def Mesh.ofWords (ws : List Nat) : Mesh :=
  { knots := (ws.take 1024).zipIdx.foldl (fun m p => mapSet {} m p.2 (knotOf p.1)) []
    facets := (ws.drop 1024).zipIdx.foldl (fun m p => mapSet {} m p.2 (facetOf p.1)) [] }

/-! Interpolation (R171). -/

/-- f of R171: position of pixel x in 1/65,536 knot spacing. -/
def knotPos (lo hi x : Nat) : Nat := if hi = lo then 0 else 65536 * 1023 * (x - lo) / (hi - lo)

/-- One field at pixel x. -/
def interp (v : Nat → Int) (lo hi x : Nat) : Int :=
  let f := knotPos lo hi x
  let k := f / 65536
  let r : Int := ((f % 65536 : Nat) : Int)
  if k = 1023 ∨ hi = lo then v k else v k + (r * (v (k + 1) - v k) + 32768) / 65536

/-- The class of the nearest knot. -/
def Mesh.classAt (m : Mesh) (lo hi x : Nat) : Nat := (m.knot (min 1023 ((knotPos lo hi x + 32768) / 65536))).cls

/-! Stage 3 (R174, R175). -/

/-- A piece: twice its centre, and its length, in 1/64 pixel. -/
abbrev Piece := Int × Nat

/-- The code of merged pieces; 0 for none (R175). -/
def mergePieces (ps : List Piece) : Nat :=
  let t0 := (ps.map (·.2)).sum
  let t := min t0 64
  if t < 2 then 0
  else
    let m2 := (ps.map fun p => (p.2 : Int) * p.1).sum
    let start := clampI 0 63 ((m2 - (t : Int) * t0 + t0) / (2 * t0))
    start.toNat * 64 + (t - 1)

/-- A code with a pulse. -/
def lit (code : Nat) : Bool := decide (code % 64 ≠ 0)

/-- Piece of a code. -/
def codePiece (code : Nat) : Piece := ((2 * (code / 64) + (code % 64 + 1) : Nat), code % 64 + 1)

/-- Pieces by cell. -/
abbrev Cells := Map (List Piece)

def cellsAdd (m : Cells) (c : Nat) (p : Piece) : Cells := if p.2 = 0 then m else mapMod [] m c (p :: ·)

/-- Codes by cell. -/
def cellCodes (m : Cells) : Map Nat := m.filterMap fun kv => let c := mergePieces kv.2; if c = 0 then none else some (kv.1, c)

/-- Stage 3 of one lane: its code line resampled on the emission grid. -/
def resample (m : Mesh) (facet lo hi : Nat) (codes : Map Nat) : Map Nat :=
  cellCodes (codes.foldl (fun acc kv =>
    if lit kv.2 ∧ lo ≤ kv.1 ∧ kv.1 ≤ hi then
      let a : Int := 64 * (kv.1 : Int) + (kv.2 / 64 : Nat) + (m.facet facet).startOff + interp (fun k => (m.knot k).inscan) lo hi kv.1
      let c := a / 64
      if (lo : Int) ≤ c ∧ c ≤ hi then cellsAdd acc c.toNat (2 * (a - 64 * c) + (kv.2 % 64 + 1 : Nat), kv.2 % 64 + 1) else acc
    else acc) [])

/-! Stage 4 (R179 to R182). -/

/-- The share w of R179 for index i of a zone of overlap o, class q and a ramp shape. -/
def blendShare (i o q shape : Nat) : Nat :=
  let t : Rat := ((2 * i + 1 : Nat) : Rat) / ((4 * o : Nat) : Rat) - ((q : Rat) - 7) / 16
  let t := if t < 0 then 0 else if 1 < t then 1 else t
  let a : Rat := match shape with
    | 0 => t
    | 1 => t * t * (3 - 2 * t)
    | _ => let x := 2 * t - 1 / 2; if x < 0 then 0 else if 1 < x then 1 else x
  (ratFloor (256 * a + 1 / 2)).toNat

/-- Tile value (R181): ROM whose contents the spec does not give but for each value occurring 16 times. The value is the rank of
the position among the tile's 4,096 in the free order of Config.blendTile, ties by position, divided by 16. -/
def tileAt (tile y i : Nat) : Nat :=
  let key := Config.blendTile (tile % 16)
  let at_ := 64 * (y % 64) + i % 64
  ((upTo 4096).countP fun k => decide (key k < key at_) || (decide (key k = key at_) && decide (k < at_))) / 16

/-- The upper scanner of a zone owns cell i of line y. -/
def upperOwns (tile y i o q shape : Nat) : Bool := decide (tileAt tile y i < blendShare i o q shape)

/-- The slate that governs a panel of sequence number seq on lane l (R191, R192). -/
def State.slateFor (s : State) (l seq : Nat) : Mesh :=
  let x := s.lane l
  match x.draftState with
  | .pending =>
    let q := s.flipReq x.flipReq
    if q.when_ = 1 ∧ (q.seq = seq ∨ follows32 seq q.seq) then x.draft else x.slate
  | .copying =>
    match x.newFrom with
    | some n => if seq = n ∨ follows32 seq n then x.slate else x.draft
    | none => x.slate
  | .ready => x.slate

/-- Beam of scanner g that writes line y. -/
def State.beamOf (s : State) (g y : Nat) : Nat :=
  if (s.station (scannerStation g)).band = 1 then s.leadBeam g + y % 16 else y % 32

/-- The slate whose classes decide the blend zone above the scanner of lane l for line y of the panel in slot i: the one that the
first of the two scanners to commit the line found in force, so that both go by one decision (R179). -/
def State.blendSlate (s : State) (i l y : Nat) : Mesh :=
  match mapGet none s.blends (lineKey i l y) with
  | some m => m
  | none => s.slateFor l (s.slot i).seq

/-- The lower scanners' lanes of the blend zones that line y of scanner g touches, b its beam that writes it. -/
def State.blendLanes (s : State) (g b y : Nat) : List Nat :=
  (if g % 4 + 1 < (s.stitch (scannerStation g)).nc then [laneOf g b] else [])
    ++ (if 1 ≤ g % 4 then [laneOf (g - 1) (s.beamOf (g - 1) y)] else [])

/-- Scanner g commits line y of the panel in slot i: its blend zones are decided. -/
def State.fixBlends (s : State) (i g b y : Nat) : State :=
  (s.blendLanes g b y).foldl (fun s l =>
    { s with blends := mapSet none s.blends (lineKey i l y) (some (s.blendSlate i l y)) }) s

/-- Scanner g owns cell c of line y of the panel in slot i (R179, R182); b is its beam that writes the line. -/
def State.ownsCell (s : State) (g b i y c : Nat) : Bool :=
  let st := scannerStation g
  let j := g % 4
  let t := s.stitch st
  if bit s.legacySelection 1 then true
  else
    let zone (k : Nat) : Nat × Nat := (t.beta.getD k 0 - t.overlap.getD k 0, t.overlap.getD k 0)
    let below := (zone (j - 1)).1
    let o := (zone (j - 1)).2
    let above := (zone j).1
    let o' := (zone j).2
    let left := decide (1 ≤ j) && decide (below ≤ c) && decide (c < below + 2 * o)
    let right := decide (j + 1 < t.nc) && decide (above ≤ c) && decide (c < above + 2 * o')
    if left then
      let x := s.spanOf (g - 1)
      let q := (s.blendSlate i (laneOf (g - 1) (s.beamOf (g - 1) y)) y).classAt x.1 x.2 c
      upperOwns (t.tile.getD (j - 1) 0) y (c - below) o q (t.ramp.getD (j - 1) 0)
    else if right then
      let x := s.spanOf g
      let q := (s.blendSlate i (laneOf g b) y).classAt x.1 x.2 c
      !upperOwns (t.tile.getD j 0) y (c - above) o' q (t.ramp.getD j 0)
    else
      let p := s.printable st
      let cfg := s.cfg (0x2810 + st)
      if j = 0 ∧ cfg 1 = 1 ∧ c < 2 * cfg 3 then upperOwns (cfg 5) y c (cfg 3) 7 (cfg 4)
      else if j + 1 = t.nc ∧ cfg 6 = 1 ∧ p ≤ c + 2 * cfg 8 then
        !upperOwns (cfg 10) y (c + 2 * cfg 8 - p) (cfg 8) 7 (cfg 9)
      else true

/-! Stage 5 (R184 to R186). -/

/-- What a sweep of one scanner needs for the split: its beams in writing order with their lines. -/
structure Beams where
  /-- Beam, line and stitched codes of every beam that writes a panel line in the sweep and is not detained. -/
  lines : List (Nat × Nat × Map Nat)
  lead : Nat
  trail : Nat
deriving DecidableEq, Repr

/-- Share given away at offset d (R185). -/
def splitShare (l : Nat) (d : Int) : Nat := (l * d.natAbs + 8) / 16

/-- Pieces of every beam after the split, the carry of the trailing beam, and whether a share of the leading beam was
kept (R186). -/
def splitLine (bs : Beams) (off : Nat → Nat → Int) : (Map Cells) × Map Nat × Bool :=
  bs.lines.foldl (fun acc ln =>
    let (b, _, codes) := ln
    codes.foldl (fun (acc : (Map Cells) × Map Nat × Bool) kv =>
      let (out, carry, clamp) := acc
      let (c2, l) := codePiece kv.2
      let d := off b kv.1
      let g := splitShare l d
      if g = 0 then (mapMod [] out b fun m => cellsAdd m kv.1 (c2, l), carry, clamp)
      else if d < 0 ∧ b = bs.lead then (mapMod [] out b fun m => cellsAdd m kv.1 (c2, l), carry, true)
      else
        let out := mapMod [] out b fun m => cellsAdd m kv.1 (c2, l - g)
        if 0 < d ∧ b = bs.trail then (out, mapSet 0 carry kv.1 (c2.toNat * 128 + g), clamp)
        else
          let nb := if 0 < d then b + 1 else b - 1
          if bs.lines.any fun x => x.1 == nb then (mapMod [] out nb fun m => cellsAdd m kv.1 (c2, g), carry, clamp)
          else (out, carry, clamp)) acc) ([], [], false)

/-! Stage 6 (R136). -/

/-- Width limited to the duty ceiling; a cell outside the line is dark. -/
def packCode (ceiling p lo hi c code : Nat) : Nat :=
  if c < lo ∨ hi < c ∨ p ≤ c then 0
  else
    let w := min (code % 64) ceiling
    if w = 0 then 0 else code / 64 * 64 + w

/-! Draft writes (R188, R196). -/

/-- MESH_STATUS (Table 6-4). -/
def State.meshStatus (s : State) (l : Nat) : Nat :=
  let x := s.lane l
  x.draftState.code * 2 ^ 30 + b2n x.meshRefused * 2 ^ 29 + b2n x.leadClamped * 2 ^ 28
    + (if x.draftState = .pending then (s.flipReq x.flipReq).when_ else 0) * 2 ^ 26 + x.flips % 2 ^ 16

/-- Replace 4 bytes of an 8-byte record word, or all of it. -/
def patchWord (old offset size value : Nat) : Nat :=
  if size = 8 then value % 2 ^ 64
  else if offset % 8 = 0 then old / 2 ^ 32 * 2 ^ 32 + value % 2 ^ 32
  else old % 2 ^ 32 + value % 2 ^ 32 * 2 ^ 32

/-- DRAFT_WRITE through the knot window (Table 6-3): 4 or 8 aligned bytes. -/
def execDraftWrite (lane offset size value : Nat) (s : State) : State :=
  if (size ≠ 4 ∧ size ≠ 8) ∨ offset % size ≠ 0 then s
  else if 1024 ≤ lane ∨ s.present (laneStation lane) = false then s.absent
  else
    let x := s.lane lane
    let ready := decide (x.draftState = .ready)
    if offset < 0x2000 then
      let word := patchWord (knotWord (x.draft.knot (offset / 8))) offset size value
      if ready then s.modLane lane fun x => { x with draft := x.draft.setKnot (offset / 8) (knotOf word) }
      else s.modLane lane fun x => { x with meshRefused := true }
    else if offset < 0x2080 then
      let f := (offset - 0x2000) / 8
      let word := patchWord (facetWord (x.draft.facet f)) offset size value
      if ready then s.modLane lane fun x => { x with draft := x.draft.setFacet f (facetOf word) }
      else s.modLane lane fun x => { x with meshRefused := true }
    else if 0x4000 ≤ offset ∧ offset < 0x6080 then s
    else if offset = 0x8000 then s.modLane lane fun x =>
      { x with meshRefused := x.meshRefused && !bit value 29, leadClamped := x.leadClamped && !bit value 28 }
    else if offset = 0x8004 ∨ offset = 0x8008 ∨ offset = 0x800C then s
    else s.absent

/-- 8-byte word w of a knot window (Table 6-3): drafts, slates, MESH_STATUS, flips; none where it is reserved. -/
def State.knotWindowWord (s : State) (l w : Nat) : Option Nat :=
  let x := s.lane l
  if w < 0x400 then some (knotWord (x.draft.knot w))
  else if w < 0x410 then some (facetWord (x.draft.facet (w - 0x400)))
  else if 0x800 ≤ w ∧ w < 0xC00 then some (knotWord (x.slate.knot (w - 0x800)))
  else if 0xC00 ≤ w ∧ w < 0xC10 then some (facetWord (x.slate.facet (w - 0xC00)))
  else if w = 0x1000 then some (s.meshStatus l)
  else if w = 0x1001 then some (x.flips % 2 ^ 32)
  else none

/-- What a read of a knot window answers; none for an absent lane and at reserved offsets (R72). -/
def State.knotWindowBytes (s : State) (l o size : Nat) : Option (List Nat) :=
  if 1024 ≤ l ∨ s.present (laneStation l) = false then none
  else (s.knotWindowWord l (o / 8)).map fun w => (upTo size).map fun k => w / 256 ^ (o % 8 + k) % 256

/-- Reserved bits of the records of a mesh are 0 (R8). -/
def meshWordsOk (ws : List Nat) : Bool :=
  ((ws.take 1024).all fun w => decide (bits w 23 0 = 0)) && (ws.drop 1024).all fun w => decide (bits w 39 0 = 0)

/-- DRAFT_OBJECT_WRITE (R196): a discarded write of the draft also sets WR_REFUSED (R188). -/
def execDraftObjectWrite (lane : Nat) (bytes : List Nat) (s : State) : State :=
  if s.nmt.state = .stopped then s.refuse .state
  else if 1024 ≤ lane ∨ s.present (laneStation lane) = false then s.refuse .noSuchUnit
  else if bytes.length ≠ 8320 then s.refuse .lengthMismatch
  else if (s.lane lane).draftState ≠ .ready then (s.modLane lane fun x => { x with meshRefused := true }).refuse .state
  else if meshWordsOk (words8 bytes) = false then s.refuse .invalid
  else (s.modLane lane fun x => { x with draft := Mesh.ofWords (words8 bytes) }).accept (0x2840 + laneScanner lane)

/-! Flips (R189 to R193). -/

/-- XSCAN values of a mesh. -/
def Mesh.xscans (m : Mesh) : List Int := (if m.knots.length < 1024 then [0] else []) ++ m.knots.map fun kv => kv.2.xscan

/-- R176: the slope of INSCAN. -/
def Mesh.slopeOk (m : Mesh) (lo hi : Nat) : Bool :=
  (upTo 1023).all fun k =>
    decide (((m.knot (k + 1)).inscan - (m.knot k).inscan).natAbs * 1023 ≤ 32 * (hi - lo))

/-- R184: no offset beyond one line. -/
def Mesh.reachOk (m : Mesh) (f : Nat) : Bool :=
  (upTo f).all fun k => m.xscans.all fun x => decide (((m.facet k).xoff + x).natAbs ≤ 16)

/-- R176 and R184 for the draft of one lane; a scanner that its station does not use has no span. -/
def State.draftOk (s : State) (l : Nat) : Bool :=
  let g := laneScanner l
  let x := s.spanOf g
  let m := (s.lane l).draft
  (!s.scannerUsed g || m.slopeOk x.1 x.2) && m.reachOk (s.cfg (0x2900 + g) 3)

/-- The slew limits of 0x2801 (R190). -/
def State.slewOk (s : State) (l : Nat) : Bool :=
  let a := (s.lane l).draft
  let b := (s.lane l).slate
  let far (x y : Int) (sub : Nat) : Bool := decide (s.cfg 0x2801 sub < (x - y).natAbs)
  (((a.knots.map (·.1)) ++ b.knots.map (·.1)).all fun k =>
      !far (a.knot k).inscan (b.knot k).inscan 1 && !far (a.knot k).xscan (b.knot k).xscan 2
        && !far (a.knot k).shade (b.knot k).shade 3)
    && ((a.facets.map (·.1)) ++ b.facets.map (·.1)).all fun k =>
      !far (a.facet k).startOff (b.facet k).startOff 4 && !far (a.facet k).xoff (b.facet k).xoff 5

/-- The panel named is in the timetable, and its bell has not rung at a station of the scope that it names (R190). -/
def State.bellAhead (s : State) (seq : Nat) (stations : List Nat) : Bool :=
  match (upTo 32).find? fun i => (s.slot i).state.live && decide ((s.slot i).seq = seq) with
  | none => false
  | some i => stations.all fun st => !(bit (s.slot i).mask st && bit (s.slot i).rung st)

/-- The checks of R190, in order. -/
def State.flipCheck (s : State) (when_ seq scope l : Nat) : Except Abort Unit := do
  need (decide (scope ≤ 3) && decide (l < 1024)) .invalid
  need ((s.scopeStations scope l).all s.present) .noSuchUnit
  need (decide (when_ ≤ 2) && (decide (when_ = 1) || decide (seq = 0)) && (decide (scope < 3) || decide (l = 0))
    && decide (seq < 2 ^ 32)) .invalid
  if when_ = 2 then .ok () else
    let ls := s.scopeLanes scope l
    need (ls.all fun k => decide ((s.lane k).draftState = .ready)) .state
    need (decide (when_ = 0) || s.bellAhead seq (s.scopeStations scope l)) .state
    need (ls.all s.draftOk) .meshRange
    need (s.ttIdle || ls.all s.slewOk) .slewLimit

/-- An accepted request: its lanes wait, and where LASER_EN is low a flip of WHEN 0 is made at once (R190, R191). -/
def State.requestFlip (s : State) (when_ seq scope l : Nat) : State :=
  if when_ = 2 then
    let ls := s.scopeLanes scope l
    let rs := (ls.filterMap fun k =>
      if (s.lane k).draftState = .pending then some (s.lane k).flipReq else none).eraseDups
    rs.foldl (fun s r =>
      if 2 ≤ (s.flipReq r).scope then
        s.cancelReq r (((s.scopeStations scope l).map fun st => 2 ^ st).sum)
      else
        { s with
          lanes := mapEach {} s.lanes fun k x =>
            if x.flipReq = r ∧ x.draftState = .pending ∧ ls.contains k then { x with draftState := .ready, flipReq := 0 } else x
          flips := { s.flips with cancelled := wrapInc 32 s.flips.cancelled } }) s
  else
    let r := s.flips.next
    let s := { s with flips := { s.flips with
      next := r + 1, requests := mapSet {} s.flips.requests r { when_, scope, seq, acceptedAt := s.timebase } } }
    let s := (s.scopeLanes scope l).foldl (fun s k => s.modLane k fun x => { x with draftState := .pending, flipReq := r }) s
    if when_ = 0 then
      ((s.scopeLanes scope l).map laneScanner).eraseDups.foldl (fun s g =>
        if (s.scanner g).laser then s else s.flipScanner r g) s
    else s

/-- A flip request with its result (0x2800:2). -/
def State.flipRequest (s : State) (when_ seq scope l : Nat) : State × Option Abort :=
  match s.flipCheck when_ seq scope l with
  | .error a => ({ s with flips := { s.flips with result := a.code } }, some a)
  | .ok _ =>
    let s := s.requestFlip when_ seq scope l
    ({ s with flips := { s.flips with result := 0 } }, none)

/-- A flip request by object 0x2800:1. -/
def State.flipObject (s : State) (when_ seq scope l : Nat) : State :=
  if s.nmt.state = .stopped then s.refuse .state
  else match s.flipRequest when_ seq scope l with
    | (s1, some a) => s1.refuse a
    | (s1, none) => s1.accept 0x2800

/-- FLIP_NEXT_FACET (R191). -/
def execFlipNextFacet (scope l : Nat) (s : State) : State := s.flipObject 0 0 scope l

/-- FLIP_NAMED_BELL (R191). -/
def execFlipNamedBell (seq scope l : Nat) (s : State) : State := s.flipObject 1 seq scope l

/-- FLIP_CANCEL (R193). -/
def execFlipCancel (scope l : Nat) (s : State) : State := s.flipObject 2 0 scope l

/-- No sweep governed by the former slate remains at the lane's station (R192). -/
def State.formerDone (s : State) (l : Nat) : Bool :=
  match (s.lane l).newFrom with
  | none => true
  | some n => (s.slotsWhere SlotState.isCommitted).all fun i =>
      let p := s.slot i
      let st := laneStation l
      !(bit p.mask st) || bit p.doneStations st || bit p.fencedStations st || decide (p.seq = n) || follows32 p.seq n

/-- DRAFT_COPY_COMPLETE (R192). -/
def execDraftCopyComplete (lane : Nat) (s : State) : State :=
  if (s.lane lane).draftState = .copying ∧ s.formerDone lane then
    s.modLane lane fun x => { x with draft := x.slate, draftState := .ready, newFrom := none }
  else s

/-! Knot update rings (R194, R195). -/

def knotFirst (d : Nat) : Nat := bits d 153 144

def knotCount (d : Nat) : Nat := bits d 170 160

def knotLane (d : Nat) : Nat := bits d 137 128

/-- The checks of R195 on the head of a knot ring. SEQ, SCOPE and WHEN are taken as reserved with OP 0x30 and 0x31, where they have no
meaning (DESIGN CHOICE, log 38). -/
def knotOk (q d : Nat) : Bool :=
  let op := descOp d
  let n := knotCount d
  decide (bits d 447 256 = 0) && decide (bits d 223 200 = 0) && decide (bits d 195 171 = 0) && decide (bits d 159 154 = 0)
    && decide (bits d 143 138 = 0) && decide (bits d 127 106 = 0) && decide (bits d 95 89 = 0)
    && decide (knotLane d / 128 = ringDie q)
    && (if op = 0x30 then decide (1 ≤ n) && decide (knotFirst d + n ≤ 1024) && decide (descLength d = 8 * n)
        else if op = 0x31 then decide (1 ≤ n) && decide (knotFirst d + n ≤ 16) && decide (descLength d = 8 * n)
        else decide (op = 0x32) && decide (n = 0) && decide (descAddr d = 0) && decide (descLength d = 0))
    && (decide (op = 0x32) || (decide (bits d 255 224 = 0) && decide (bits d 199 196 = 0)))
    && decide (descAddr d % 64 = 0)

/-- Write the records of the head, once its buffer is whole; a draft that is not READY discards them. -/
def State.knotWrite (s : State) (q op : Nat) (put : Mesh → Nat → Nat → Mesh) : State :=
  match (s.ring q).head with
  | none => s
  | some h =>
    if s.ringKind q ≠ 3 ∨ h.moving = false ∨ descOp h.raw ≠ op ∨ h.buf.length < descLength h.raw ∨ h.moved < descLength h.raw then s
    else
      let l := knotLane h.raw
      if (s.lane l).draftState ≠ .ready then (s.modLane l fun x => { x with meshRefused := true }).endHead q 40
      else
        let ws := (words8 h.buf).zipIdx
        (s.modLane l fun x => { x with draft := ws.foldl (fun m p => put m (knotFirst h.raw + p.2) p.1) x.draft }).endHead q 0

/-- KNOT_WRITE_DESCRIPTOR (R194). -/
def execKnotWriteDescriptor (q : Nat) (s : State) : State := s.knotWrite q 0x30 fun m k w => m.setKnot k (knotOf w)

/-- FACET_WRITE_DESCRIPTOR (R194). -/
def execFacetWriteDescriptor (q : Nat) (s : State) : State := s.knotWrite q 0x31 fun m k w => m.setFacet k (facetOf w)

/-- FLIP_DESCRIPTOR (R195, Table 6-8). With SCOPE 3 LANE only names the ring's die and L is taken as 0 (DESIGN CHOICE, log 38: R195 wants
LANE on the die, Table 6-6 wants L 0). -/
def execFlipDescriptor (q : Nat) (s : State) : State :=
  match (s.ring q).head with
  | none => s
  | some h =>
    if s.ringKind q ≠ 3 ∨ descOp h.raw ≠ 0x32 ∨ h.moving = false then s
    else
      let scope := bits h.raw 199 198
      match s.flipRequest (bits h.raw 197 196) (bits h.raw 255 224) scope (if scope = 3 then 0 else knotLane h.raw) with
      | (s1, none) => s1.endHead q 0
      | (s1, some .slewLimit) => s1.endHead q 41
      | (s1, some .meshRange) => s1.endHead q 42
      | (s1, some _) => s1.endHead q 43

/-! Stitch settings (R177, R178, R196, R219, R241). -/

/-- The staged settings of a station. -/
def State.staged (s : State) (st : Nat) : Stitch :=
  let c := s.cfg (0x2808 + st)
  { nc := c 1, beta := [c 2, c 3, c 4], overlap := [c 5, c 6, c 7], ramp := [c 8, c 9, c 10], tile := [c 11, c 12, c 13]
    mismatch := (s.stitch st).mismatch }

/-- R219 and R241 for a scanner with a span of n pixels. -/
def State.scanTimingOk (s : State) (g n : Nat) : Bool :=
  let c := s.cfg (0x2900 + g)
  let fd := s.cfgReal (0x2900 + g) 9
  let tls : Rat := (c 10 : Rat)
  let k : Rat := (c 11 : Rat)
  decide (1024 ≤ c 11) && decide (c 11 ≤ 28000) && decide (3200 ≤ tls * fd / 2000)
    && decide (tls * fd / 1600000000 + (n : Rat) / k ≤ 15 / 16)
    && decide ((97 / 16 + 7161 / ((n : Rat) - 1)) * 2000 * k ≤ 380000000)

/-- Every condition of an apply but R107. -/
def State.stitchOk (s : State) (st : Nat) (t : Stitch) (p : Nat) : Bool :=
  let c := s.cfg (0x2810 + st)
  let b := fun k => t.beta.getD k 0
  let o := fun k => t.overlap.getD k 0
  let js := upTo (t.nc - 1)
  let s1 := { s with stitches := mapSet {} s.stitches st t }
  let s1 := s1.setCfg 0x2183 (st + 1) p
  decide (1 ≤ t.nc) && decide (t.nc ≤ 4) && (js.all fun k => decide (o k ≤ 512) && decide (o k ≤ b k) && decide (t.ramp.getD k 0 ≤ 2))
    && ((upTo (t.nc - 2)).all fun k => decide (b k + o k + o (k + 1) ≤ b (k + 1)))
    && (decide (c 1 = 0) || js.all fun k => decide (2 * c 3 + o k ≤ b k))
    && (decide (c 6 = 0) || js.all fun k => decide (b k + o k + 2 * c 8 ≤ p))
    && ((upTo t.nc).all fun j =>
      let x := spanUnder t p j
      let n := x.2 + 1 - x.1
      decide (x.1 ≤ x.2) && decide (1024 ≤ n) && decide (n ≤ 20480) && s.scanTimingOk (4 * st + j) n)
    && (!bit s.legacySelection 1 || decide (t.nc = 1))
    && s1.weightsOk

/-- The geometry stays legal with these settings (R107). -/
def State.stitchLegal (s : State) (st : Nat) (t : Stitch) (p : Nat) : Bool :=
  let s1 := { s with stitches := mapSet {} s.stitches st t }
  (s1.setCfg 0x2183 (st + 1) p).legalHeight (s.cfg 0x2100 8)

/-- Put settings and width in force. -/
def State.putStitch (s : State) (st : Nat) (t : Stitch) (p : Nat) : State :=
  let s1 := { s with stitches := mapSet {} s.stitches st t }
  s1.setCfg 0x2183 (st + 1) p

/-- APPLY_STITCH_SETTINGS (R196). -/
def opApplyStitchSettings (st v : Nat) (s : State) : Except Abort State := do
  need (decide (st < 8) && s.present st) .noSuchUnit
  need s.preop .state
  need (decide (v = 1)) .invalid
  need (s.stitchOk st (s.staged st) (s.printable st)) .invalid
  need (s.stitchLegal st (s.staged st) (s.printable st)) .panelIllegal
  .ok (s.putStitch st (s.staged st) (s.printable st))

def execApplyStitchSettings (st v : Nat) (s : State) : State := command (0x2808 + st) (opApplyStitchSettings st v) s

/-- PRINTABLE_WIDTH_WRITE (R27): applied together with the staged settings. -/
def opPrintableWidthWrite (st v : Nat) (s : State) : Except Abort State := do
  need (decide (st < 8) && s.present st) .noSuchUnit
  need s.preop .state
  need (decide (1 ≤ v) && decide (v ≤ 76800)) .invalid
  need (s.stitchOk st (s.staged st) v) .invalid
  need (s.stitchLegal st (s.staged st) v) .panelIllegal
  .ok (s.putStitch st (s.staged st) v)

def execPrintableWidthWrite (st v : Nat) (s : State) : State := command 0x2183 (opPrintableWidthWrite st v) s

end Sys2Proof.Machine
end

