-- ==== Sys2Proof/Machine/Frames.lean ====
section
/-! DEFINITION. The codes of a line, its TRIM and CODE frames and the dwell watchdog that follows them (R165, R186, R234 to R240,
R252). -/

namespace Sys2Proof.Machine

/-- A 384-bit cell word as six blocks: twelve bits for each beam (Table 8-5). -/
def cellBlocks (vs : List Nat) : List Nat :=
  let w := vs.zipIdx.foldl (fun n p => n + p.1 % 4096 * 2 ^ (12 * p.2)) 0
  (upTo 6).map fun k => w / 2 ^ (64 * k) % 2 ^ 64

/-- Emission index of knot j (R237). -/
def knotIndex (cells j : Nat) : Nat := (2 * j * (cells - 1) + 1023) / 2046

/-- Trim of knot j in emission order for one beam (R236). -/
def trimOf (m : Mesh) (dir ceiling j : Nat) : Nat := min ceiling (m.knot (if dir = 1 then 1023 - j else j)).shade

/-- The next TRIM frame of the line (R236). -/
def State.sendTrim (s : State) (g : Nat) : State :=
  match (s.scanner g).line with
  | none => s
  | some l =>
    if l.aborted ∨ 1024 ≤ l.trimsSent ∨ (s.link g).state = .disabled then s
    else
      let j := l.trimsSent
      let top := s.fuse 0x4010 (scannerStation g + 1)
      let s := s.sendFrame g .trimFrame 0x33 j (cellBlocks (l.slates.map fun m => trimOf m l.dir top j))
      s.modScanner g fun x => { x with line := some { l with trimsSent := j + 1 } }

/-- Every TRIM that CODE frame k needs has been sent (R239). -/
def Line.trimsReady (l : Line) (k : Nat) : Bool :=
  decide (l.trimsSent = 1024) || (decide (0 < l.trimsSent) && decide (min (16 * k + 15) (l.cells - 1) ≤ knotIndex l.cells (l.trimsSent - 1)))

/-- CODE frames whose last cell has ended at a tick. -/
def Line.endedFrames (l : Line) (t : Nat) : Nat :=
  if l.period = 0 then 0 else (16 * t - l.tls16) * 4096 / l.period / 16

/-- Runs of one beam after a cell, and whether any exceeded the limit (R252): a run goes on where a pulse starts at 0
and the one before it ended at 64. -/
def runStep (limit run code : Nat) : Nat × Bool :=
  if lit code = false then (0, false)
  else
    let len := code % 64 + 1
    let r := if code / 64 = 0 then run + len else len
    (if code / 64 + len = 64 then r else 0, decide (limit < r))

/-- The dwell watchdog follows one CODE frame of a line. -/
def dwellStep (limit : Nat) (l : Line) (k : Nat) (runs : Map Nat) : Map Nat × Bool :=
  (upTo 32).foldl (fun acc b =>
    let m := l.codes.getD b []
    if m = [] then acc
    else
      let (r, trip) := (upTo 16).foldl (fun st i =>
        let (r, t) := runStep limit st.1 (mapGet 0 m (16 * k + i))
        (r, st.2 || t)) (mapGet 0 acc.1 b, false)
      (mapSet 0 acc.1 b r, acc.2 || trip)) (runs, false)

/-- Code line of a lane for sweep n of slot i, once its program has executed ENDL. -/
def Lane.codeLine (x : Lane) (i n : Nat) : Option (Map Nat) :=
  let ok (b : CodeBuf) : Bool := b.busy && b.ready && decide (b.slot = i) && decide (b.n = n)
  if ok x.buf0 then some x.buf0.codes else if ok x.buf1 then some x.buf1.codes else none

/-- Stages 3 and 4 of one lane: its cells on the emission grid that its scanner owns. -/
def State.stitched (s : State) (g b i y facet : Nat) (slate : Mesh) (codes : Map Nat) : Map Nat :=
  let x := s.spanOf g
  let m := resample slate facet x.1 x.2 codes
  m.filter fun kv => s.ownsCell g b i y kv.1

/-- Beams of scanner g that write a panel line in sweep n and are not detained, with their stitched codes. -/
def State.sweepBeams (s : State) (g i n facet : Nat) (slates : List Mesh) : Beams :=
  let st := scannerStation g
  let half := decide ((s.station st).band = 1)
  let lead := if half then s.leadBeam g else 0
  { lead, trail := lead + (if half then 15 else 31)
    lines := (upTo 32).filterMap fun b =>
      match s.beamFirst g b with
      | none => none
      | some f =>
        let y := f + s.sweepStep st * n
        let x := s.lane (laneOf g b)
        if (s.slot i).h ≤ y ∨ x.state = .detained then none
        else some (b, y, s.stitched g b i y facet (slates.getD b {}) ((x.codeLine i n).getD [])) }

/-- Cross-scan offset of beam b at cell c (R184). -/
def State.splitOffset (s : State) (g : Nat) (slates : List Mesh) (facet b c : Nat) : Int :=
  let x := s.spanOf g
  let m := slates.getD b {}
  (m.facet facet).xoff + interp (fun k => (m.knot k).xscan) x.1 x.2 c

/-- Merge of the pieces of one stream cell (R234), the start limited to the cell. -/
def streamCell (carry code : Nat) (dir : Nat) : Nat × Nat :=
  let st := code / 64
  let l := if lit code then code % 64 + 1 else 0
  let here := min l (64 - st)
  let next := st + l - 64
  let t0 := carry + here
  let t := min t0 64
  let start :=
    if carry = 0 then st
    else if here = 0 then 0
    else (clampI 0 (64 - t) (((carry * carry + here * (2 * st + here) : Nat) - (t : Int) * t0 + t0) / (2 * t0))).toNat
  if t < 2 then (0, next)
  else
    let start := if dir = 1 then 64 - start - t else start
    (start * 64 + (t - 1), next)

/-- Stream codes by emission index of one beam's packed codes by cell (R234). -/
def streamCodes (lo hi dir : Nat) : List (Nat × Nat) → Nat → Nat → Map Nat → Map Nat
  | [], at_, carry, out =>
    if 0 < carry ∧ at_ ≤ hi then mapSet 0 out (if dir = 1 then hi - at_ else at_ - lo) (streamCell carry 0 dir).1 else out
  | (c, code) :: rest, at_, carry, out =>
    let (out, carry) :=
      if 0 < carry ∧ at_ < c then (mapSet 0 out (if dir = 1 then hi - at_ else at_ - lo) (streamCell carry 0 dir).1, 0)
      else (out, carry)
    let (v, next) := streamCell carry code dir
    streamCodes lo hi dir rest (c + 1) next (mapSet 0 out (if dir = 1 then hi - c else c - lo) v)

/-- Beam b of scanner g is dark for the panel in slot i: it failed in it, or it stays failed (R57, R246). -/
def State.darkIn (s : State) (i g b : Nat) : Bool := bit (s.link g).failedMarks b || bit (mapGet 0 (s.slot i).dark g) b

/-- The carry line that the leading beam of sweep n takes in (R186): the scanner's, where it is meant for that beam's line. -/
def State.carryFor (s : State) (g i n : Nat) : Map Nat :=
  let lead := if (s.station (scannerStation g)).band = 1 then s.leadBeam g else 0
  match s.beamFirst g lead with
  | none => []
  | some f =>
    let y := f + s.sweepStep (scannerStation g) * n
    if y < (s.slot i).h ∧ (s.lane (laneOf g lead)).state ≠ .detained
        ∧ (s.scanner g).carryFor = some ((s.slot i).origin + lu y) then (s.scanner g).carry else []

/-- The line that scanner g emits for sweep n of slot i, with the carry it leaves and whether a share was clamped. -/
def State.buildLine (s : State) (g i n facet dir : Nat) (slates : List Mesh) (carryIn : Map Nat) :
    List (Map Nat) × Map Nat × Bool :=
  let st := scannerStation g
  let x := s.spanOf g
  let p := s.printable st
  let bs := s.sweepBeams g i n facet slates
  let (cells, carry, clamp) := splitLine bs (s.splitOffset g slates facet)
  let codes := (upTo 32).map fun b =>
    let m : Cells := mapGet [] cells b
    let m := if b == bs.lead then
        carryIn.foldl (fun m kv => cellsAdd m kv.1 ((kv.2 / 128 : Nat), kv.2 % 128)) m
      else m
    let packed := (cellCodes m).filterMap fun kv =>
      let c := packCode (s.fuse 0x4011 (st + 1)) p x.1 x.2 kv.1 kv.2
      if c = 0 then none else some (kv.1, c)
    if s.darkIn i g b then [] else streamCodes x.1 x.2 dir packed x.1 0 []
  (codes, carry, clamp)

/-- After the detention of a lane the rest of the line in emission is formed anew: the lane's codes, and the pieces that its
neighbours had from it, count as dark (R165). -/
def State.refreshLine (s : State) (g : Nat) : State :=
  match (s.scanner g).line with
  | none => s
  | some l =>
    if l.stale then
      s.modScanner g fun x => { x with line := some { l with
        stale := false, codes := (s.buildLine g l.slot l.n l.facet l.dir l.slates l.carryIn).1 } }
    else s

/-- The next CODE frame of the line, once its trims have gone (R235, R239): its 16 cells under the dwell watchdog (R252). -/
def State.sendCode (s : State) (g : Nat) : State :=
  let s := s.refreshLine g
  match (s.scanner g).line with
  | none => s
  | some l =>
    let k := l.codesSent
    if l.aborted ∨ l.cells ≤ 16 * k ∨ l.trimsReady k = false ∨ (s.link g).state = .disabled then s
    else
      let data := (upTo 16).flatMap fun i => cellBlocks (l.codes.map fun m => mapGet 0 m (16 * k + i))
      let s := s.sendFrame g .codeFrame 0x4B (16 * k) data
      let s := s.modScanner g fun x => { x with line := some { l with codesSent := k + 1 } }
      let (runs, trip) := dwellStep (64 * s.cfg (0x2A00 + g) 4) l k (s.link g).runs
      let s := s.modLink g fun x => { x with runs }
      if trip ∧ (s.link g).dwellTrip = false then
        let s := s.modLink g fun x => { x with dwellTrip := true, dwellTrips := wrapInc 32 x.dwellTrips }
        ((s.raiseLink g 3).abortLine g).relaser g
      else s

/-- TRIM_FRAME_SEND (R236): the next knot's trims. -/
def execTrimFrameSend (g : Nat) (s : State) : State := s.sendTrim g

/-- CODE_FRAME_SEND (R235, R239, R252): the next 16 cells, with at most 64 frames ahead of their cells (R240). -/
def execCodeFrameSend (g : Nat) (s : State) : State :=
  match (s.scanner g).line with
  | none => s
  | some l => if l.endedFrames s.timebase + 64 ≤ l.codesSent then s else s.sendCode g

/-- What is left of the line's frames goes out in the order of R239, at most n of them. -/
def State.sendRest (s : State) (g : Nat) : Nat → State
  | 0 => s
  | n + 1 =>
    match (s.scanner g).line with
    | none => s
    | some l =>
      if l.allSent then s
      else (if l.trimsReady l.codesSent then s.sendCode g else s.sendTrim g).sendRest g n

/-- By the end of its last cell, and before the next LINE frame, every frame of a line has been sent (R239, R240). -/
def State.finishFrames (s : State) (g : Nat) : State := s.sendRest g (1024 + 1280)

end Sys2Proof.Machine
end

