-- ==== Sys2Proof/Machine/Scan.lean ====
section
/-! DEFINITION. Beam detect edges, facet identity, the phase loop, the line-start commitment and the scanner commands
(chapter 7; R137, R139, R234). -/

namespace Sys2Proof.Machine

/-! The reference clock (R212, R338, R341). -/

/-- f_vco of the auxiliary synthesiser of die d in Hz. -/
def State.fVco (s : State) (d : Nat) : Rat := (s.cfg (0x3808 + d) 1 : Rat) * 100000000 / (2 ^ 24 : Nat)

/-- Divider word nearest to f_vco / (2 f), and whether DINT had to be limited. -/
def dividerWord (fvco f : Rat) : Nat × Bool :=
  let top := 2 ^ 48 - 1
  if f ≤ 0 then (top, true)
  else
    let w := (ratFloor (fvco / (2 * f) * (2 ^ 24 : Nat) + 1 / 2)).toNat
    if w < 8 * 2 ^ 24 then (8 * 2 ^ 24, true) else if top < w then (top, true) else (w, false)

/-- The reset word of a divider (Table 11-2): DINT 1,600. -/
def dividerReset : Nat := 1600 * 2 ^ 24

/-- Output k of die d enabled or disabled (R342); an enable restarts its LFSR (R339). -/
def State.setOutput (s : State) (d k : Nat) (b : Bool) : State :=
  let s := if b && !bit (s.cfg (0x3808 + d) 13) k then s.restartLfsrs d [k + 1] else s
  s.setCfg (0x3808 + d) 13 (setBit (s.cfg (0x3808 + d) 13) k b)

/-- Set the reference of scanner g to f_ref: staging and active word, with clock cause 6 where DINT is limited (R341). -/
def State.setRef (s : State) (g : Nat) (f : Rat) : State :=
  let d := scannerStation g
  let (w, lim) := dividerWord (s.fVco d) f
  let s := s.setCfg (0x3808 + d) (3 + g % 4) w
  let s := { s with dividers := mapSet dividerReset s.dividers (8 * d + g % 4) w }
  let s := (s.modScanner g fun x => { x with fref := f, clock := true }).setOutput d (g % 4) true
  if lim then s.raise 0x28 d (g % 4) 6 else s

/-! Facet identity (R203 to R207, R221). -/

/-- Deviations by facet in 1/16 ppm of a measured revolution. -/
def deviations (rev : List (Nat × Nat × Bool)) (f : Nat) : List Rat :=
  let mean : Rat := (((rev.map fun r => r.2.1).sum : Nat) : Rat) / ((max 1 rev.length : Nat) : Rat)
  (upTo f).map fun k => match rev.find? fun r => decide (r.1 = k) with
    | some r => if mean = 0 then 0 else ((r.2.1 : Rat) - mean) / mean * 16000000
    | none => 0

/-- D(r) of R204. -/
def scoreD (m : List Rat) (sig : List Int) (f r : Nat) : Rat :=
  ((upTo f).map fun k => ratAbs (m.getD k 0 - (sig.getD ((k + r) % f) 0 : Int))).sum

/-- Rotation with the lowest D among those listed; the lowest number on a tie. -/
def bestRot (m : List Rat) (sig : List Int) (f : Nat) (rs : List Nat) : Nat :=
  rs.foldl (fun b r => if scoreD m sig f r < scoreD m sig f b then r else b) (rs.headD 0)

/-- Position of the largest entry; the lowest on a tie. -/
def argMax (xs : List Rat) : Nat :=
  ((upTo xs.length).foldl (fun b k => if xs.getD b 0 < xs.getD k 0 then k else b) 0)

/-- Learning is complete: the signature is stored and, in mode 0, facets are numbered from it (R203, R204). -/
def State.learned (s : State) (g : Nat) (m : List Rat) : State :=
  let x := s.scanner g
  let f := s.facetCount g
  let mean := x.learnSum.map fun v => v / ((max 1 x.learnRevs : Nat) : Rat)
  let p := argMax mean
  let sig := (upTo f).map fun k => ratFloor (mean.getD ((p + k) % f) 0 + 1 / 2)
  let ds := ((upTo f).map fun r => scoreD ((upTo f).map fun k => m.getD ((p + k) % f) 0) sig f r).mergeSort fun a b => decide (a ≤ b)
  let ok := decide (((f * s.cfg (0x2900 + g) 24 : Nat) : Rat) ≤ ds.getD 1 0 - ds.getD 0 0)
  let named := decide (s.identityMode g = 0)
  let s := s.modScanner g fun x =>
    { x with
      signature := sig, distinct := ok, state := .speedHold, learnSum := [], learnRevs := 0, slipRots := []
      numbered := named || x.numbered
      facet := if named = false then x.facet else if ok then (x.facet + f - p) % f else 0 }
  (if ok then s else s.raiseScan g 6).settlePolygon g

/-- A revolution is complete. One with an inferred edge is scored like any other (R205), but it has an interval that was not
measured and takes no part in learning (DEDUCED from R203, log 39). Every rotation that scores
lower than rotation 0 by the margin is kept for the next revolution; of several that do so twice the one that scores lowest is taken
(DESIGN CHOICE, log 39). -/
def State.finishRev (s : State) (g : Nat) : State :=
  let x := s.scanner g
  let f := s.facetCount g
  let s := s.modScanner g fun x => { x with rev := [] }
  let m := deviations x.rev f
  if x.state = .learning then
    if x.rev.any fun r => r.2.2 then s
    else
      let total := (x.rev.map fun r => r.2.1).sum
      let rate : Rat := if total = 0 then 0 else (f : Rat) * 16 * (ticksPerS : Rat) / (total : Rat)
      let goal := x.hold.at_ s.timebase
      if ratAbs (rate - goal) * 1000 ≤ goal then
        let s := s.modScanner g fun x =>
          { x with learnSum := (upTo f).map (fun k => x.learnSum.getD k 0 + m.getD k 0), learnRevs := x.learnRevs + 1 }
        if s.cfg (0x2900 + g) 23 ≤ (s.scanner g).learnRevs then s.learned g m else s
      else s
  else if x.signature = [] then s
  else if x.numbered = false then
    let r := bestRot m x.signature f (upTo f)
    s.modScanner g fun x => { x with facet := (x.facet + r) % f, numbered := true, slipRots := [] }
  else
    let margin : Rat := ((f * s.cfg (0x2900 + g) 24 : Nat) : Rat)
    let wins := ((upTo f).drop 1).filter fun r => decide (margin ≤ scoreD m x.signature f 0 - scoreD m x.signature f r)
    let twice := wins.filter fun r => x.slipRots.contains r
    if twice = [] then s.modScanner g fun x => { x with slipRots := wins }
    else
      let r := bestRot m x.signature f twice
      (s.modScanner g fun x =>
        { x with facet := (x.facet + r) % f, slipRots := [], slips := wrapInc 32 x.slips }).raiseScan g 3

/-- An interval ends at an edge: revolutions are measured in mode 0, and in LEARNING (R203, R220). In mode 2, where every edge is
facet 0, positions count on from the first edge. -/
def State.identify (s : State) (g facet tau : Nat) (inferred : Bool) : State :=
  let mode := s.identityMode g
  if (s.scanner g).state ≠ .learning ∧ (mode ≠ 0 ∨ (s.scanner g).distinct = false) then s
  else
    let pos := fun (x : Scanner) => if mode = 2 then x.rev.length else facet
    let s := s.modScanner g fun x => { x with rev := (pos x, tau, inferred) :: x.rev }
    if s.facetCount g ≤ (s.scanner g).rev.length then s.finishRev g else s

/-- Number the facet of a new edge (R205 to R207). -/
def State.numberFacet (s : State) (g : Nat) (accepted : Bool) : State :=
  let x := s.scanner g
  let next := (x.facet + 1) % s.facetCount g
  if s.flatFacets g then s.modScanner g fun x => { x with facet := 0, numbered := true }
  else if s.identityMode g = 1 ∧ x.indexSeen ∧ accepted then
    let s1 := s.modScanner g fun x => { x with facet := 0, numbered := true, indexSeen := false }
    if x.numbered ∧ next ≠ 0 then (s1.modScanner g fun x => { x with slips := wrapInc 32 x.slips }).raiseScan g 3 else s1
  else s.modScanner g fun x => { x with facet := next }

/-! Lines (R137, R202, R218, R242). -/

/-- End of a line in 1/16 tick. -/
def Line.end16 (l : Line) : Nat := l.tls16 + l.cells * l.period / 4096

/-- The line of scanner g is over; the LINE frame of an entry to SEARCH that waited for it follows. -/
def State.dropLine (s : State) (g : Nat) (full : Bool) : State :=
  match (s.scanner g).line with
  | none => s
  | some l =>
    let s := (s.modScanner g fun x => { x with line := none }).adoptBand g
    let s := if (s.slot l.slot).seq = l.seq then s.sweepDone g l.slot l.n (full && !l.aborted) else s
    if (s.scanner g).searchDue then s.sendSearchLine g else s

/-- A line that is still being emitted at an accepted edge is an overrun (R202); one that is over, or aborted, is not. With no
line the interval before the edge has passed (Table 14-5). -/
def State.overrun (s : State) (g t16 : Nat) : State :=
  match (s.scanner g).line with
  | none => s.adoptBand g
  | some l =>
    if l.aborted then s.dropLine g false
    else if l.end16 ≤ t16 then (s.finishFrames g).dropLine g true
    else
      let s := s.modScanner g fun x => { x with overruns := wrapInc 32 x.overruns }
      let s := if (s.slot l.slot).seq = l.seq then s.flagSlot l.slot 1 else s
      ((s.raiseScan g 1).abortLine g).dropLine g false

/-! Edges (R200 to R202). -/

/-- Facet period in 1/16 tick. -/
def State.period16 (s : State) (g : Nat) : Rat := s.facetPeriod g * 16

/-- LINE frame of an edge without exposure (R233): CELLS is 0. -/
def State.darkHeader (s : State) (g facet t16 : Nat) : State := s.sendLine g (s.edgeHeader g facet t16) 0 false

/-- A line that is over by the instant t16 leaves the scanner; of one that is not, what is left of its frames is sent before the next
LINE frame (R239). -/
def State.closeLine (s : State) (g t16 : Nat) : State :=
  let s := s.finishFrames g
  match (s.scanner g).line with
  | none => s
  | some l => if l.aborted ∨ l.end16 ≤ t16 then s.dropLine g true else s

/-- The web is moving forward (R216). -/
def State.webForwards (s : State) : Bool := s.webForward && s.web.moving && decide (s.cfg 0x2180 2 ≠ 0)

/-- A sweep that is due at position w is not exposed. While the web does not move forward it is still to come, and its panel is
flagged once its bell has rung (DEDUCED, log 39: W has not yet passed it forward). -/
def State.darkDue (s : State) (g : Nat) (w : Int) : State :=
  match s.dueSweep g w with
  | none => s
  | some (i, n) =>
    if s.webForwards then s.darkSweep g i n
    else if bit (s.slot i).rung (scannerStation g) then s.flagSlot i 0 else s

/-- A missing edge (R201). -/
def State.missEdge (s : State) (g : Nat) : State :=
  match (s.scanner g).lastEdge with
  | none => s
  | some last =>
    let p := (ratFloor (s.period16 g + 1 / 2)).toNat
    let s := s.modScanner g fun x =>
      { x with missing := wrapInc 32 x.missing, inferred := x.inferred + 1, lastEdge := some (last + p), intervals := (p :: x.intervals).take 16 }
    let s := ((s.raiseScan g 2).numberFacet g false).closeLine g (16 * s.timebase)
    let facet := (s.scanner g).facet
    ((s.identify g facet p true).darkHeader g facet (last + p)).darkDue g s.w

/-- An accepted edge (R200, R202, R209, R217). -/
def State.acceptEdge (s : State) (g t16 : Nat) : State :=
  let s := s.overrun g t16
  let x := s.scanner g
  let locked := decide (x.state = .locked)
  let tau := match x.lastEdge with
    | some l => t16 - l
    | none => 0
  let s := s.flipsNow g fun t => decide (t / 2 < t16 / 32)
  let s := s.modScanner g fun x =>
    { x with
      state := if x.state = .search then (if s.identityMode g = 0 ∧ x.signature = [] then .learning else .speedHold) else x.state
      firstEdge := false, lastEdge := some t16, lastAccepted := some t16, inferred := 0
      intervals := if x.firstEdge then x.intervals else (tau :: x.intervals).take 16 }
  let s := s.numberFacet g true
  let y := s.scanner g
  let s := s.modScanner g fun x =>
    { x with
      edge := some { t16, wl := s.w, facet := y.facet, locked, inferred := false, numbered := y.numbered }
      phase := some { t16, wa := s.w, ta := s.web.lastCountAt } }
  let s := if x.firstEdge then s else s.identify g y.facet tau false
  if x.state = .search then s.settlePolygon g else s

/-- BD_EDGE (R198, R200): an edge of a pulse of `ns` nanoseconds; only the configured edge of a pulse of 10 ns or more is captured.
One inside the blind window is spurious; one beyond the missing margin follows a missing edge. -/
def execBdEdge (g t16 : Nat) (falling : Bool) (ns : Nat) (s : State) : State :=
  let x := s.scanner g
  if falling ≠ decide (s.cfg (0x2900 + g) 6 = 1) ∨ ns < 10 then s
  else if s.scannerPresent g = false ∨ x.state.lit = false ∨ x.laser = false then s
  else
    let s := s.advanceTo (t16 / 16)
    let judge (s : State) (late : State → State) : State :=
      let p := s.period16 g
      let tau : Rat := ((t16 : Int) - ((s.scanner g).lastEdge.getD 0 : Nat) : Int)
      if tau < p * (s.cfg (0x2900 + g) 12 : Rat) / 256 then
        s.modScanner g fun x => { x with spurious := wrapInc 32 x.spurious }
      else if tau ≤ p * (1 + (s.cfg (0x2900 + g) 13 : Rat) / 256) then s.acceptEdge g t16
      else late s
    if x.firstEdge then s.acceptEdge g t16
    else judge s fun s => judge (s.missEdge g) id

/-- BD_MISSING (R201): no edge by (1 + μ)P. -/
def execBdMissing (g : Nat) (s : State) : State :=
  let x := s.scanner g
  match x.lastEdge with
  | none => s
  | some last =>
    if s.scannerPresent g = false ∨ x.state.lit = false ∨ x.laser = false ∨ x.firstEdge then s
    else
      let t := last + (ratFloor (s.period16 g * (1 + (s.cfg (0x2900 + g) 13 : Rat) / 256))).toNat
      (s.advanceTo (t / 16)).missEdge g

/-! The phase loop (R208 to R215). -/

/-- Γ_g of the phase grid (R208). -/
def State.gridBase (s : State) (g : Nat) : Int :=
  let st := scannerStation g
  let w0 := if s.tt.state = .idle then s.tt.nextOrigin else s.tt.origin0
  w0 + s.stationOffset st - s.exposureArc st - (if (s.station st).band = 1 then lu (s.leadBeam g) else 0)

/-- Phase error of a web position in 1/65,536 line unit, -Λ/2 ≤ e < Λ/2 (R210), rounded down to Q15.16 (DESIGN CHOICE, log 39). -/
def State.phaseError (s : State) (g : Nat) (wbd : Rat) : Int :=
  let lam := lu (s.lambda (scannerStation g))
  let d := ratFloor (wbd - (s.gridBase g : Rat))
  (d + lam / 2) % lam - lam / 2

/-- W_BD (R209), in 1/65,536. -/
def PhaseEdge.wbd (e : PhaseEdge) : Rat :=
  match e.tb with
  | none => (e.wa : Rat)
  | some tb =>
    if tb ≤ e.ta then (e.wa : Rat)
    else (e.wa : Rat) + ((e.wb - e.wa : Int) : Rat) * ((e.t16 : Rat) / 16 - (e.ta : Rat)) / ((tb - e.ta : Nat) : Rat)

/-- The glide setpoint moved towards 0 by σ (R214). -/
def glideStep (x sigma : Int) : Int := if 0 ≤ x then max 0 (x - sigma) else min 0 (x + sigma)

/-- GLIDING and LOCKED at an accepted edge with phase error e (R215). -/
def State.lockStep (s : State) (g : Nat) (e : Int) : State :=
  let c := fun k => s.cfg (0x2900 + g) k
  let x := s.scanner g
  match x.state with
  | .gliding =>
    let run := if x.glide = 0 ∧ e.natAbs ≤ c 14 then x.lockRun + 1 else 0
    let s := s.modScanner g fun x => { x with glideEdges := x.glideEdges + 1, lockRun := run }
    if c 15 ≤ run then s.modScanner g fun x => { x with state := .locked, lockRun := 0, glideEdges := 0 }
    else if c 19 ≤ x.glideEdges + 1 then s.raiseScan g 5 else s
  | .locked =>
    if c 16 < e.natAbs then
      (s.modScanner g fun x =>
        { x with state := .gliding, glide := e, freshLock := false, lockRun := 0, glideEdges := 0,
                 excursions := wrapInc 32 x.excursions }).raiseScan g 4
    else s
  | _ => s

/-- One sample of the scanner's slot (R212): the error input of its mode, limits ± p f_ff, and the reference clock. -/
def State.sampleLoop (s : State) (g t16 : Nat) (ff sp y : Rat) (dt16 : Option Nat) : State :=
  let j := 64 * scannerStation g + g % 4
  let band := (s.cfg (0x2900 + g) 17 : Rat) / 65536 * ff
  let top : Rat := 10 / 2000
  let (dt, s) := match dt16 with
    | some d => (min top ((d : Rat) / (16 * (ticksPerS : Rat))), s)
    | none => let (n, s1) := s.freeNat; (min top (((n + 1 : Nat) : Rat) / (ticksPerS : Rat)), s1)
  let s := s.modLoop j fun l => { l with setpoint := sp, input := y, ff }
  let scaled := (rMul y (s.cfgReal (0x3200 + j) 9)).getD y
  let s := s.applyLaw j (t16 / 16) { s.lawIn j dt scaled with setpoint := sp, ff := 0, lo := -band, hi := band, err := some (sp - y) }
  let u := clampR (-band) band (s.loopSlot j).u
  s.setRef g ((s.cfg (0x2900 + g) 8 : Rat) * (ff + u))

/-- PHASE_SAMPLE (R209 to R215): the count after the edge has come, or P/4 has passed without one. -/
def execPhaseSample (g : Nat) (s : State) : State :=
  let x := s.scanner g
  match x.phase with
  | none => s
  | some ph =>
    if s.scannerPresent g = false ∨ x.state.lit = false then s
    else
      let wbd := ph.wbd
      let e := s.phaseError g wbd
      let before := x.wPrev
      let s := s.modScanner g fun x =>
        { x with phase := none, err := e, errs := (e :: x.errs).take 64, wPrev := some (wbd, ph.t16) }
      let dt16 := before.map fun b => ph.t16 - b.2
      if x.state.phased then
        let lam := (s.lambda (scannerStation g) : Rat)
        let ff : Rat := match before with
          | some (w, t) => if ph.t16 ≤ t then 0 else (wbd - w) / 65536 * 16 * (ticksPerS : Rat) / ((ph.t16 - t : Nat) : Rat) / lam
          | none => x.hold.at_ s.timebase
        let gl := if x.freshLock then e else glideStep x.glide (s.cfg (0x2900 + g) 18)
        let s := s.modScanner g fun x => { x with glide := gl, freshLock := false }
        (s.sampleLoop g ph.t16 ff ((gl : Rat) / 65536) ((e : Rat) / 65536) dt16).lockStep g e
      else
        let ff := x.hold.at_ s.timebase
        let p := s.facetPeriod g
        let y := if x.intervals = [] ∨ p = 0 then ff else (ticksPerS : Rat) / p
        s.sampleLoop g ph.t16 ff ff y dt16

/-! Mean phase error and neighbours (R210, R225). -/

def State.meanError (s : State) (g : Nat) : Int :=
  let es := (s.scanner g).errs
  if es = [] then 0 else es.sum / (es.length : Int)

/-! The line-start commitment (R139, R216 to R218, R234). -/

/-- The program deadline of every lane of the scanner (R139). -/
def State.deadlines (s : State) (g i n : Nat) : State :=
  (upTo 32).foldl (fun s b =>
    match s.beamFirst g b with
    | none => s
    | some f =>
      let l := laneOf g b
      let x := s.lane l
      if (s.slot i).h ≤ f + s.sweepStep (scannerStation g) * n then s
      else if x.state = .running then
        if (x.codeLine i n).isSome then s
        else if x.active ∧ x.slot = i ∧ x.n = n then
          ((s.modLane l fun x => { x with active := false }).flagSlot i 0).raiseLane l 5
        else (s.flagSlot i 0).raiseLane l 8
      else s.flagSlot i 0) s

/-- Lines of sweep n that a beam of scanner g leaves dark: its lane is detained or has no code line, or the beam failed (R56). -/
def State.dimSweep (s : State) (g i n : Nat) : State :=
  let st := scannerStation g
  (upTo 32).foldl (fun s b =>
    match s.beamFirst g b with
    | none => s
    | some f =>
      let y := f + s.sweepStep st * n
      let x := s.lane (laneOf g b)
      if y < (s.slot i).h ∧ (x.state = .detained ∨ (x.codeLine i n).isNone ∨ s.darkIn i g b) then s.dimLine i st y else s) s

/-- The blend zones of the lines of sweep n at scanner g are decided (R179). -/
def State.fixSweep (s : State) (g i n : Nat) : State :=
  (upTo 32).foldl (fun s b =>
    match s.beamFirst g b with
    | none => s
    | some f =>
      let y := f + s.sweepStep (scannerStation g) * n
      if y < (s.slot i).h then s.fixBlends i g b y else s) s

/-- Every beam of scanner g is dark for the panel in slot i (R57): its sweeps are not exposed. -/
def State.scannerDark (s : State) (i g : Nat) : Bool := decide (mapGet 0 (s.slot i).dark g % 2 ^ 32 = 2 ^ 32 - 1)

/-- The exposed line of an edge (R217, R218, R233). -/
def State.exposeLine (s : State) (g i n : Nat) (e : Edge) : State :=
  let st := scannerStation g
  let p := s.slot i
  let x := s.spanOf g
  let cells := x.2 + 1 - x.1
  let (tls16, period) := s.lineStart g e.t16
  let dir := s.cfg (0x2A00 + g) 3
  let s := s.fixSweep g i n
  let slates := (upTo 32).map fun b => s.slateFor (laneOf g b) p.seq
  let carryIn := s.carryFor g i n
  let (codes, carry, clamp) := s.buildLine g i n e.facet dir slates carryIn
  let s := s.dimSweep g i n
  let lead := if (s.station st).band = 1 then s.leadBeam g else 0
  let s := if clamp then s.modLane (laneOf g lead) fun x => { x with leadClamped := true } else s
  let nextLine : Int := p.origin + lu (s.sweepStep st * (n + 1))
  let word := p.seq % 2 ^ 32 * 2 ^ 208 + s.edgeHeader g e.facet e.t16 + 2 ^ 100 + cells % 2 ^ 15 * 2 ^ 80
  let s := s.sendLine g word p.seq true
  let tag := ((s.link g).lines + 65535) % 65536
  let s := s.modLink g fun k => { k with runs := [] }
  s.modScanner g fun x =>
    { x with
      carry, carryFor := if carry = [] then none else some nextLine
      line := some { slot := i, n, tag, seq := p.seq, facet := e.facet, tls16, period, dir, cells, codes, slates, carryIn } }

/-- Every condition of R216 on the scanner for the sweep due at edge e, with no hazard and a beam left to expose. -/
def State.exposes (s : State) (g i : Nat) (e : Edge) : Bool :=
  e.locked && e.numbered && (s.scanner g).laser && !s.hazard.active && !s.scannerDark i g

/-- The edge of scanner g is committed: no sweep is due, the due sweep is exposed, or it is dark and BEAM_DARK is set on its panel
(R216, R217). A web that does not run forward leaves the carry line as it is: it survives the halt (R186). -/
def State.commitEdge (s : State) (g : Nat) (e : Edge) : State :=
  match s.dueSweep g e.wl with
  | none => s.darkHeader g e.facet e.t16
  | some (i, n) =>
    let s := if s.webForwards then s.deadlines g i n else s
    if s.webForwards && s.exposes g i e then s.exposeLine g i n e
    else
      let s := if s.webForwards then s.modScanner g fun x => { x with carry := [], carryFor := none } else s
      (s.darkHeader g e.facet e.t16).darkDue g e.wl

/-- LINE_START_COMMITMENT (R216, R217): 250 ns after the edge. -/
def execLineStartCommitment (g : Nat) (s : State) : State :=
  match (s.scanner g).edge with
  | none => s
  | some e =>
    if s.scannerPresent g = false then s
    else
      let s := s.advanceTo ((e.t16 + 6400) / 16)
      (s.modScanner g fun x => { x with edge := none }).commitEdge g e

/-- LINE_START (R218): the first cell is emitted at t_ls. -/
def execLineStart (g : Nat) (s : State) : State :=
  match (s.scanner g).line with
  | none => s
  | some l =>
    if l.started ∨ l.aborted then s
    else (s.advanceTo (l.tls16 / 16)).modScanner g fun x => { x with line := some { l with started := true } }

/-- LINE_END (R137, R36): the last pixel is emitted. -/
def execLineEnd (g : Nat) (s : State) : State :=
  match (s.scanner g).line with
  | none => s
  | some l => ((s.advanceTo (l.end16 / 16)).finishFrames g).dropLine g true

/-! Scanner commands (R222 to R224, Table 7-3). -/

def opScannerStart (g : Nat) (s : State) : Except Abort State := do
  need (s.scannerPresent g) .noSuchUnit
  need (decide ((s.scanner g).state = .off)) .state
  need (s.assigned 15 g 0 && bit (s.dieClock (scannerStation g)).lock 6 && !s.faults.fatal) .state
  let goal := s.holdGoal g
  let j := 64 * scannerStation g + g % 4
  let s := s.modScanner g fun x =>
    { x with
      state := .spinUp, since := s.timebase, laser := false, phaseLock := false
      hold := { start := goal, since := s.timebase, goal, rate := s.cfgReal (0x2900 + g) 20 } }
  let s := s.modLoop j fun l => l.start false
  need (s.ratesOk (scannerStation g)) .invalid
  .ok ((s.setRef g ((s.cfg (0x2900 + g) 8 : Rat) * goal)).settlePolygon g)

/-- SCANNER_START (R223). -/
def execScannerStart (g : Nat) (s : State) : State := command (0x2900 + g) (opScannerStart g) s

/-- STOP (Table 7-3): LASER_EN goes low, the reference clock stops and the signature is dropped. -/
def State.stopScanner (s : State) (g : Nat) : State :=
  let s := s.abortLine g
  let s := s.modScanner g fun x =>
    { x.darken with state := .off, clock := false, line := none, searchDue := false, signature := [], distinct := true, phaseLock := false }
  let s := ((s.flipsDark g).undetain 0x11 (scannerStation g) (g % 4)).setOutput (scannerStation g) (g % 4) false
  ((s.modLoop (64 * scannerStation g + g % 4) LoopSlot.stop).undetainNamed (some (64 * scannerStation g + g % 4))).errorReset

/-- STOP has no effect in OFF (R220, R223). -/
def opScannerStop (g : Nat) (s : State) : Except Abort State := do
  need (s.scannerPresent g) .noSuchUnit
  need (!(upTo 32).any fun i => (s.slot i).state.isCommitted && bit (s.slot i).mask (scannerStation g)) .state
  .ok (if (s.scanner g).state = .off then s else s.stopScanner g)

/-- SCANNER_STOP (R223). -/
def execScannerStop (g : Nat) (s : State) : State := command (0x2900 + g) (opScannerStop g) s

def opScannerRelease (g : Nat) (s : State) : Except Abort State := do
  need (s.scannerPresent g) .noSuchUnit
  need (decide ((s.scanner g).state = .detained)) .state
  let s := s.undetain 0x11 (scannerStation g) (g % 4)
  let s := s.modScanner g fun x => { x with state := .coast }
  let j := 64 * scannerStation g + g % 4
  let s := (s.undetain 0x20 (scannerStation g) (g % 4)).modLoop j fun l => if l.enabled then l else l.start false
  .ok (s.settleLaser g).errorReset

/-- SCANNER_RELEASE (R223). -/
def execScannerRelease (g : Nat) (s : State) : State := command (0x2900 + g) (opScannerRelease g) s

def opScannerRelearn (g : Nat) (s : State) : Except Abort State := do
  need (s.scannerPresent g) .noSuchUnit
  need (decide ((s.scanner g).state = .speedHold)) .state
  .ok (s.modScanner g fun x =>
    { x with state := .learning, signature := [], distinct := true, rev := []
             numbered := decide (s.identityMode g ≠ 0) && x.numbered, learnSum := [],
             learnRevs := 0, slipRots := [] })

/-- SCANNER_RELEARN (R223). -/
def execScannerRelearn (g : Nat) (s : State) : State := command (0x2900 + g) (opScannerRelearn g) s

/-- SPIN_UP_ELAPSED (R220, R249): SEARCH where LASER_EN is permitted, otherwise COAST by way of a SEARCH without it. -/
def execSpinUpElapsed (g : Nat) (s : State) : State :=
  let x := s.scanner g
  if s.scannerPresent g ∧ x.state = .spinUp then
    let s := s.advanceTo (x.since + s.cfg (0x2900 + g) 22 * ticksPerMs)
    if s.laserPermitted g then s.enterSearch g else (s.beginSearch g false).enterCoast g
  else s

end Sys2Proof.Machine
end

