-- ==== Sys2Proof/Machine/Links.lean ====
section
/-! DEFINITION. Pulse links: TIME frames, back-channel frames, link states and commands, and the laser watchdogs
(chapter 8). -/

namespace Sys2Proof.Machine

/-! TIME frames. -/

/-- TIME_FRAME_SEND (R238). -/
def execTimeFrameSend (g : Nat) (s : State) : State :=
  if s.scannerPresent g = false ∨ (s.link g).state = .disabled then s else s.sendTime g

/-! Back channel (R243 to R247). -/

/-- The bits of `a` that `b` has not. -/
def without (a b : Nat) : Nat := Nat.xor a (Nat.land a b)

/-- Beams that a CLEAR covers and whose FAILED bit is 0 in a STATUS after it are healthy again (R246). -/
def State.healBeams (s : State) (g mask : Nat) : State :=
  s.modLink g fun k =>
    let healed := without k.clearMask mask
    { k with failedMarks := without k.failedMarks healed, clearMask := without k.clearMask healed }

/-- A report of a driver: the beams that failed there fail under R57 (R247), and after a CLEAR the others are healthy
again (R246). -/
def State.failedReport (s : State) (g mask : Nat) : State :=
  let fresh := Nat.land mask (Nat.xor (s.link g).failed (2 ^ 32 - 1))
  let s := (s.healBeams g mask).modLink g fun k =>
    { k with failed := mask, failedMarks := Nat.lor k.failedMarks fresh, clearMask := without k.clearMask fresh }
  if fresh = 0 then s else (s.raiseLink g 6).beamFailed g fresh

/-- The panel whose line carried a SWEEP_TAG is defective (R247). -/
def State.darkTag (s : State) (g tag : Nat) : State :=
  let v := mapGet 0 (s.link g).tags tag
  if v = 0 then s
  else match (upTo 32).find? fun i => decide ((s.slot i).order ≠ 0) && decide ((s.slot i).seq = v - 1) with
    | some i => s.flagSlot i 0
    | none => s

/-- BACK_CHANNEL_LOCK (R243). -/
def execBackChannelLock (g : Nat) (s : State) : State :=
  if s.scannerPresent g = false ∨ (s.link g).state = .disabled then s else s.modLink g fun k => { k with symbolLock := true }

/-- The link leaves RUN: ABORT, LASER_EN low, the cause, RETRAIN (Table 8-9). -/
def State.leaveRun (s : State) (g cause : Nat) : State := ((s.abortLine g).raiseLink g cause).retrain g

/-- FRAME_LOST or LATE in a STATUS: counted, the panel of ERR_TAG is dark, cause 1; true where it is the 16th report within 1 s
(R247, Table 8-9). -/
def State.lossReport (s : State) (g tag : Nat) : State × Bool :=
  let keep := (s.link g).reports.filter fun t => decide (s.timebase < t + ticksPerS)
  let s := s.modLink g fun k => { k with lost := wrapInc 32 k.lost, reports := (s.timebase :: keep).take 16 }
  (((s.darkTag g tag).raiseLink g 1), decide (15 ≤ keep.length))

/-- A STATUS in RUN: every report of it is handled, and then the link leaves RUN where its STATE, a TIME_MISMATCH or the 16th loss
asks for it, with the first cause that does. -/
def State.statusInRun (s : State) (g raw : Nat) : State :=
  let st := bits raw 18 16
  let s := s.modLink g fun k => { k with lastStatus := s.timebase }
  let s := s.failedReport g (bits raw 63 32)
  let (s, many) := if bit raw 24 ∨ bit raw 27 then s.lossReport g (bits raw 95 80) else (s, false)
  if st = 0 ∨ st = 1 ∨ st = 4 then s.leaveRun g 2
  else if bit raw 26 then s.leaveRun g 8
  else if many then (s.modLink g fun k => { k with reports := [] }).leaveRun g 8
  else s

/-- STATUS_FRAME (Table 8-6, R245, R247). -/
def execStatusFrame (g raw : Nat) (s : State) : State :=
  let k := s.link g
  let st := bits raw 18 16
  if s.scannerPresent g = false ∨ k.symbolLock = false ∨ bits raw 7 0 ≠ 1 then s
  else match k.state with
    | .training =>
      let s := s.healBeams g (bits raw 63 32)
      if st = 2 ∨ st = 3 then s.modLink g fun k => { k with state := .ident, since := s.timebase, lastStatus := s.timebase } else s
    | .run => s.statusInRun g raw
    | _ => s.healBeams g (bits raw 63 32)

/-- POWER_FRAME (Table 8-7, R254). -/
def execPowerFrame (g raw : Nat) (s : State) : State :=
  let k := s.link g
  if s.scannerPresent g = false ∨ bits raw 7 0 ≠ 2 then s
  else
    let rs := (upTo 32).map fun b => bits raw (16 * b + 47) (16 * b + 32)
    let s := s.modLink g fun k => { k with ratios := rs.zipIdx.foldl (fun m p => mapSet 0xFFFF m p.2 p.1) k.ratios }
    if k.powerTrip = false ∧ rs.any fun r => decide (r ≠ 0xFFFF) && decide (16384 + s.cfg (0x2A00 + g) 6 < r) then
      ((s.modLink g fun k => { k with powerTrip := true, powerTrips := wrapInc 32 k.powerTrips }).raiseLink g 5).relaser g
    else s

/-- IDENT_FRAME (Tables 8-8 and 8-9). -/
def execIdentFrame (g raw : Nat) (s : State) : State :=
  if s.scannerPresent g = false ∨ (s.link g).state ≠ .ident ∨ bits raw 7 0 ≠ 3 then s
  else if bits raw 23 16 = 1 ∧ bits raw 31 24 = 32 ∧ 2 * s.cfg (0x2900 + g) 11 ≤ bits raw 63 32 then
    let s := s.modLink g fun k =>
      { k with
        state := .run, since := s.timebase, lastStatus := s.timebase, lines := 0, timeSent := false, tags := [], reports := []
        driverId := bits raw 95 64, latency := bits raw 111 96, maxRate := bits raw 63 32 }
    s.settleLaser g
  else (s.modLink g fun k => { k with since := s.timebase }).raiseLink g 7

/-- BAD_BACK_CHANNEL_FRAME (R243). -/
def execBadBackChannelFrame (g : Nat) (s : State) : State :=
  if s.scannerPresent g then s.modLink g fun k => { k with errors := wrapInc 32 k.errors } else s

/-- STATUS_TIMEOUT (R245): no valid STATUS for 100 µs in RUN. -/
def execStatusTimeout (g : Nat) (s : State) : State :=
  if s.scannerPresent g ∧ (s.link g).state = .run then
    (s.advanceTo ((s.link g).lastStatus + 100 * ticksPerUs)).leaveRun g 2
  else s

/-- IDENT_TIMEOUT (R245): no valid IDENT within 100 ms. -/
def execIdentTimeout (g : Nat) (s : State) : State :=
  if s.scannerPresent g ∧ (s.link g).state = .ident then
    (s.advanceTo ((s.link g).since + 100 * ticksPerMs)).retrain g
  else s

/-- RETRAIN_ELAPSED (R245): 1 ms. -/
def execRetrainElapsed (g : Nat) (s : State) : State :=
  if s.scannerPresent g ∧ (s.link g).state = .retrain then
    let s := s.advanceTo ((s.link g).since + ticksPerMs)
    s.modLink g fun k => { k with state := .training, since := s.timebase, retrains := wrapInc 32 k.retrains }
  else s

/-! Link commands (R246). -/

def opLinkEnable (g : Nat) (s : State) : Except Abort State := do
  need (s.scannerPresent g) .noSuchUnit
  need (!s.faults.fatal) .state
  .ok (if (s.link g).state = .disabled then
    s.modLink g fun k => { k with state := .training, since := s.timebase, symbolLock := false, timeSent := false }
  else s)

/-- LINK_ENABLE (R246). -/
def execLinkEnable (g : Nat) (s : State) : State := command (0x2A00 + g) (opLinkEnable g) s

def opLinkDisable (g : Nat) (s : State) : Except Abort State := do
  need (s.scannerPresent g) .noSuchUnit
  need (!(upTo 32).any fun i => (s.slot i).state.isCommitted && bit (s.slot i).mask (scannerStation g)) .state
  .ok (((s.abortLine g).modLink g fun k => { k with state := .disabled, symbolLock := false, timeSent := false }).relaser g)

/-- LINK_DISABLE (R246): LASER_EN falls, the transmitter goes to electrical idle. -/
def execLinkDisable (g : Nat) (s : State) : State := command (0x2A00 + g) (opLinkDisable g) s

def opLinkClear (g : Nat) (s : State) : Except Abort State := do
  need (s.scannerPresent g) .noSuchUnit
  .ok ((s.modLink g fun k => { k with dwellTrip := false, powerTrip := false, clearMask := k.failedMarks }).settleLaser g)

/-- LINK_CLEAR (R246): the latched trips are released; a later STATUS may mark beams healthy again. -/
def execLinkClear (g : Nat) (s : State) : State := command (0x2A00 + g) (opLinkClear g) s

/-! Laser watchdogs (R251, R253). -/

/-- LASER_EN_READBACK_MISMATCH (R251): the ball reads high for more than 50 ns while it is commanded low. -/
def execLaserEnReadbackMismatch (g : Nat) (s : State) : State :=
  if s.scannerPresent g ∧ (s.scanner g).laser = false then s.raiseLink g 9 else s

/-- BD_WATCHDOG (R253): no edge accepted within 2P. -/
def execBdWatchdog (g : Nat) (s : State) : State :=
  let x := s.scanner g
  if s.scannerPresent g = false ∨ x.laser = false ∨ x.state.lit = false then s
  else
    let from16 := match x.lastAccepted with
      | some t => t
      | none => x.laserSince16
    let s := s.advanceTo ((from16 + (ratFloor (2 * s.period16 g)).toNat + 15) / 16)
    let s := s.modLink g fun k => { k with bdTrips := wrapInc 32 k.bdTrips }
    if x.state = .search then s.raiseScan g 8
    else
      ((s.modLink g fun k => { k with bdTrip := true, bdTripAt := s.timebase }).raiseLink g 4).relaser g

/-- BD_RETRY_ELAPSED (R253): LASER_EN is permitted again. -/
def execBdRetryElapsed (g : Nat) (s : State) : State :=
  if s.scannerPresent g ∧ (s.link g).bdTrip then
    let s := s.advanceTo ((s.link g).bdTripAt + s.cfg (0x2A00 + g) 5 * ticksPerMs)
    (s.modLink g fun k => { k with bdTrip := false }).settleLaser g
  else s

end Sys2Proof.Machine
end

