-- ==== Sys2Proof/Machine/Axes.lean ====
section
/-! DEFINITION. Axes: commands by object and by ring, profiles, gears, commutation, current sampling and steps
(R274 to R291). -/

namespace Sys2Proof.Machine

/-! Positions (R275, R276). -/

/-- The commanded position moves to v: compare outputs and the following check see it. -/
def State.commandTo (s : State) (a : Nat) (v : Rat) : State := (s.moveCommanded a v).followAxis a

/-- Bring an axis up to now, with its following check. -/
def State.integrateAxis (s : State) (a : Nat) : State := (s.catchUp a).followAxis a

/-! Commands (Table 9-10, R275, R325). -/

/-- Parameters of an axis command: sub-indices 3 to 6, or the descriptor's fields. -/
structure AxisArgs where
  p1 : Int := 0
  p2 : Int := 0
  speed : Rat := 0
  accel : Rat := 0
deriving DecidableEq, Repr

def State.axisArgs (s : State) (a : Nat) : AxisArgs :=
  { p1 := s.cfgI64 (0x3000 + a) 3, p2 := s.cfgI64 (0x3000 + a) 4, speed := s.cfgReal (0x3000 + a) 5, accel := s.cfgReal (0x3000 + a) 6 }

/-- Signals that the axis's configuration uses are assigned (R506). -/
def State.axisWired (s : State) (a : Nat) : Bool :=
  let w := s.cfg (0x3000 + a) 17
  if a < 16 then s.allAssigned 1 a (upTo 6) && (bit w 23 || s.allAssigned 2 a (upTo 3))
  else if bit w 47 then s.allAssigned 4 a (upTo 4) else s.allAssigned 3 a (upTo 2)

/-- The nip axis while the timetable is not IDLE (R325). -/
def State.nipOwned (s : State) (a : Nat) : Bool := decide (s.cfg 0x2190 1 = 2) && decide (s.cfg 0x2190 2 = a) && !s.ttIdle

/-- Shared refusals of every command but STOP. -/
def State.axisFree (s : State) (a : Nat) : Bool := decide ((s.axis a).state ≠ .web) && !s.nipOwned a

/-- The net holds the stop action of an axis (R384, Table 13-1). -/
def State.axisHeld (s : State) (a : Nat) : Bool :=
  s.faults.fatal || (s.hazard.active && decide (bits (s.cfg (0x3000 + a) 15) 2 1 = 2))

/-- A speed bounded for axis a (R277). -/
def State.boundSpeed (s : State) (a : Nat) (v : Rat) : Rat := clampR (-(s.axisLimit a)) (s.axisLimit a) v

/-- Start or blend a profile (R275): a trapezoid to a target, or a ramp to a speed. A MOVE at speed 0 that does not stand on its
target only comes to rest. -/
def State.startProfile (s : State) (a : Nat) (v acc : Rat) (target : Option Int) : State :=
  let s := s.catchUp a
  let b := s.boundSpeed a v
  let t := s.timebase
  s.modAxis a fun x =>
    let way : Rat := ((target.getD 0 : Int) : Rat) - x.commanded
    { x with
      state := .moving, halting := false, clamped := decide (b ≠ v)
      target := if b = 0 ∧ ¬ (way = 0 ∧ x.vel.at_ t = 0) then none else target
      vel := if target.isSome then x.vel.bend t (trapezoid t (x.vel.at_ t) way b acc) else x.vel.turn t b acc }

/-- ENABLE: outputs active, hold the present position; the axis's slots start. -/
def State.enableAxis (s : State) (a : Nat) : State :=
  let pos : Rat := if s.cfg (0x3000 + a) 12 < 24 then (s.axisActual a : Rat) else (s.axis a).commanded
  let s := s.modAxis a fun x =>
    { x with state := .hold, commanded := pos, vel := {}, target := none, halting := false, armed := none, braked := false
             group := 0, intAt := s.timebase }
  [0, 1, 2].foldl (fun s k => s.modNamed (s.axisSlot a k) fun l => l.start false) s

/-- GEAR (R284); none where it is refused. -/
def State.gearAxis (s : State) (a : Nat) (ρ wc : Int) : Option State :=
  let s := s.catchUp a
  let x := s.axis a
  if x.state = .hold ∧ wc = -(2 ^ 63) then
    let s := s.modAxis a fun x => { x with state := .geared, ratio := ρ, wg := s.w, pg := x.commanded, armed := none }
    some (s.gearFollow a)
  else if wc ≤ s.w then none
  else if x.state = .hold then
    some (s.modAxis a fun x => { x with state := .geared, ratio := 0, wg := s.w, pg := x.commanded, armed := some (ρ, wc) })
  else some (s.modAxis a fun x => { x with armed := some (ρ, wc) })

/-- STOP (R282, R289): the stop action; cause 7 where the web is lost with it. -/
def State.stopAxis (s : State) (a : Nat) : State :=
  let gone := s.webGone a
  let s := s.toStopped a 0 false
  if gone then (s.note (codeOf 0x19 (axisDie a) a 7)).hazardNet 10 (codeOf 0x19 (axisDie a) a 7) else s

/-- TENSION (R285): the slot continues from the difference between the last velocity command and ρ × v_W. -/
def State.tensionAxis (s : State) (a : Nat) : State :=
  let s := s.catchUp a
  let x := s.axis a
  let u := x.vel.at_ s.timebase - (x.ratio : Rat) / (2 ^ 32 : Nat) * s.masterRate
  let s := s.modNamed (s.axisSlot a 3) fun l => { l.start false with u, handover := true, clamped := false }
  (s.modAxis a fun x => { x with state := .tension, target := none, halting := false }).gearFollow a

/-- SET_POSITION (R282): the position takes P1, and POSITION_LOST clears. A feedback channel takes the position too. -/
def State.placeAxis (s : State) (a : Nat) (p : Int) : State :=
  let ch := s.cfg (0x3000 + a) 12
  let s := if ch < 24 then s.setChannel ch p else s
  s.modAxis a fun x =>
    { x with commanded := (p : Rat), lost := false, pg := x.pg + ((p : Rat) - x.commanded) }

/-- Commands that start an axis output, which NMT STOPPED refuses (Table 15-2): ENABLE, MOVE, JOG, GEAR and TENSION. -/
def startsAxis (code : Nat) : Bool := [1, 3, 4, 5, 10].contains code

/-- An axis command (R274, R275): codes of Table 9-10. -/
def State.axisCommand (s : State) (a code : Nat) (p : AxisArgs) : Except Abort State := do
  need (s.axisPresent a) .noSuchUnit
  need (decide (s.nmt.state ≠ .stopped) || !startsAxis code) .state
  let x := s.axis a
  let st := x.state
  match code with
  | 7 =>
    need (decide (st ≠ .off) && decide (st ≠ .detained)) .state
    .ok (s.stopAxis a)
  | 1 =>
    need (s.axisFree a && (decide (st = .off) || decide (st = .stopped)) && s.axisWired a && !s.axisHeld a) .state
    need ((s.enableAxis a).ratesOk (axisDie a)) .invalid
    .ok (s.enableAxis a)
  | 2 =>
    need (s.axisFree a && (decide (st = .hold) || decide (st = .stopped))) .state
    .ok ((s.modAxis a fun x => { x with state := .off, braked := false, vel := {}, target := none, armed := none }).axisSlotsStop a)
  | 3 =>
    need (s.axisFree a && (decide (st = .hold) || decide (st = .moving))) .state
    .ok (s.startProfile a (ratAbs p.speed) p.accel (some p.p1))
  | 4 =>
    need (s.axisFree a && (decide (st = .hold) || decide (st = .moving))) .state
    .ok (s.startProfile a p.speed p.accel none)
  | 5 =>
    need (s.axisFree a && (decide (st = .hold) || decide (st = .geared))) .state
    match s.gearAxis a p.p1 p.p2 with
    | some s1 => .ok s1
    | none => .error .state
  | 6 =>
    need (s.axisFree a && (decide (st = .moving) || decide (st = .geared) || decide (st = .tension))) .state
    .ok (s.beginAxisHalt a 0)
  | 8 =>
    need (s.axisFree a) .state
    .ok (s.placeAxis a p.p1)
  | 9 =>
    need (s.axisFree a && decide (st = .detained)) .state
    let s := (upTo 4).foldl (fun s k => match s.axisSlot a k with
      | some j => s.undetain 0x20 (slotDie j) (j % 64)
      | none => s) s
    .ok (((s.undetain 0x19 (axisDie a) a).modAxis a fun x => { x with state := .off, braked := false }).errorReset)
  | 10 =>
    need (s.axisFree a && (decide (st = .hold) || decide (st = .moving) || decide (st = .geared))) .state
    .ok (s.tensionAxis a)
  | _ => .error .invalid

/-- An axis command written to sub-index 1. -/
def opAxis (a code : Nat) (s : State) : Except Abort State := s.axisCommand a code (s.axisArgs a)

/-- AXIS_ENABLE (R274). -/
def execAxisEnable (a : Nat) (s : State) : State := command (0x3000 + a) (opAxis a 1) s

/-- AXIS_DISABLE (R274). -/
def execAxisDisable (a : Nat) (s : State) : State := command (0x3000 + a) (opAxis a 2) s

/-- MOVE (R275). -/
def execMove (a : Nat) (s : State) : State := command (0x3000 + a) (opAxis a 3) s

/-- JOG (R275). -/
def execJog (a : Nat) (s : State) : State := command (0x3000 + a) (opAxis a 4) s

/-- GEAR (R284). -/
def execGear (a : Nat) (s : State) : State := command (0x3000 + a) (opAxis a 5) s

/-- AXIS_HALT (R274). -/
def execAxisHalt (a : Nat) (s : State) : State := command (0x3000 + a) (opAxis a 6) s

/-- AXIS_STOP (R282). -/
def execAxisStop (a : Nat) (s : State) : State := command (0x3000 + a) (opAxis a 7) s

/-- SET_POSITION (R282). -/
def execSetPosition (a : Nat) (s : State) : State := command (0x3000 + a) (opAxis a 8) s

/-- AXIS_CLEAR (R274). -/
def execAxisClear (a : Nat) (s : State) : State := command (0x3000 + a) (opAxis a 9) s

/-- TENSION (R285). -/
def execTension (a : Nat) (s : State) : State := command (0x3000 + a) (opAxis a 10) s

/-! What an axis does by itself. -/

/-- The nip axis has reached a commanded nip position (R325). -/
def State.nipReached (s : State) (a : Nat) : State :=
  if s.cfg 0x2190 1 = 2 ∧ s.cfg 0x2190 2 = a then
    let p := s.axisCommanded a
    if p = s.cfgI64 0x2190 3 then { s with nip := .opened }
    else if p = s.cfgI64 0x2190 4 then { s with nip := .closed } else s
  else s

/-- MOVE_COMPLETE (R274, R275): the profile has run, and the target is reached exactly; event 0x0200. A step generator has then emitted
the steps to it. -/
def execMoveComplete (a : Nat) (s : State) : State :=
  let x := s.axis a
  match x.target with
  | none => s
  | some t =>
    if s.axisPresent a ∧ x.state = .moving then
      let s := (s.advanceTo x.vel.endAt).catchUp a
      let s := s.modAxis a fun x =>
        { x with
          state := .hold, vel := {}, target := none, intAt := s.timebase
          micro := if a < 16 then x.micro else x.micro + (t - ratFloor x.commanded), acc := if a < 16 then x.acc else 0 }
      let s := s.commandTo a (t : Rat)
      (s.postEvent (axisDie a) 0x0200 a (ofSigned 64 t)).nipReached a
    else s

/-- HALT_COMPLETE (R274): at rest in HOLD. -/
def execHaltComplete (a : Nat) (s : State) : State :=
  let x := s.axis a
  if s.axisPresent a ∧ x.state = .moving ∧ x.halting then
    ((s.advanceTo x.vel.endAt).integrateAxis a).modAxis a fun x =>
      if x.state = .moving then { x with state := .hold, vel := {}, halting := false, target := none } else x
  else s

/-- GEAR_ARM_CROSSING (R284): W has crossed W_c forward. -/
def execGearArmCrossing (a : Nat) (s : State) : State :=
  let x := s.axis a
  match x.armed with
  | none => s
  | some (r, wc) =>
    if s.axisPresent a ∧ x.state = .geared ∧ wc ≤ s.w then
      let pc := x.pg + (x.ratio : Rat) / (2 ^ 32 : Nat) * (((wc - x.wg : Int) : Rat) / 65536)
      (s.modAxis a fun x => { x with ratio := r, wg := wc, pg := pc, armed := none }).gearFollow a
    else s

/-! Commutation and current (R278 to R280). -/

/-- Position of a Hall state in the cycle 1, 3, 2, 6, 4, 5; none for 000 and 111. -/
def hallSector : Nat → Option Nat
  | 1 => some 0
  | 3 => some 1
  | 2 => some 2
  | 6 => some 3
  | 4 => some 4
  | 5 => some 5
  | _ => none

/-- HALL_CHANGE (R278): levels C, B and A in bits 2 to 0. -/
def execHallChange (a levels : Nat) (s : State) : State :=
  let w := s.cfg (0x3000 + a) 17
  let x := s.axis a
  if s.axisPresent a = false ∨ 16 ≤ a ∨ bit w 23 then s
  else
    let h := Nat.xor (levels % 8) (bits w 19 17)
    let live := decide (x.state ≠ .off) && decide (x.state ≠ .detained)
    let fault (s : State) : State := if live then s.raiseAxis a 1 else s
    match hallSector h with
    | none => fault s
    | some k =>
      let k := (k + bits w 22 20) % 6
      let s1 := s.modAxis a fun x => { x with hall := some k }
      match x.hall with
      | none => s1
      | some o =>
        if k = (o + 1) % 6 then s1.modAxis a fun x => { x with halls := x.halls + 1 }
        else if o = (k + 1) % 6 then s1.modAxis a fun x => { x with halls := x.halls - 1 }
        else if k = o then s
        else fault s1

/-- Duty of a BLDC axis: the output of its innermost named slot, current before velocity. -/
def State.axisDuty (s : State) (a : Nat) : Rat :=
  match s.axisSlot a 0 with
  | some j => (s.loopSlot j).u
  | none => s.namedOut (s.axisSlot a 1)

/-- Ceiling of a rational. -/
def ratCeil (q : Rat) : Int := -(ratFloor (-q))

/-- Sector of a BLDC axis: of its Hall inputs, or of the electrical angle of its feedback encoder, rounded down (R278). -/
def State.sectorOf (s : State) (a : Nat) : Option Nat :=
  let w := s.cfg (0x3000 + a) 17
  let ch := s.cfg (0x3000 + a) 12
  if bit w 23 = false then (s.axis a).hall
  else if 24 ≤ ch then none
  else
    let n : Int := ((s.chan ch).position - (bits w 15 0 : Int)) * ((bits w 27 24 * 2 ^ 16 : Nat) : Int)
    some (((n / ((max 1 (s.cfg (0x3000 + a) 19) : Nat) : Int)) % 65536).toNat * 6 / 65536)

/-- A PWM period of a BLDC axis (R279): whether it is sampled, with its place in a group of shifted pulses and its on-time. -/
def State.shuntGroup (s : State) (a : Nat) : Bool × Axis :=
  let x := s.axis a
  if 0 < x.group then (false, { x with group := x.group - 1, onTime := x.share })
  else
    let w := s.cfg (0x3000 + a) 17
    let period : Rat := 1 / ((max 1 (bits w 63 48) * 100 : Nat) : Rat)
    let on := ratAbs (s.axisDuty a) * period
    let tw : Rat := ((bits w 39 32 * 20 : Nat) : Rat) / 1000000000
    let k := (ratCeil (tw / on)).toNat
    if tw ≤ on then (true, { x with onTime := on })
    else if on = 0 ∨ 16 < k then (false, { x with onTime := on })
    else (true, { x with group := k - 1, onTime := tw, share := (k * on - tw) / ((k - 1 : Nat) : Rat) })

/-- Slots that this axis's PWM period triggers become due (kind 5). -/
def State.pwmDue (s : State) (a : Nat) : State :=
  (s.slotsL.map (·.1)).foldl (fun s j =>
    if (s.loopSlot j).enabled ∧ s.trigWord j = 5 * 2 ^ 28 + a ∧ some j ≠ s.axisSlot a 0 then
      s.modLoop j fun l => { l with due := true }
    else s) s

/-- The current slot's trigger: its computation waits for the sample, or keeps its last input (R279). -/
def State.triggerCurrent (s : State) (a : Nat) (sampled : Bool) : State :=
  match s.axisSlot a 0 with
  | none => s
  | some j =>
    if (s.loopSlot j).enabled then
      let s := if (s.loopSlot j).trigger.isSome then s.missSlot j else s
      s.modLoop j fun l => { l with trigger := some s.timebase, waiting := sampled }
    else s

/-- PWM_PERIOD (R276, R279, R281): the commanded position moves on, shunt or supply are sampled, slots are triggered. -/
def execPwmPeriod (a : Nat) (s : State) : State :=
  let x := s.axis a
  let w := s.cfg (0x3000 + a) 17
  if s.axisPresent a = false ∨ x.state = .off ∨ x.state = .detained ∨ (16 ≤ a ∧ !bit w 47) then s
  else
    let t := x.intAt + 16000000 / max 1 (bits w 63 48)
    let s := (s.advanceTo t).integrateAxis a
    if 16 ≤ a then (s.request (.supply a) (bits w 39 36)).pwmDue a
    else
      let (sampled, x) := s.shuntGroup a
      let sector := s.sectorOf a
      let take := sampled && !(x.sector.isSome && decide (x.sector ≠ sector))
      let s := s.modAxis a fun _ => { x with sector }
      let s := s.triggerCurrent a take
      (if take then s.request (.shunt a) (bits w 31 28) else s).pwmDue a

/-- Goal and rate of the velocity command of an axis from now on. -/
def State.axisGoal (s : State) (a : Nat) : Rat × Rat :=
  if (s.axis a).state = .web then
    let r := s.transport.speed.from_ s.timebase
    let k : Rat := (s.cfgI64 0x311F 2 : Rat) / (2 ^ 32 : Nat)
    (r.goal * k, r.rate * ratAbs k)
  else
    let r := (s.axis a).vel.from_ s.timebase
    (r.goal, r.rate)

/-- STEP_EMIT (R281): a carry or borrow of the accumulator, at the velocity of now, or out of rest at the rate in force; a step whose
DIR changes waits for the DIR setup time in step/dir mode. -/
def execStepEmit (a : Nat) (s : State) : State :=
  let x := s.axis a
  if s.axisPresent a = false ∨ a < 16 ∨ x.state = .off ∨ x.state = .stopped ∨ x.state = .detained then s
  else
    let s := s.catchUp a
    let x := s.axis a
    let v := s.axisVelocity a
    let (goal, rate) := s.axisGoal a
    let dir := decide (0 < v) || (decide (v = 0) && decide (0 < goal))
    if v = 0 ∧ (goal = 0 ∨ rate = 0) then s
    else
      let inc := (ratFloor (ratAbs v * (2 ^ 48 : Nat) / 100000000)).toNat
      let rest := if dir then 2 ^ 48 - x.acc else x.acc + 1
      let n := if inc = 0 then (ratCeil (ratSqrt (2 * (rest : Rat) / (2 ^ 48 : Nat) / max rate 1) * 100000000)).toNat else (rest + inc - 1) / inc
      let past := if inc = 0 then 0 else n * inc - rest
      let setup := if !bit (s.cfg (0x3000 + a) 17) 47 && decide (dir ≠ x.forward) then bits (s.cfg (0x3000 + a) 17) 23 12 else 0
      let at_ := s.timebase + 16 * n
      let s := s.advanceTo (s.timebase + 16 * max n setup)
      let s := s.modAxis a fun x =>
        { x with
          acc := if dir then past % 2 ^ 48 else 2 ^ 48 - 1 - past % 2 ^ 48
          forward := dir, micro := if dir then x.micro + 1 else x.micro - 1, intAt := at_ }
      (s.emit .step a [b2n dir]).commandTo a (if dir then x.commanded + 1 else x.commanded - 1)

/-! Motion command rings (R290, R291, Table 9-9). -/

def motionUnit (d : Nat) : Nat := bits d 119 112

/-- The checks of R291 on the head of a motion ring. -/
def State.motionOk (s : State) (q d : Nat) : Bool :=
  let op := descOp d
  let u := motionUnit d
  decide (bits d 447 320 = 0) && decide (bits d 127 120 = 0) && decide (bits d 111 106 = 0) && decide (bits d 95 89 = 0)
    && (if op = 0x4B then
          decide (u < 64) && decide (u / 8 = ringDie q) && s.present (u / 8) && decide (descLength d % 8 = 0)
            && decide (8 ≤ descLength d) && decide (descLength d ≤ 32768) && decide (descAddr d % 64 = 0)
        else
          decide (0x41 ≤ op) && decide (op ≤ 0x4A) && decide (u < 64) && decide (axisDie u = ringDie q) && s.axisPresent u
            && decide (descAddr d = 0) && decide (descLength d = 0))

/-- Fields of an axis command descriptor. -/
def motionArgs (d : Nat) : AxisArgs :=
  { p1 := toSigned 64 (bits d 255 192), p2 := toSigned 64 (bits d 319 256)
    speed := realOr0 (bits d 159 128), accel := realOr0 (bits d 191 160) }

/-- An axis command of the head: accepted with OK, refused with STATE_REFUSED (Table 9-11). -/
def State.runMotion (s : State) (q d : Nat) : State :=
  match s.axisCommand (motionUnit d) (descOp d - 0x40) (motionArgs d) with
  | .ok s1 => s1.endHead q 0
  | .error _ => s.endHead q 48

/-- COMPARE_APPEND_DESCRIPTOR (R271, R290): the entries of the buffer, once it is whole. -/
def execCompareAppendDescriptor (q : Nat) (s : State) : State :=
  match (s.ring q).head with
  | none => s
  | some h =>
    if s.ringKind q ≠ 4 ∨ descOp h.raw ≠ 0x4B ∨ h.moving = false ∨ h.buf.length < descLength h.raw ∨ h.moved < descLength h.raw then s
    else
      let n := motionUnit h.raw
      let es := (words8 h.buf).map (toSigned 64)
      if s.appendOrdered n es = false then s.endHead q 50
      else if 4096 < (s.cmpOut n).list.length + es.length then s.endHead q 49
      else (s.cmpAppend n es).endHead q 0

end Sys2Proof.Machine
end

