-- ==== Sys2Proof/Machine/Process.lean ====
section
/-! DEFINITION. Converters, delta-sigma filters, high-voltage channels, fuser zones and the fuser nip
(R308 to R331). -/

namespace Sys2Proof.Machine

/-! Fuser zones: temperature (R321). -/

/-- Table entry q of a zone's sensor table, in degrees. -/
def State.zoneEntry (s : State) (z q : Nat) : Rat :=
  let t := s.domain (0x3500 + z) 7
  realOr0 (t.getD (4 * q) 0 + t.getD (4 * q + 1) 0 * 2 ^ 8 + t.getD (4 * q + 2) 0 * 2 ^ 16 + t.getD (4 * q + 3) 0 * 2 ^ 24)

/-- Table value at a reading 0 to 4,096, interpolated linearly between entries 128 apart. -/
def State.zoneTable (s : State) (z : Nat) (x : Rat) : Rat :=
  let q := min 31 (ratFloor (x / 128)).toNat
  let a := s.zoneEntry z q
  let b := s.zoneEntry z (q + 1)
  a + (b - a) * (x - ((128 * q : Nat) : Rat)) / 128

/-- Slot output of a zone: its power fraction, after the power limit. -/
def State.zonePower (s : State) (z : Nat) : Rat := s.namedOut (s.zoneSlot z)

/-- WARMUP: the setpoint rises at the warm-up rate, and at the run setpoint the zone regulates (R323). -/
def State.warmZone (s : State) (z : Nat) : State :=
  let x := s.zone z
  if x.state = .warmup then
    let run := s.cfgReal (0x3500 + z) 12
    let sp := min run (x.setpoint + s.cfgReal (0x3500 + z) 14 * ((s.timebase - x.setAt : Nat) : Rat) / (ticksPerS : Rat))
    let s := s.modZone z fun x => { x with setpoint := sp, setAt := s.timebase }
    if sp = run then
      (s.modZone z fun x => { x with state := .regulate }).modNamed (s.zoneSlot z) fun l => { l.handTo true with setpoint := sp }
    else s.modNamed (s.zoneSlot z) fun l => { l with setpoint := sp }
  else s

/-- IN_BAND begins to be held in REGULATE within the band, and ends outside it (R324). -/
def State.bandZone (s : State) (z : Nat) : State :=
  let x := s.zone z
  if x.state = .regulate ∧ ratAbs (x.temp - s.cfgReal (0x3500 + z) 12) ≤ s.cfgReal (0x3500 + z) 15 then
    s.modZone z fun x => { x with bandSince := some (x.bandSince.getD s.timebase) }
  else s.modZone z fun x => { x with bandSince := none, inBand := false }

/-- Ticks of the stall time. -/
def State.stallTicks (s : State) (z : Nat) : Nat := s.cfg (0x3500 + z) 20 * ticksPerS

/-- Rise over the last 1 s of samples (R322): from the oldest of them. -/
def zoneRise (now : Nat) (xs : List (Nat × Rat)) (t : Rat) : Rat :=
  match (xs.filter fun x => decide (now ≤ x.1 + ticksPerS)).getLast? with
  | some x => t - x.2
  | none => 0

/-- Temperature at the sample that is at least the stall time old. -/
def zoneThen (now stall : Nat) (xs : List (Nat × Rat)) : Option Rat :=
  (xs.find? fun x => decide (x.1 + stall ≤ now)).map (·.2)

/-- The trips of R322 after a good sample. -/
def State.tripZone (s : State) (z : Nat) : State :=
  let x := s.zone z
  if s.zoneLive z = false then s
  else if s.cfgReal (0x3500 + z) 18 < x.temp then s.raiseZone z 1
  else if s.cfgReal (0x3500 + z) 17 < zoneRise s.timebase x.samples x.temp then s.raiseZone z 2
  else match x.stallAt with
    | none => s
    | some t =>
      if t + s.stallTicks z ≤ s.timebase then
        match zoneThen s.timebase (s.stallTicks z) x.samples with
        | some old => if x.temp - old < s.cfgReal (0x3500 + z) 21 then s.raiseZone z 4 else s
        | none => s
      else s

/-- A good temperature: kept, checked, and given to the slot (R300, R321 to R324). -/
def State.zoneTemp (s : State) (z : Nat) (t : Rat) : State :=
  let high := s.zoneLive z && decide (9 * s.powerLimit z ≤ 10 * s.zonePower z)
  let keep := s.timebase - (s.stallTicks z + 2 * ticksPerS)
  let s := s.modZone z fun x =>
    { x with
      temp := t, bad := 0, sensorHeld := false, sampling := false, code := none, cold := none
      samples := (s.timebase, t) :: x.samples.filter fun y => decide (keep ≤ y.1)
      stallAt := if high then some (x.stallAt.getD s.timebase) else none }
  ((s.bandZone z).tripZone z).zoneDue z

/-- An open or shorted sensor (R321). -/
def State.zoneSensorError (s : State) (z : Nat) : State :=
  (s.modZone z fun x => { x with sensorHeld := true, errors := wrapInc 32 x.errors }).zoneBad z

/-- The conversions of a zone's sample, as far as they have come. -/
def State.zoneCodes (s : State) (z : Nat) : State :=
  let x := s.zone z
  match x.code with
  | none => s
  | some c =>
    if bits (s.cfg (0x3500 + z) 6) 25 24 = 1 then
      match x.cold with
      | none => s
      | some k => s.zoneTemp z (s.zoneTable z (c : Rat) + s.cfgReal (0x3500 + z) 8 * (k : Rat) + s.cfgReal (0x3500 + z) 9)
    else s.zoneTemp z (s.zoneTable z (c : Rat))

/-- A converted code of a zone's sensor or cold junction. -/
def State.zoneConverted (s : State) (z : Nat) (cold : Bool) (code : Nat) : State :=
  if (s.zone z).sampling = false then s
  else if code = 0 ∨ code = 4095 then s.zoneSensorError z
  else (s.modZone z fun x => if cold then { x with cold := some code } else { x with code := some code }).zoneCodes z

/-- FUSER_SAMPLE (R321): the zone converts its sensor, or reads its delta-sigma input. A zone without a table has no
sensor to convert. -/
def execFuserSample (z : Nat) (s : State) : State :=
  let x := s.zone z
  if s.zonePresent z = false ∨ s.domain (0x3500 + z) 7 = [] then s
  else
    let s := match x.sampleAt with
      | some t => s.advanceTo (t + s.cfg (0x3500 + z) 10 * ticksPerMs)
      | none => s
    let s := (s.modZone z fun x => { x with sampleAt := some s.timebase, sampling := true, code := none, cold := none }).warmZone z
    let w := s.cfg (0x3500 + z) 6
    match bits w 25 24 with
    | 0 => s.request (.zone z false) (bits w 15 8)
    | 1 =>
      let s := s.request (.zone z false) (bits w 15 8)
      if (s.zone z).sampling then s.request (.zone z true) (bits w 7 0) else s
    | _ =>
      let d := s.dsInput (16 * zoneDie z + bits w 15 8 % 16)
      if d.lost then s.zoneBad z else s.zoneTemp z (s.zoneTable z (d.density * 4096))

/-- BAND_HOLD_ELAPSED (R324). -/
def execBandHoldElapsed (z : Nat) (s : State) : State :=
  let x := s.zone z
  match x.bandSince with
  | none => s
  | some t =>
    if s.zonePresent z ∧ x.state = .regulate ∧ x.inBand = false then
      ((s.advanceTo (t + s.cfg (0x3500 + z) 16 * ticksPerMs)).modZone z fun x => { x with inBand := true }).legacyNip
    else s

/-! Mains (R319). -/

/-- A zone in triac mode. -/
def State.triac (s : State) (z : Nat) : Bool := decide (s.cfg (0x3500 + z) 4 = 0)

/-- A mains period of 45 Hz to 65 Hz, in ticks. -/
def mainsOk (p : Nat) : Bool := decide (ticksPerS ≤ 65 * p) && decide (45 * p ≤ ticksPerS)

/-- The accumulator at the start of a cycle. -/
def State.beginCycle (s : State) (z : Nat) : State :=
  if s.zoneLive z then
    let acc := (s.zone z).acc + s.zonePower z
    s.modZone z fun x => { x with acc := if 1 ≤ acc then acc - 1 else acc, firing := decide (1 ≤ acc), gate := decide (1 ≤ acc) }
  else s

/-- ZERO_CROSSING (R319): a rising one begins a cycle, where the period it ends is accepted. -/
def execZeroCrossing (z t : Nat) (rising : Bool) (s : State) : State :=
  if s.zonePresent z = false ∨ s.triac z = false ∨ s.assigned 9 z 0 = false then s
  else
    let s := s.advanceTo t
    let x := s.zone z
    let s := s.modZone z fun x => { x with lastCross := some s.timebase, fired := false }
    if rising = false then s
    else
      let now := s.timebase
      match x.lastRising with
      | none => (s.modZone z fun x => { x with lastRising := some now }).beginCycle z
      | some r =>
        if mainsOk (now - r) then (s.modZone z fun x => { x with lastRising := some now, period := now - r }).beginCycle z
        else s.modZone z fun x => { x with lastRising := some now, firing := false, gate := false }

/-- FIRING_DELAY_ELAPSED (R319): a gate pulse, once after each crossing of a fired cycle. -/
def execFiringDelayElapsed (z : Nat) (s : State) : State :=
  let x := s.zone z
  match x.lastCross with
  | none => s
  | some t =>
    if s.zonePresent z ∧ s.triac z ∧ s.zoneLive z ∧ x.firing ∧ x.fired = false then
      let s := s.advanceTo (t + s.cfg (0x3500 + z) 25 * ticksPerUs)
      (s.modZone z fun x => { x with fired := true }).emit .gatePulse z [bits (s.cfg (0x3500 + z) 5) 31 16]
    else s

/-- ZERO_CROSS_TIMEOUT (R319): 1.5 measured half-cycles without a crossing. -/
def execZeroCrossTimeout (z : Nat) (s : State) : State :=
  let x := s.zone z
  match x.lastCross with
  | none => s
  | some t =>
    if s.zonePresent z ∧ s.triac z ∧ s.zoneLive z ∧ 0 < x.period then
      ((s.advanceTo (t + 3 * x.period / 4)).modZone z fun x => { x with gate := false, firing := false }).raiseZone z 5
    else s

/-! Zone commands (Table 10-4). -/

/-- Signals that a zone's configuration uses are assigned (R506). -/
def State.zoneWired (s : State) (z : Nat) : Bool :=
  let w := s.cfg (0x3500 + z) 6
  let m := 16 * zoneDie z + bits w 15 8 % 16
  s.assigned 8 z 0 && (!s.triac z || s.assigned 9 z 0)
    && (decide (bits w 25 24 ≠ 2) || (s.assigned 6 m 0 && s.assigned 7 m 0))

/-- What ENABLE and START find besides their own conditions: nothing fatal latched, the hazard net inactive. -/
def State.outputsFree (s : State) : Bool := !s.faults.fatal && !s.hazard.active

def State.startZone (s : State) (z : Nat) : State :=
  let t := (s.zone z).temp
  let igbt := !s.triac z
  (s.modZone z fun x =>
    { x with state := .warmup, setpoint := t, setAt := s.timebase, inBand := false, bandSince := none, bad := 0
             samples := [], stallAt := none, acc := 0, firing := false, fired := false, gate := igbt
             lastCross := none, lastRising := none, period := 0 }).modNamed
    (s.zoneSlot z) fun l => { l.start false with setpoint := t }

def opZoneStart (z : Nat) (s : State) : Except Abort State := do
  need (s.zonePresent z) .noSuchUnit
  need (decide ((s.zone z).state = .off)) .state
  need (decide (s.domain (0x3500 + z) 7 ≠ []) && decide (s.cfgReal (0x3500 + z) 18 ≠ 0) && (s.zoneSlot z).isSome) .state
  need (s.zoneWired z && s.outputsFree) .state
  need ((s.startZone z).ratesOk (zoneDie z)) .invalid
  .ok (s.startZone z)

/-- ZONE_START (R323, R330). -/
def execZoneStart (z : Nat) (s : State) : State := command (0x3500 + z) (opZoneStart z) s

def opZoneStop (z : Nat) (s : State) : Except Abort State := do
  need (s.zonePresent z) .noSuchUnit
  need (decide ((s.zone z).state ≠ .detained)) .state
  .ok (s.zoneOff z)

/-- ZONE_STOP (R323). -/
def execZoneStop (z : Nat) (s : State) : State := command (0x3500 + z) (opZoneStop z) s

def opZoneClear (z : Nat) (s : State) : Except Abort State := do
  need (s.zonePresent z) .noSuchUnit
  need (decide ((s.zone z).state = .detained)) .state
  .ok (s.zoneOff z).errorReset

/-- ZONE_CLEAR (R323). -/
def execZoneClear (z : Nat) (s : State) : State := command (0x3500 + z) (opZoneClear z) s

def opZoneSetback (z : Nat) (s : State) : Except Abort State := do
  need (s.zonePresent z) .noSuchUnit
  need (decide ((s.zone z).state = .warmup) || decide ((s.zone z).state = .regulate)) .state
  .ok (s.zoneToSetback z)

/-- ZONE_SETBACK (R323). -/
def execZoneSetback (z : Nat) (s : State) : State := command (0x3500 + z) (opZoneSetback z) s

def opZoneResume (z : Nat) (s : State) : Except Abort State := do
  need (s.zonePresent z) .noSuchUnit
  need (decide ((s.zone z).state = .setback)) .state
  .ok (s.zoneFromSetback z)

/-- ZONE_RESUME (R323). -/
def execZoneResume (z : Nat) (s : State) : State := command (0x3500 + z) (opZoneResume z) s

/-- The effect of a new run setpoint on the zone's state (R323). -/
def State.runSetpoint (s : State) (z : Nat) (run : Rat) : State :=
  let x := s.zone z
  match x.state with
  | .warmup =>
    let sp := min x.setpoint run
    (s.modZone z fun x => { x with setpoint := sp }).modNamed (s.zoneSlot z) fun l => { l with setpoint := sp }
  | .regulate =>
    if x.setpoint < run then
      (s.modZone z fun x => { x with state := .warmup, setAt := s.timebase, inBand := false, bandSince := none }).modNamed
        (s.zoneSlot z) fun l => { l.handTo false with setpoint := x.setpoint }
    else (s.modZone z fun x => { x with setpoint := run }).modNamed (s.zoneSlot z) fun l => { l with setpoint := run }
  | _ => s

/-- The run setpoint is not written below the setback setpoint, which Table 10-7 keeps at or below it (DEDUCED, log 43). -/
def opFuserRunSetpoint (z v : Nat) (s : State) : Except Abort State := do
  need (s.zonePresent z) .noSuchUnit
  need (decide (v < 2 ^ 32) && !realBad v) .invalid
  need (decide (s.cfgReal (0x3500 + z) 13 ≤ realOr0 v)) .invalid
  .ok ((s.setCfg (0x3500 + z) 12 v).runSetpoint z (realOr0 v))

/-- FUSER_RUN_SETPOINT_WRITE (R323). -/
def execFuserRunSetpointWrite (z v : Nat) (s : State) : State := command (0x3500 + z) (opFuserRunSetpoint z v) s

/-! Conversions (R279, R280, R308). -/

/-- A shunt sample (R279, R280): signed as the sector gives it, the overcurrent trip first. -/
def State.shuntSample (s : State) (a code : Nat) : State :=
  let x := s.axis a
  if x.state = .off ∨ x.state = .detained then s
  else
    let i : Int := if Config.sectorNegative (x.sector.getD 6) then -(code : Int) else (code : Int)
    let s := (s.modAxis a fun x => { x with current := i }).modNamed (s.axisSlot a 0) fun l =>
      { l with input := (i : Rat), waiting := false }
    if s.cfg (0x3000 + a) 18 < code then s.raiseAxis a 3 else s

/-- A bridge supply (R281): outside its window, cause 4; within it, it sets the amplitude of the two phases. -/
def State.supplySample (s : State) (a code : Nat) : State :=
  let x := s.axis a
  let v := Config.supplyVolts code
  let w := s.cfg (0x3000 + a) 22
  if x.state = .off ∨ x.state = .detained then s
  else if v < bits w 15 0 ∨ bits w 31 16 < v then s.raiseAxis a 4
  else
    let speed := ratAbs (s.axisVelocity a) / ((2 ^ bits (s.cfg (0x3000 + a) 17) 43 40 : Nat) : Rat)
    let want := (s.cfgReal (0x3000 + a) 20 + s.cfgReal (0x3000 + a) 21 * speed) / (v : Rat)
    s.modAxis a fun x => { x with amplitude := if v = 0 then 1 else min 1 want }

/-- A result for its user. -/
def State.distribute (s : State) (code : Nat) : ConvUser → State
  | .shunt a => s.shuntSample a code
  | .slot j => s.modLoop j fun l => if l.trigger.isSome then { l with input := (code : Rat), waiting := false } else l
  | .zone z cold => s.zoneConverted z cold code
  | .supply a => s.supplySample a code

/-- CONVERSION_COMPLETE (R308): 200 ns (320 ticks) after the one before it in its sequence. -/
def execConversionComplete (c code : Nat) (s : State) : State :=
  match (s.conv c).running with
  | [] => s
  | (u, _) :: rest =>
    let x := s.conv c
    if s.present (c % 2) = false ∨ 2 ≤ c then s
    else
      let s := s.advanceTo (2 * x.cycle + 320 * (x.finished + 1))
      (s.setConv c { x with running := rest, finished := x.finished + 1 }).distribute (code % 4096) u

/-! Delta-sigma inputs (R311, R312, R315). -/

/-- HV channel of a delta-sigma input. -/
def dsChannel (i : Nat) : Nat := i / 2

/-- The channel is in a state that R315's trips and R312's losses act on. -/
def HvState.live : HvState → Bool
  | .off => false
  | .detained => false
  | _ => true

/-- Full-scale value of an input. -/
def State.dsFull (s : State) (i : Nat) : Rat := s.cfgReal (0x3400 + i / 2) (13 + i % 2)

/-- Slots that take every k-th output of this input are due with it (R300). -/
def State.dsDue (s : State) (i : Nat) : State :=
  (s.slotsL.map (·.1)).foldl (fun s j =>
    let w := s.trigWord j
    if slotDie j = i / 16 ∧ (s.loopSlot j).enabled ∧ bits w 31 28 = 2 ∧ bits w 27 20 % 16 = i % 16 then
      s.modLoop j fun l =>
        if max 1 (bits w 15 0) ≤ l.outputs + 1 then { l with outputs := 0, due := true, input := (s.dsInput i).main }
        else { l with outputs := l.outputs + 1 }
    else s) s

/-- DELTA_SIGMA_OUTPUT (R312, R315): the sinc3 filter's sum n of R^3 gives the value; a voltage past the trip detains
its channel with cause 3. -/
def execDeltaSigmaOutput (i n : Nat) (s : State) : State :=
  let h := dsChannel i
  if s.hvPresent h = false then s
  else
    let r := s.cfg (0x3400 + h) 16
    let density : Rat := ((min n (r ^ 3) : Nat) : Rat) / ((max 1 (r ^ 3) : Nat) : Rat)
    let v := (2 * density - 1) * s.dsFull i
    let s := (s.modDs i fun d => { d with main := v, density, lost := false }).dsDue i
    if i % 2 = 0 ∧ (s.hvChan h).state.live ∧ s.cfgReal (0x3400 + h) 17 < ratAbs v then s.raiseHv h 3 else s

/-- An arc (R316): gates off, cause 1, blanking; at the arc limit within the window, detention with cause 2. -/
def State.arcCut (s : State) (h : Nat) : State :=
  let now := s.timebase
  let window := s.cfg (0x3400 + h) 22 * ticksPerS
  let s := s.modHv h fun x =>
    { x with state := .arcBlank, former := x.state, blankAt := now, gates := false, arcs := wrapInc 32 x.arcs
             arcTimes := now :: x.arcTimes.filter fun t => decide (now < t + window) }
  let s := s.raiseHv h 1
  if s.cfg (0x3400 + h) 21 ≤ (s.hvChan h).arcTimes.length then s.raiseHv h 2 else s

/-- FAST_FILTER_OUTPUT (R312, R315): the sinc2 filter's sum n of 256; a current past the trip detains with cause 4, a
rise between consecutive values past the arc threshold is an arc. -/
def execFastFilterOutput (i n : Nat) (s : State) : State :=
  let h := dsChannel i
  if s.hvPresent h = false then s
  else
    let v := (2 * (((min n 256 : Nat) : Rat) / 256) - 1) * s.dsFull i
    let old := (s.dsInput i).fast
    let s := s.modDs i fun d => { d with fast := some v, lost := false }
    let st := (s.hvChan h).state
    let arc := s.cfgReal (0x3400 + h) 19
    if i % 2 = 0 ∨ st.live = false then s
    else if s.cfgReal (0x3400 + h) 18 < ratAbs v then s.raiseHv h 4
    else match old with
      | none => s
      | some o =>
        if arc ≠ 0 ∧ arc < ratAbs v - ratAbs o ∧ (st = .run ∨ st = .halt) then s.arcCut h else s

/-- DELTA_SIGMA_INPUT_LOST (R312): the channel, or the zone that reads the input, raises its lost-input cause. -/
def execDeltaSigmaInputLost (i : Nat) (s : State) : State :=
  let h := dsChannel i
  if s.hvPresent h = false then s
  else
    let s := s.modDs i fun d => { d with lost := true, fast := none }
    if (s.hvChan h).state.live then s.raiseHv h 5
    else (dieZones (i / 16)).foldl (fun s z =>
      let w := s.cfg (0x3500 + z) 6
      if s.zoneLive z ∧ bits w 25 24 = 2 ∧ bits w 15 8 % 16 = i % 16 then s.raiseZone z 3 else s) s

/-! High-voltage channels (Table 10-3). -/

/-- ARC_BLANKING_ELAPSED (R316): the slot is handed over with u_prev = 0. -/
def execArcBlankingElapsed (h : Nat) (s : State) : State :=
  let x := s.hvChan h
  if s.hvPresent h ∧ x.state = .arcBlank then
    let s := s.advanceTo (x.blankAt + s.cfg (0x3400 + h) 20 * ticksPerMs)
    (((s.modHv h fun x => { x with state := x.former, gates := true }).modNamed (s.hvSlot h) fun l =>
      { l.handTo l.bank with u := 0 }).settleHv h).driveHv h
  else s

/-- The timetable is in a halt state from W_d, in ENDING from W_d, or in IDLE after END (Table 10-3). -/
def State.hvStartsHalted (s : State) : Bool :=
  match s.tt.state with
  | .halting => s.tt.decelerating
  | .ending => s.tt.decelerating
  | .reversing => true
  | .waiting => true
  | .idle => s.tt.afterEnd
  | _ => false

/-- Signals that an HV channel's configuration uses are assigned (R311, R313, R506). -/
def State.hvWired (s : State) (h : Nat) : Bool :=
  let i := 2 * h
  s.assigned 5 h 0 && (decide (s.cfg (0x3400 + h) 4 = 0) || s.assigned 5 h 1)
    && s.assigned 6 i 0 && s.assigned 6 (i + 1) 0 && s.assigned 7 i 0 && s.assigned 7 (i + 1) 0

def State.enableHv (s : State) (h : Nat) : State :=
  let st : HvState := if s.hvStartsHalted then .halt else .run
  (((s.modHv h fun x => { x with state := st, gates := true, arcTimes := [] }).modNamed (s.hvSlot h) fun l =>
    l.start false).settleHv h).driveHv h

def opHvEnable (h : Nat) (s : State) : Except Abort State := do
  need (s.hvPresent h) .noSuchUnit
  need (decide ((s.hvChan h).state = .off)) .state
  need (decide (s.cfgReal (0x3400 + h) 17 ≠ 0) && decide (s.cfgReal (0x3400 + h) 18 ≠ 0) && (s.hvSlot h).isSome) .state
  need (s.hvWired h && s.outputsFree) .state
  need ((s.enableHv h).ratesOk (hvDie h)) .invalid
  .ok (s.enableHv h)

/-- HV_ENABLE (R318, R329). -/
def execHvEnable (h : Nat) (s : State) : State := command (0x3400 + h) (opHvEnable h) s

def opHvDisable (h : Nat) (s : State) : Except Abort State := do
  need (s.hvPresent h) .noSuchUnit
  need (decide ((s.hvChan h).state ≠ .detained)) .state
  .ok (s.hvOff h)

/-- HV_DISABLE (R318). -/
def execHvDisable (h : Nat) (s : State) : State := command (0x3400 + h) (opHvDisable h) s

def opHvClear (h : Nat) (s : State) : Except Abort State := do
  need (s.hvPresent h) .noSuchUnit
  need (decide ((s.hvChan h).state = .detained)) .state
  .ok (s.hvOff h).errorReset

/-- HV_CLEAR (R318). -/
def execHvClear (h : Nat) (s : State) : State := command (0x3400 + h) (opHvClear h) s

/-! The fuser nip (R325, R331). -/

def opNip (open_ : Bool) (s : State) : Except Abort State := do
  need s.ttIdle .state
  need (open_ || (!s.faults.fatal && !(s.hazard.active && decide (s.cfg 0x2190 1 = 1) && bit (s.cfg 0x2190 7) 1))) .state
  .ok (s.setNip open_)

/-- NIP_OPEN (R325, R331). -/
def execNipOpen (s : State) : State := command 0x2190 (opNip true) s

/-- NIP_CLOSE (R325, R331). -/
def execNipClose (s : State) : State := command 0x2190 (opNip false) s

end Sys2Proof.Machine
end

