-- ==== Sys2Proof/Machine/ClocksOps.lean ====
section
/-! DEFINITION. Locks of the PLLs, the auxiliary synthesiser's commits and enables, and group time (R335 to R349). -/

namespace Sys2Proof.Machine

/-- PLL k of die d exists, and serves a die that is present or the interface island (Table 11-1, R410). -/
def State.pllServes (s : State) (d k : Nat) : Bool :=
  (s.present d || (decide (d = 0) && (decide (k = 0) || decide (k = 3) || decide (k = 5)))) && decide (k < 7)
    && (decide (k ≠ 2) || decide (d < 2)) && (decide (k ≠ 3 ∧ k ≠ 5) || decide (d = 0))

/-- A port runs: a member of a group, the port enabled, the Haling PLL of the interface island locked (R410). -/
def State.portEnabled (s : State) (p : Nat) : Bool :=
  s.inGroup && bit (s.cfg 0x3900 3) p && bit (s.dieClock 0).lock 5

/-- A DOWN port that may run trains (R356). -/
def State.trainPort (s : State) (p : Nat) : State :=
  if s.portEnabled p ∧ s.portState p = .down then s.setPort p .training else s

/-- A PLL fails: its fault and what follows; with the PCIe PLL the link is lost (R96, Table 11-6). -/
def State.pllFails (s : State) (d pll : Nat) : State :=
  let s := s.losePll d pll
  if pll = 3 then execPcieLinkLoss s else s

/-- PLL_LOCK (R335, R336): the lock bit; relocks after the first are counted. LASER_EN is permitted again once the
auxiliary PLL has relocked (R343), and the Haling ports train. A system or edge PLL that has lost lock makes no new attempt. The
first lock of the edge PLLs sets every copy of the timebase to 0 (R344), and each lock of the auxiliary PLL restarts the LFSRs
(R339). -/
def execPllLock (die pll : Nat) (s : State) : State :=
  let c := s.dieClock die
  if s.pllServes die pll = false ∨ bit c.lock pll ∨ (pll < 2 ∧ bit c.ever pll) then s
  else
    let s := if pll = 1 ∧ s.timebaseRuns = false then
        { s with timebase := 0, power := { s.power with rtc := s.rtcNow, rtcAt := 0 } } else s
    let s := s.modClock die fun c =>
      { c with
        lock := setBit c.lock pll true, ever := setBit c.ever pll true, repeated := setBit c.repeated pll false
        relocks := if bit c.ever pll then satInc 8 c.relocks else c.relocks }
    if pll = 6 then (s.restartLfsrs die (upTo 6)).relaserDie die
    else if pll = 5 then (s.trainPort 0).trainPort 1
    else s

/-- PLL_LOCK_TIMEOUT (R336): the band search is repeated once; then the clock fault. -/
def execPllLockTimeout (die pll : Nat) (s : State) : State :=
  let c := s.dieClock die
  if s.pllServes die pll = false ∨ bit c.lock pll ∨ (pll < 2 ∧ bit c.ever pll) then s
  else if bit c.repeated pll then (s.modClock die fun c => { c with repeated := setBit c.repeated pll false }).pllFails die pll
  else s.modClock die fun c => { c with repeated := setBit c.repeated pll true }

/-- PLL_LOSS_OF_LOCK (R336, R343). -/
def execPllLossOfLock (die pll : Nat) (s : State) : State :=
  if s.pllServes die pll = false ∨ bit (s.dieClock die).lock pll = false then s else s.pllFails die pll

/-- REFCLK_LOST (R337): clock cause 1, fatal. -/
def execRefclkLost (s : State) : State := s.raise 0x28 s.dies.lead 0 1

/-- Outputs k of die d whose scanner the part runs (R341). -/
def State.ownedOutputs (s : State) (d : Nat) : Nat :=
  ((upTo 4).map fun k => if (s.scanner (4 * d + k)).state = .off then 0 else 2 ^ k).sum

/-- Divider word staged for output k of die d. -/
def State.stagedWord (s : State) (d k : Nat) : Nat := s.cfg (0x3808 + d) (3 + k)

/-- Divider word that output k of die d runs on. -/
def State.activeWord (s : State) (d k : Nat) : Nat := mapGet dividerReset s.dividers (8 * d + k)

/-- Load the staging words that a mask names (R340). -/
def State.loadDividers (s : State) (d v : Nat) : State :=
  (upTo 5).foldl (fun s k =>
    if bit v k then { s with dividers := mapSet dividerReset s.dividers (8 * d + k) (s.stagedWord d k) } else s) s

def opDividerCommit (d v : Nat) (s : State) : Except Abort State := do
  need (decide (d < 8) && s.present d) .noSuchUnit
  need (decide (v < 32)) .invalid
  need (decide (Nat.land v (s.ownedOutputs d) = 0)) .state
  .ok (s.loadDividers d v)

/-- DIVIDER_COMMIT (R340, R341). -/
def execDividerCommit (die v : Nat) (s : State) : State := command (0x3808 + die) (opDividerCommit die v) s

/-- The signal of output k of die d is assigned: a polygon reference, or CLKOUT (R506). -/
def State.outputWired (s : State) (d k : Nat) : Bool := if k < 4 then s.assigned 15 (4 * d + k) 0 else s.assigned 14 d 0

def opOutputEnable (d v : Nat) (s : State) : Except Abort State := do
  need (decide (d < 8) && s.present d) .noSuchUnit
  need (decide (v < 32)) .invalid
  let old := s.cfg (0x3808 + d) 13
  need (decide (Nat.land (Nat.xor v old) (s.ownedOutputs d) = 0)) .state
  need ((upTo 5).all fun k => !bit v k || bit old k || (s.outputWired d k && !s.faults.fatal)) .state
  .ok ((s.restartLfsrs d (((upTo 5).filter fun k => bit v k && !bit old k).map (· + 1))).setCfg (0x3808 + d) 13 v)

/-- OUTPUT_ENABLE_WRITE (R339, R342, R352, R506). -/
def execOutputEnableWrite (die v : Nat) (s : State) : State := command (0x3808 + die) (opOutputEnable die v) s

/-- N_aux of 28 to 36 in Q8.24, or the dither word with its seed in range. -/
def auxValueOk (sub v : Nat) : Bool :=
  if sub = 1 then decide (28 * 2 ^ 24 ≤ v) && decide (v ≤ 36 * 2 ^ 24)
  else decide (v < 2 ^ 32) && decide (bits v 30 23 = 0) && decide (1 ≤ bits v 22 0)

def opAuxPllConfig (d sub v : Nat) (s : State) : Except Abort State := do
  need (decide (d < 8) && s.present d) .noSuchUnit
  need (decide (sub = 1) || decide (sub = 2)) .noSub
  need (decide (s.nmt.state = .preOperational) && decide (s.ownedOutputs d = 0) && !bit (s.cfg (0x3808 + d) 13) 4) .state
  need (auxValueOk sub v) .invalid
  .ok ((s.setCfg (0x3808 + d) sub v).modClock d fun c =>
    { c with lock := setBit c.lock 6 false, repeated := setBit c.repeated 6 false })

/-- AUX_PLL_CONFIG_WRITE (R343): the PLL relocks, with a band search. -/
def execAuxPllConfigWrite (die sub v : Nat) (s : State) : State := command (0x3808 + die) (opAuxPllConfig die sub v) s

end Sys2Proof.Machine
end

