-- ==== Sys2Proof/Machine/HalingOps.lean ====
section
/-! DEFINITION. The Haling link: ports, frames, roll call and census, group time, web alignment, votes, the homeroom's
state, stitch data, hazard sets, the sending side of the tunnel, and splits (R63, R64, R356 to R380). -/

namespace Sys2Proof.Machine

/-! Ports and frames (R356 to R359). -/

/-- a follows b in 16-bit serial order (R350). -/
def follows16 (a b : Nat) : Bool :=
  let d := ((a : Int) - b) % 2 ^ 16
  decide (1 ≤ d) && decide (d ≤ 2 ^ 15 - 1)

def otherPort (p : Nat) : Nat := 1 - p

/-- The largest D_s of this part (R361). -/
def State.largestD (s : State) : Int := maxPos ((upTo 8).map s.stationOffset)

/-- The cross-part joins that are enabled: operator side, then drive side, by station. -/
def State.joinsOf (s : State) : List JoinInfo :=
  (upTo 8).flatMap fun st => (upTo 2).filterMap fun side =>
    let k := 5 * side
    if s.cfg (0x2810 + st) (1 + k) = 1 then
      some { side, station := st, peer := s.cfg (0x2810 + st) (2 + k), overlap := s.cfg (0x2810 + st) (3 + k),
             ramp := s.cfg (0x2810 + st) (4 + k), tile := s.cfg (0x2810 + st) (5 + k) }
    else none

/-- What this part's ROLL frames carry (R361). That another source uses its seat, and which of its ports are UP, is carried too, since
R359 and R364 ask the other parts to act on them (DEDUCED, log 46). -/
def State.rollInfo (s : State) : RollInfo :=
  { state := s.tt.state.code, owner := s.webAxis.isSome, prefect := s.cfg 0x3900 2, largestD := s.largestD
    nextOrigin := s.tt.nextOrigin, aligned := s.haling.aligned, listener := s.haling.unsynced, joins := s.joinsOf, duplicate := s.haling.duplicate
    ports := b2n (s.portUp 0) + 2 * b2n (s.portUp 1) }

/-- A ROLL payload in numbers. -/
def rollData (r : RollInfo) : List Nat :=
  [r.state, b2n r.owner, r.prefect, ofSigned 64 r.largestD, ofSigned 64 r.nextOrigin, b2n r.aligned, b2n r.listener, b2n r.duplicate, r.ports]
    ++ r.joins.flatMap fun j => [j.side, j.station, j.peer, j.overlap, j.ramp, j.tile]

/-- Send a ROLL frame (R361). -/
def State.sendRoll (s : State) : State :=
  let r := s.rollInfo
  ({ s with haling := { s.haling with lastRoll := some r } }).broadcast .rollFrame (rollData r)

/-- ROLL_SEND (R357, R361). -/
def execRollSend (s : State) : State := if s.inGroup then s.sendRoll else s

/-- PORT_UP (R356): at once a ROLL frame. -/
def execPortUp (port : Nat) (s : State) : State :=
  if 2 ≤ port ∨ s.portEnabled port = false ∨ s.portUp port then s else (s.setPort port .up).sendRoll

/-- PORT_DOWN (R356, R364): cause 1; the port retrains. -/
def execPortDown (port : Nat) (s : State) : State :=
  if 2 ≤ port ∨ s.portUp port = false then s
  else
    let s := s.setPort port (if s.portEnabled port then .training else .down)
    (((s.raise 0x29 0 port 1).holdForLink).sendRoll)

/-- BAD_HALING_FRAME (R357). -/
def execBadHalingFrame (port : Nat) (s : State) : State :=
  if 2 ≤ port ∨ s.portUp port = false then s
  else ({ s with haling := { s.haling with discarded := wrapInc 32 s.haling.discarded } }).raise 0x29 0 port 2

/-- A frame as it is forwarded, HOPS raised and the CRC anew. -/
def forwardFrame (kind : OutKind) (h : Header) (payload : List Nat) : List Nat :=
  halingFrame kind { h with hops := h.hops + 1 } payload

/-- A broadcast that this part accepts is not its own and new from its source (R358). -/
def State.freshFrame (s : State) (h : Header) : Bool :=
  decide (h.src ≠ s.seat) && (match (s.peer h.src).fseq with
    | some f => follows16 h.fseq f
    | none => true)

/-- A frame that comes in on a port that is UP, its HOPS below 1,023 (R358). -/
def State.takesFrame (s : State) (port : Nat) (h : Header) : Bool :=
  decide (port < 2) && s.portUp port && decide (h.hops < 1023)

/-- An accepted broadcast: its FSEQ is kept and it is forwarded. -/
def State.relay (s : State) (kind : OutKind) (port : Nat) (h : Header) (payload : List Nat) : State :=
  (s.modPeer h.src fun x => { x with fseq := some h.fseq }).sendPort kind (otherPort port) (forwardFrame kind h payload)

/-- What a part does with a broadcast it receives on a port: its own effect once, where the frame is fresh. -/
def State.onBroadcast (s : State) (kind : OutKind) (port : Nat) (h : Header) (payload : List Nat)
    (effect : State → State) : State :=
  if s.takesFrame port h = false ∨ s.freshFrame h = false then s
  else effect (s.relay kind port h payload)

/-- What a part does with a unicast frame: its own effect, or the frame goes on towards DEST. -/
def State.onUnicast (s : State) (kind : OutKind) (port : Nat) (h : Header) (payload : List Nat)
    (effect : State → State) : State :=
  if s.takesFrame port h = false then s
  else if h.dest = s.seat then effect s
  else s.sendPort kind (s.portFor h.dest) (forwardFrame kind h payload)

/-! Roll call and census (R360 to R364, R378, R380). -/

/-- Seats heard, this part's among them, in ascending order. -/
def State.half (s : State) : List Nat :=
  ((s.seat :: (s.haling.peers.filter fun kv => kv.2.heard).map (·.1)).eraseDups).mergeSort

/-- The seat names a web drive axis. -/
def State.ownsWeb (s : State) (seat : Nat) : Bool := if seat = s.seat then s.webAxis.isSome else (s.peer seat).info.owner

/-- The half has quorum over the last COMPLETE census (R378); a part that has been in none needs none. -/
def State.quorum (s : State) : Bool :=
  let last := s.haling.lastComplete
  let n := (last.filter fun x => s.half.contains x).length
  s.haling.former.isNone || decide (last.length < 2 * n)
    || (decide (2 * n = last.length) && s.half.contains (s.cfg 0x3900 2))

/-- Homeroom of this part's half: while no seat of the last COMPLETE census is missing, the one part that names a web drive axis
(R360); otherwise the former one, the owner of the web, the lowest seat (R378). -/
def State.chosenHomeroom (s : State) : Nat :=
  let h := s.half
  let owners := h.filter s.ownsWeb
  if owners.length = 1 ∧ (s.haling.lastComplete.all fun x => h.contains x) then owners.headD s.seat
  else match s.haling.former.bind fun x => if h.contains x then some x else none with
    | some x => x
    | none => match h.find? s.ownsWeb with
      | some x => x
      | none => h.head?.getD s.seat

/-- A heard part may join the census (R363, R367). -/
def State.eligible (s : State) (seat : Nat) : Bool :=
  if seat = s.seat then !s.haling.unsynced
  else !(s.peer seat).info.listener
    && (!(s.peer seat).listener || decide (s.tt.state = .idle) || decide (s.tt.state = .stopped))

/-- The mismatch bits of a station's joins (R183): operator side in bit 0, drive side in bit 1. -/
def State.joinMismatch (s : State) (st : Nat) : Nat :=
  (s.joinsOf.filter fun j => decide (j.station = st)).foldl (fun m j =>
    let seat := j.peer / 8
    let ok := s.haling.census.contains seat && (s.peer seat).info.joins.any fun k =>
      decide (k.station = j.peer % 8) && decide (k.side ≠ j.side) && decide (k.overlap = j.overlap)
        && decide (k.ramp = j.ramp) && decide (k.tile = j.tile)
    if ok then m else setBit m j.side true) 0

/-- The mismatch bits of every station, judged at each roll call and at each write of 0x2810, of a standalone part too (DESIGN CHOICE,
log 38: R183 names the roll call). -/
def State.settleJoins (s : State) : State :=
  { s with stitches := (upTo 8).foldl (fun m st => mapMod {} m st fun x => { x with mismatch := s.joinMismatch st }) s.stitches }

/-- The checks of R360 and R183. -/
def State.rollChecks (s : State) : Bool :=
  decide ((s.haling.census.filter s.ownsWeb) = [s.haling.homeroom]) && s.stitches.all fun kv => decide (kv.2.mismatch = 0)

/-- The state of the roll call at this part (R359, R362): a listener or a part in MINORITY stays so until it adopts a census. A seat in
use twice, at this part or at one heard, keeps it from COMPLETE. -/
def State.settleRoll (s : State) : State :=
  if s.inGroup = false then s
  else
    let s := s.settleJoins
    let c := s.haling.census
    let whole := c.contains s.seat && c.all fun x => s.half.contains x
    let good := whole && s.rollChecks && !s.haling.duplicate && c.all fun x => decide (x = s.seat) || !(s.peer x).info.duplicate
    let s := if whole ∧ s.rollChecks = false ∧ s.haling.mismatch = false then
        ({ s with haling := { s.haling with mismatch := true } }).raise 0x29 0 0 4
      else if whole ∧ s.rollChecks then { s with haling := { s.haling with mismatch := false } } else s
    if s.haling.roll = .minority ∨ s.haling.roll = .listener then s
    else if good then
      ({ s with haling := { s.haling with lastComplete := c, former := some s.haling.homeroom } }).toRoll .complete
    else s.toRoll .forming

/-- The generation that follows this part's own and every one it has heard. -/
def State.nextGeneration (s : State) : Nat :=
  let top := s.haling.peers.foldl (fun g kv => if kv.2.heard && follows16 kv.2.gen g then kv.2.gen else g) s.haling.generation
  (top + 1) % 2 ^ 16

/-- A CENSUS frame: the members' seats, and D_group. -/
def State.sendCensus (s : State) : State :=
  s.broadcast .censusFrame (ofSigned 64 s.haling.dGroup :: s.haling.census)

/-- Become the holder of a census: its members are no listeners any more. The homeroom's group time is its timebase (R347, R360),
which is a step where it was not. -/
def State.adopt (s : State) (seats : List Nat) (gen home : Nat) (d : Int) : State :=
  let rejoin := decide (s.haling.roll = .minority)
  let s := { s with haling := { s.haling with
      census := seats, generation := gen, homeroom := home, dGroup := d
      peers := mapEach {} s.haling.peers fun k x => if seats.contains k then { x with listener := false } else x
      aligned := s.haling.aligned && !rejoin } }
  let s := if rejoin ∨ s.haling.roll = .listener then s.toRoll .forming else s
  if home = s.seat then s.leadTime else s

/-- The homeroom of the half forms a new census where the parts heard differ from it, or one of them holds a later
generation, and all are eligible (R362, R378, R380). -/
def State.formCensus (s : State) : State :=
  let h := s.half
  let later := s.haling.peers.any fun kv => kv.2.heard && follows16 kv.2.gen s.haling.generation
  if s.inGroup ∧ s.quorum ∧ s.chosenHomeroom = s.seat ∧ s.haling.duplicate = false ∧ h.all s.eligible
      ∧ (h ≠ s.haling.census ∨ later ∨ s.haling.homeroom ≠ s.seat) then
    let d := h.foldl (fun m x => if x = s.seat then m else max m (s.peer x).info.largestD) s.largestD
    (s.adopt h s.nextGeneration s.seat d).sendCensus.settleRoll
  else s.settleRoll

/-- The hops that a ROLL frame has taken tell how far its source is by that port. -/
def Peer.hopsBy (x : Peer) (port n : Nat) : Peer := if port = 0 then { x with hopsA := some n } else { x with hopsB := some n }

/-- ROLL (R358, R359, R361, R363): a port of a member that is UP no more holds commits as R364 says. -/
def execRoll (port : Nat) (h : Header) (r : RollInfo) (s : State) : State :=
  if s.takesFrame port h = false then s
  else if h.src = s.seat then
    if s.haling.lastRoll = some r ∧ follows16 h.fseq s.haling.fseq = false then s
    else
      let s := s.modPeer s.seat fun x => { x with lastAt := s.timebase }
      if s.haling.duplicate then s
      else (({ s with haling := { s.haling with duplicate := true } }).raise 0x29 0 0 3).settleRoll
  else
    let s := s.modPeer h.src fun x => x.hopsBy port (h.hops + 1)
    s.onBroadcast .rollFrame port h (rollData r) fun s =>
      let new := !(s.peer h.src).heard
      let busy := decide (s.tt.state ≠ .idle) && decide (s.tt.state ≠ .stopped)
      let fell := decide (Nat.land (s.peer h.src).info.ports r.ports ≠ (s.peer h.src).info.ports)
      let s := s.modPeer h.src fun x =>
        { x with heard := true, lastAt := s.timebase, info := r, gen := h.gen, listener := (new && busy) || x.listener }
      (if fell ∧ new = false ∧ s.haling.census.contains h.src then s.holdForLink else s).formCensus

/-- CENSUS (R362, R380): a frame that names this part and whose generation follows its own is adopted. A part that hears the census of
a running group which does not name it listens, and takes that group's homeroom as its time master (R363). -/
def execCensus (port : Nat) (h : Header) (seats : List Nat) (dGroup : Int) (s : State) : State :=
  s.onBroadcast .censusFrame port h (ofSigned 64 dGroup :: seats) fun s =>
    if follows16 h.gen s.haling.generation = false then s
    else if seats.contains s.seat then
      let step := decide (s.haling.roll = .minority)
      let s := s.adopt seats h.gen h.src dGroup
      (if step then { s with group := { s.group with stepAt := some s.timebase, synced := false } } else s).settleRoll
    else if s.haling.census.contains s.seat ∧ s.haling.homeroom = h.src then
      ({ s with haling := { s.haling with aligned := false } }).toRoll .forming
    else
      let st := (s.peer h.src).info.state
      if st = 0 ∨ st = 7 then s
      else ({ s with haling := { s.haling with homeroom := h.src } }).toRoll .listener

/-- CENSUS_SEND (R362): the homeroom's, every 100 ms. -/
def execCensusSend (s : State) : State := if s.inGroup ∧ s.isHomeroom then s.sendCensus else s

/-- PART_NOT_HEARD (R361, R364, R378): 30 ms without a ROLL frame. -/
def execPartNotHeard (seat : Nat) (s : State) : State :=
  let x := s.peer seat
  let s1 := s.advanceTo (x.lastAt + 30 * ticksPerMs)
  if seat = s.seat then (if s.haling.duplicate then
      ({ s1 with haling := { s1.haling with duplicate := false } }).formCensus else s)
  else if x.heard = false then s
  else
    let s := s1.modPeer seat fun x => { x with heard := false, hopsA := none, hopsB := none, restart := false, listener := false }
    let s := if s.haling.census.contains seat then s.holdForLink else s
    let s := if s.haling.roll = .listener ∧ s.haling.homeroom = seat then
        ({ s with haling := { s.haling with homeroom := s.seat } }).toRoll .forming
      else s
    s.formCensus

/-! Group time (R365 to R367). -/

/-- The upstream port: fewer hops to the homeroom, port A on a tie. -/
def State.upstream (s : State) : Nat := s.portFor s.haling.homeroom

/-- SYNC (R365): answered with its arrival, the reply's departure and this part's group time. -/
def execSync (port : Nat) (_h : Header) (_time : Nat) (s : State) : State :=
  if 2 ≤ port then s else s.oneHop .syncReplyFrame port [s.timebase, s.timebase, ofSigned 64 s.groupNow]

/-- SYNC_SEND (R365). -/
def execSyncSend (port : Nat) (s : State) : State :=
  if 2 ≤ port ∨ s.portUp port = false then s
  else
    let mark (x : HalingPort) : HalingPort := { x with syncSent := some s.timebase }
    let s := if port = 0 then { s with haling := { s.haling with portA := mark s.haling.portA } }
      else { s with haling := { s.haling with portB := mark s.haling.portB } }
    s.oneHop .syncFrame port [ofSigned 64 s.groupNow]

/-- Asymmetry of a port in ps. -/
def State.asymmetry (s : State) (port : Nat) : Int := toSigned 16 (s.cfg 0x3900 (4 + port))

/-- One-way delay of an exchange in ps: t1 and t4 are this part's, t2 and t3 the neighbour's; a tick is 625 ps. -/
def oneWay (t1 t2 t3 t4 : Nat) (a : Int) : Int := (625 * (((t4 : Int) - t1) - ((t3 : Int) - t2)) - a) / 2

/-- r within 200 ppm, in 2^-40. -/
def rateLimit : Int := 219902325

/-- Adjust O and r so that the group time follows the neighbour's (R347, R366): a step only in IDLE and STOPPED;
otherwise r moves, by a filter whose values the spec leaves open, and G goes on without a break. -/
def State.discipline (s : State) (err : Int) : State :=
  let still := decide (s.tt.state = .idle) || decide (s.tt.state = .stopped)
  if 625 < err.natAbs ∧ still then
    { s with group := { s.group with
        offset := s.group16 - (s.timebase : Int) * 65536 + err * 65536 / 625, since := s.timebase, stepAt := some s.timebase } }
  else
    let (r, s1) := s.freeInt
    { s1 with group := { s1.group with
        offset := s.group16 - (s.timebase : Int) * 65536, rate := clampI (-rateLimit) rateLimit r, since := s.timebase } }

/-- Cause 5 once the residual has stood above 1 microsecond for 10 s of synchronisation (R367). -/
def State.watchResidual (s : State) (err : Int) : State :=
  let inside := decide (err.natAbs ≤ 1000000)
  let since := s.haling.syncSince.getD s.timebase
  let late := !inside && decide (since + 10 * ticksPerS ≤ s.timebase)
  let fresh := late && !s.haling.unsynced
  let s := { s with
    haling := { s.haling with residual := err, syncSince := some since, unsynced := !inside && (s.haling.unsynced || late) }
    group := { s.group with synced := inside } }
  if fresh then s.raise 0x29 0 0 5 else s

/-- SYNC_REPLY (R366): t2 and t3 are the neighbour's stamps, `time` its group time when the reply left. -/
def execSyncReply (port : Nat) (_h : Header) (t2 t3 time : Nat) (s : State) : State :=
  if 2 ≤ port ∨ s.portUp port = false then s
  else
    let x := if port = 0 then s.haling.portA else s.haling.portB
    match x.syncSent with
    | none => s
    | some t1 =>
      let done (x : HalingPort) : HalingPort := { x with syncSent := none }
      let s := if port = 0 then { s with haling := { s.haling with portA := done s.haling.portA } }
        else { s with haling := { s.haling with portB := done s.haling.portB } }
      if s.isHomeroom ∨ s.upstream ≠ port ∨ s.haling.roll = .minority then s
      else
        let d := oneWay t1 t2 t3 s.timebase (s.asymmetry port)
        let err := 625 * toSigned 64 time + d - s.group16 * 625 / 65536
        (s.discipline err).watchResidual err

/-! Web alignment (R368). -/

/-- The timetable is IDLE and the master web encoder has recorded no count for 10 ms. -/
def State.alignRest (s : State) : Bool :=
  s.ttIdle && !s.web.frozen && s.webQuiet

/-- ALIGN (R368): W jumps to the homeroom's. -/
def execAlign (port : Nat) (h : Header) (w : Int) (s : State) : State :=
  s.onBroadcast .alignFrame port h [ofSigned 64 w] fun s =>
    if s.inGroup ∧ s.isHomeroom = false ∧ h.src = s.haling.homeroom ∧ s.haling.roll ≠ .listener ∧ s.alignRest then
      let s := s.jumpTo w
      { s with haling := { s.haling with aligned := true } }
    else s

/-- ALIGN_SEND (R368). -/
def execAlignSend (s : State) : State :=
  if s.inGroup ∧ s.isHomeroom ∧ s.alignRest then s.broadcast .alignFrame [ofSigned 64 s.w] else s

/-! Votes (R63, R64, R370, R373). -/

/-- Slot that holds panel seq, not yet committed, the latest declared. -/
def State.openPanel (s : State) (seq : Nat) : Option Nat :=
  (s.slotsWhere SlotState.uncommitted).find? fun i => decide ((s.slot i).seq = seq)

/-- Slot that holds panel seq in any state but FREE, the latest declared. -/
def State.panelSlot (s : State) (seq : Nat) : Option Nat :=
  ((s.slotsWhere fun x => decide (x ≠ .free)).filter fun i => decide ((s.slot i).seq = seq)).getLast?

def State.voteOf (s : State) (seat seq : Nat) : Option (Nat × Nat) := mapGet none s.haling.votes (seat * 2 ^ 32 + seq)

/-- The homeroom holds a ready vote of every member for panel i. -/
def State.allVoted (s : State) (i : Nat) : Bool :=
  s.haling.census.all fun x => (s.voteOf x (s.slot i).seq).isSome

/-- Every vote held carries this part's own W_p and H + G. -/
def State.votesAgree (s : State) (i : Nat) : Bool :=
  let p := s.slot i
  s.haling.census.all fun x => match s.voteOf x p.seq with
    | some v => decide (v = (ofSigned 64 p.origin, p.h + p.g))
    | none => true

/-- The homeroom may still send the commit message for panel i (R63). -/
def State.commitTime (s : State) (i : Nat) : Bool :=
  decide (s.tt.state = .reversing) || decide (s.tt.state = .waiting)
    || decide (s.w < s.deadlineAt i - lu (s.cfg 0x2100 9))

/-- The homeroom weighs the votes for its first uncommitted panel (R63, R370): it sends the commit message only where it could
commit the panel itself (R38, R51, R364). -/
def State.settleVotes (s : State) : State :=
  if s.inGroup ∧ s.isHomeroom then
    match s.firstUncommitted with
    | none => s
    | some i =>
      let p := s.slot i
      if p.commitMsg then s
      else if s.votesAgree i = false then
        if p.disagreed then s else (s.modSlot i fun p => { p with disagreed := true }).raise 0x29 0 0 8
      else if p.state = .resident ∧ s.haling.roll = .complete ∧ s.allVoted i ∧ s.commitTime i
          ∧ s.commitsHeld = false ∧ s.tt.state.commits = true then
        (({ s with haling := { s.haling with votes := s.haling.votes.filter fun kv => decide (kv.1 % 2 ^ 32 ≠ p.seq) } }).modSlot i
          fun p => { p with commitMsg := true }).broadcast .commitFrame [p.seq]
      else s
  else s

/-- A member reports a change of its restart readiness in a VOTE (R373). -/
def State.settleReady (s : State) : State :=
  if s.inGroup ∧ s.isHomeroom = false then
    match s.nextPanel with
    | none => s
    | some i =>
      let r := s.restartReady i
      if r = s.haling.votedReady then s
      else
        let p := s.slot i
        ({ s with haling := { s.haling with votedReady := r } }).unicast .voteFrame s.haling.homeroom
          [p.seq, b2n p.voted, ofSigned 64 p.origin, p.h + p.g, b2n r]
  else s

/-- The homeroom broadcasts each change of its timetable state (R372). -/
def State.settleState (s : State) : State :=
  if s.inGroup ∧ s.isHomeroom ∧ s.haling.sentState ≠ s.tt.state.code then
    ({ s with haling := { s.haling with sentState := s.tt.state.code } }).broadcast .stateFrame (s.stateData 0)
  else s

/-- What a command that moves a panel, a zone, a scanner or the timetable leaves for the group to be told. -/
def State.settleGroup (s : State) : State := s.settleVotes.settleReady.settleState

/-- VOTE (R63, R370, R373): recorded at the homeroom. -/
def execVote (port : Nat) (h : Header) (seq : Nat) (ready : Bool) (origin : Int) (hg : Nat) (restart : Bool) (s : State) : State :=
  s.onUnicast .voteFrame port h [seq, b2n ready, ofSigned 64 origin, hg, b2n restart] fun s =>
    if s.inGroup ∧ s.isHomeroom then
      let v := if ready then some (ofSigned 64 origin, hg) else none
      let s := { s with haling := { s.haling with votes := mapSet none s.haling.votes (h.src * 2 ^ 32 + seq) v } }
      (s.modPeer h.src fun x => { x with restart }).settleVotes
    else s

/-- A commit message that this member cannot follow (R63, R64): the panel is not exposed here, and the homeroom is
told. -/
def State.lateCommit (s : State) (i seq : Nat) : State :=
  ((s.withdrawSlot i).flagSlot i 2).unicast .lateFrame s.haling.homeroom [seq]

/-- COMMIT_FRAME (R63, R64). -/
def execCommitFrame (port : Nat) (h : Header) (seq : Nat) (s : State) : State :=
  s.onBroadcast .commitFrame port h [seq] fun s =>
    if s.inGroup = false ∨ h.src ≠ s.haling.homeroom ∨ s.haling.roll = .listener then s
    else match s.openPanel seq with
      | none => s.unicast .lateFrame s.haling.homeroom [seq]
      | some i =>
        let early := decide (s.tt.state = .reversing) || decide (s.tt.state = .waiting) || decide (s.w < s.deadlineAt i)
        if (s.slot i).state = .resident ∧ early then
          let s := s.modSlot i fun p => { p with commitMsg := true }
          if s.commitable i then s.commitPanel i else s
        else s.lateCommit i seq

/-- PARTIAL_COMMIT on a panel that this part holds. -/
def State.flagPartial (s : State) (seq : Nat) : State :=
  match s.panelSlot seq with
  | some i => s.flagSlot i 2
  | none => s

/-- The homeroom has a late report: PARTIAL_COMMIT, a seamless halt at once, also in RESTARTING, and the report goes on to every
member (DEDUCED, log 46: every member sets the flag, and Table 12-2 takes LATE to the homeroom alone). -/
def State.takeLate (s : State) (seq : Nat) : State :=
  if s.inGroup ∧ s.isHomeroom then
    let s := (s.flagPartial seq).broadcast .lateFrame [seq]
    if s.tt.state = .running ∨ s.tt.state = .restarting then s.declareHalt false else s
  else s

/-- LATE (R64): a member's report to the homeroom, or the homeroom's to every member, which sets PARTIAL_COMMIT. -/
def execLate (port : Nat) (h : Header) (seq : Nat) (s : State) : State :=
  if h.bcast then
    s.onBroadcast .lateFrame port h [seq] fun s => if s.inGroup ∧ h.src = s.haling.homeroom then s.flagPartial seq else s
  else s.onUnicast .lateFrame port h [seq] fun s => s.takeLate seq

/-! The homeroom's timetable (R371, R372). -/

/-- The fuser catches up from where it stands when a run begins with the nip open (R326). -/
def State.armNip (s : State) : State :=
  if (s.tt.state = .idle ∨ s.tt.state = .stopped) ∧ s.nip = .opened then
    { s with tt := { s.tt with wfo := s.w, nipPending := true } }
  else s

/-- A member's timetable takes the homeroom's state (R372). -/
def State.followState (s : State) (x : StateInfo) : State :=
  if x.state = s.tt.state.code then s
  else if s.tt.state = .stopped ∧ (s.tt.ranIn = false ∨ s.hazard.active ∨ s.faults.fatal) then s
  else match x.state with
    | 0 => s.enterIdle
    | 1 => s.enterTT .running
    | 2 => if s.tt.state = .running then s.declareHalt false else (s.markHalt false).enterTT .halting
    | 3 =>
      let s := s.armNip
      (({ s with tt := { s.tt with wstop := s.w, decelerating := false, afterEnd := false, legacyStop := false } }).clearLate).enterTT .reversing
    | 4 => s.armNip.enterTT .waiting
    | 5 => (s.armNip.enterTT .restarting).hvToRun
    | 6 => if s.tt.state = .running then s.beginEnding else s.enterTT .ending
    | _ => s.stopTimetable 3

/-- STATE (R372). -/
def execState (port : Nat) (h : Header) (x : StateInfo) (s : State) : State :=
  s.onBroadcast .stateFrame port h
    [x.state, ofSigned 64 x.wd, ofSigned 64 x.wrest, realOf x.vr, b2n x.reached, ofSigned 64 x.delta] fun s =>
    if s.inGroup = false ∨ s.isHomeroom ∨ h.src ≠ s.haling.homeroom ∨ s.haling.roll = .minority ∨ s.haling.roll = .listener then s
    else
      let s := { s with haling := { s.haling with last := x } }
      let s := s.followState x
      let s := { s with tt := { s.tt with
          wd := if s.tt.state = TTState.halting ∨ s.tt.state = TTState.ending then x.wd else s.tt.wd
          wrest := x.wrest, vr := x.vr, reached := x.reached, restKnown := true } }
      let s := if x.delta = 0 then s else s.seamCorrect x.delta
      (if s.tt.state = TTState.halting ∨ s.tt.state = TTState.ending then s.checkDeceleration else s).settlePolygons

/-- STATE_SEND (R372): every 1 ms while not IDLE. -/
def execStateSend (s : State) : State :=
  if s.inGroup ∧ s.isHomeroom ∧ s.ttIdle = false then s.broadcast .stateFrame (s.stateData 0) else s

/-- HALT_REPORT (R371): the homeroom holds a member's local W_rest. -/
def execHaltReport (port : Nat) (h : Header) (wrest : Int) (s : State) : State :=
  s.onUnicast .haltReportFrame port h [ofSigned 64 wrest] fun s =>
    if s.inGroup ∧ s.isHomeroom then (s.modPeer h.src fun x => { x with wrest := some wrest }).settleRest else s

/-! Stitch data (R374). -/

/-- Key of a peer station's scanner at a join: seat, station and side of the sender's join. -/
def joinKey (seat station side : Nat) : Nat := (seat * 8 + station) * 2 + side

/-- STITCH (R374): a peer's mean phase error, its age counted in group time. -/
def execStitch (port : Nat) (h : Header) (station side : Nat) (err : Int) (locked : Bool) (s : State) : State :=
  s.onBroadcast .stitchFrame port h [station, side, ofSigned 32 err, b2n locked] fun s =>
    { s with haling := { s.haling with
        peerErrs := mapSet {} s.haling.peerErrs (joinKey h.src station side)
          { err, locked, stamp := (restamp 40 h.stamp s.groupNow).toNat, known := true, at_ := s.timebase } } }

/-- Scanner of a station at a join: the first at the operator side, the last used at the drive side. -/
def State.joinScanner (s : State) (st side : Nat) : Nat := 4 * st + (if side = 0 then 0 else (s.stitch st).nc - 1)

/-- STITCH_SEND (R374). -/
def execStitchSend (s : State) : State :=
  if s.inGroup then
    s.joinsOf.foldl (fun s j =>
      let g := s.joinScanner j.station j.side
      s.broadcast .stitchFrame [j.station, j.side, ofSigned 32 (s.meanError g), b2n (decide ((s.scanner g).state = .locked))]) s
  else s

/-! The tunnel (R377). -/

/-- A tunnel ends with a result. -/
def State.endTunnel (s : State) (result : Nat) : State :=
  { s with haling := { s.haling with tunnel := { s.haling.tunnel with busy := false, result } } }

/-- "Seat unreachable", counted. -/
def State.tunnelFails (s : State) : State :=
  ({ s with haling := { s.haling with tunnelsFailed := wrapInc 32 s.haling.tunnelsFailed } }).endTunnel Abort.seatUnreachable.code

def opTunnelSend (v : Nat) (s : State) : Except Abort State := do
  need (decide (v = 1)) .invalid
  need (!s.haling.tunnel.busy) .state
  let seat := s.cfg 0x3908 1
  let s := { s with haling := { s.haling with tunnel :=
      { busy := true, since := s.timebase, result := 0, seat, reads := decide (s.cfg 0x3908 4 = 1) } } }
  if (s.peer seat).heard then
    let bs := if s.cfg 0x3908 4 = 2 then s.domain 0x3908 5 else []
    .ok (s.unicast .tunnelReqFrame seat ([s.cfg 0x3908 4, s.cfg 0x3908 2, s.cfg 0x3908 3] ++ bs))
  else .ok s.tunnelFails

/-- TUNNEL_SEND (R377). -/
def execTunnelSend (v : Nat) (s : State) : State := command 0x3908 (opTunnelSend v) s

/-- TUNNEL_RSP (R377). -/
def execTunnelRsp (port : Nat) (h : Header) (result : Nat) (bytes : List Nat) (s : State) : State :=
  s.onUnicast .tunnelRspFrame port h (result :: bytes) fun s =>
    if s.haling.tunnel.busy ∧ h.src = s.haling.tunnel.seat then
      let s := s.endTunnel result
      if result = 0 ∧ s.haling.tunnel.reads then s.setDomain 0x3908 5 bytes else s
    else s

/-- TUNNEL_TIMEOUT (R377): 100 ms without an answer. -/
def execTunnelTimeout (s : State) : State :=
  if s.haling.tunnel.busy then (s.advanceTo (s.haling.tunnel.since + 100 * ticksPerMs)).tunnelFails else s

/-! Hazard sets (R375, R376). -/

/-- A source is inactive from now on (R386). -/
def State.sourceGone (s : State) (src : Nat) : State :=
  { s with hazard := { s.hazard with
      present := setBit s.hazard.present src false, clearSince := mapSet 0 s.hazard.clearSince src (s.timebase + 1) } }

/-- A source makes a demand now. -/
def State.sourceDemands (s : State) (src : Nat) : State :=
  { s with hazard := { s.hazard with
      present := setBit s.hazard.present src true, clearSince := mapSet 0 s.hazard.clearSince src 0 } }

/-- HAZARD_SET (R376): the Haling source becomes active, and the set goes on with its hop count raised. -/
def execHazardSet (port origin hops : Nat) (s : State) : State :=
  if 2 ≤ port ∨ s.portUp port = false ∨ origin = s.seat then s
  else
    let s := { s with haling := { s.haling with
        hazardSets := wrapInc 32 s.haling.hazardSets, origins := mapSet 0 s.haling.origins origin (s.timebase + 1) } }
    ((s.sourceDemands 9).sendPort .hazardSet (otherPort port) (hazardChars origin (hops + 1))).hazardNet 9 0

/-- HAZARD_SET_REPEAT (R375). -/
def execHazardSetRepeat (s : State) : State :=
  if s.hazard.active ∧ setBit s.hazard.sources 9 false ≠ 0 then s.sendHazardSets else s

/-- HAZARD_SET_TIMEOUT (R376): 2 microseconds without a set of that origin. -/
def execHazardSetTimeout (origin : Nat) (s : State) : State :=
  let t := mapGet 0 s.haling.origins origin
  if t = 0 then s
  else
    let s := s.advanceTo (t - 1 + 2 * ticksPerUs)
    let left := mapSet 0 s.haling.origins origin 0
    let s := { s with haling := { s.haling with origins := left } }
    if left = [] then s.sourceGone 9 else s

/-! A half without quorum (R379). -/

/-- MINORITY_STOP (R379): the committed panels are done and W has been at rest for 10 ms. The timetable enters STOPPED from IDLE too. -/
def execMinorityStop (s : State) : State :=
  let c := s.haling.census
  let split := c.any fun x => !s.half.contains x
  if s.inGroup ∧ split ∧ s.quorum = false ∧ s.haling.roll ≠ .minority ∧ s.slotsWhere SlotState.isCommitted = []
      ∧ s.webQuiet = true then
    let s := s.toRoll .minority
    let s := (upTo 32).foldl State.settleLaser s
    let s := ((s.hv.map (·.1)).foldl State.hvOff s).zonesToSetback
    let s := (s.axes.map (·.1)).foldl (fun s a =>
      let x := s.axis a
      if s.webAxis = some a ∨ (x.state ≠ .moving ∧ x.state ≠ .geared ∧ x.state ≠ .tension) then s
      else s.beginAxisHalt a 0) s
    let s := s.stopTimetable 4
    (if s.tt.state = .idle then s.clearHalt.enterTT .stopped else s).raise 0x29 0 0 6
  else s

end Sys2Proof.Machine
end

