-- ==== Sys2Proof/Machine/HazardOps.lean ====
section
/-! DEFINITION. The hazard net's inputs, pairs and release, the maker fuses, and the seal (R383 to R397). -/

namespace Sys2Proof.Machine

/-! Inputs (R383, R386, R389). -/

/-- Pair of an INTLK input, where its two channels are made one. -/
def State.pairOf (s : State) (src : Nat) : Option Nat :=
  if src < 8 ∧ bit (s.cfg 0x4000 7) (src / 2) then some (src / 2) else none

/-- The ball is high while the input demands: the odd channel of an antivalent pair. -/
def State.demandsHigh (s : State) (src : Nat) : Bool :=
  match s.pairOf src with
  | some k => decide (src % 2 = 1) && bit (s.cfg 0x4000 7) (4 + k)
  | none => false

def State.pair (s : State) (k : Nat) : Pair := mapGet {} s.hazard.pairs k

def State.modPair (s : State) (k : Nat) (f : Pair → Pair) : State :=
  { s with hazard := { s.hazard with pairs := mapMod {} s.hazard.pairs k f } }

/-- Discrepancy time in ticks. -/
def State.discrepancy (s : State) : Nat := s.cfg 0x4000 8 * ticksPerMs

/-- Level of an input at its ball (0x4000:10). -/
def State.setLevel (s : State) (src : Nat) (high : Bool) : State :=
  if src < 9 then { s with hazard := { s.hazard with levels := setBit s.hazard.levels src high } } else s

/-- What a demand on one channel does to its pair (R389). -/
def State.pairDemand (s : State) (src k : Nat) : State :=
  let other := if src % 2 = 0 then src + 1 else src - 1
  let both := bit s.hazard.present other
  s.modPair k fun p =>
    { p with
      disagreeSince := if both then none else some (p.disagreeSince.getD s.timebase)
      demandAt := if both then p.demandAt else some s.timebase
      bothDemanded := both && (match p.demandAt with
        | some t => decide (s.timebase ≤ t + s.discrepancy)
        | none => false)
      clearAt := none }

/-- What the clear of one channel does to its pair; two clears together after two demands together unblock it. -/
def State.pairClear (s : State) (src k : Nat) : State :=
  let other := if src % 2 = 0 then src + 1 else src - 1
  let still := bit s.hazard.present other
  s.modPair k fun p =>
    if still then { p with disagreeSince := some (p.disagreeSince.getD s.timebase), clearAt := some s.timebase }
    else
      let together := match p.clearAt with
        | some t => decide (s.timebase ≤ t + s.discrepancy)
        | none => false
      { p with
        disagreeSince := none, demandAt := none, clearAt := none, bothDemanded := false
        blocked := p.blocked && !(p.bothDemanded && together) }

/-- HAZARD_DEMAND (R383): INTLK 0 to 7, DARKn 8, the Haling source 9, or the internal source 10 with its fault code. -/
def execHazardDemand (src cause : Nat) (s : State) : State :=
  if 11 ≤ src then s
  else if src = 10 then s.hazardNet 10 cause
  else
    let s := (s.setLevel src (s.demandsHigh src)).sourceDemands src
    let s := match s.pairOf src with
      | some k => s.pairDemand src k
      | none => s
    s.hazardNet src 0

/-- HAZARD_SOURCE_CLEAR (R386). -/
def execHazardSourceClear (src : Nat) (s : State) : State :=
  if 10 ≤ src ∨ bit s.hazard.present src = false then s
  else
    let s := (s.setLevel src (!s.demandsHigh src)).sourceGone src
    match s.pairOf src with
    | some k => s.pairClear src k
    | none => s

/-- A blocked pair keeps the net active (R389). -/
def State.anyBlocked (s : State) : Bool := s.hazard.pairs.any fun kv => kv.2.blocked

/-- The net is released: outputs are permitted again, scanners search, event 0x0102 (R387, R391). -/
def State.releaseNet (s : State) : State :=
  let s := { s with hazard := { s.hazard with active := false, sources := 0 } }
  ((upTo 32).foldl State.settleLaser s).postLead 0x0102 0 0

/-- AUTOMATIC_RELEASE (R386, R388): the source's demand ends when it has been inactive for the release delay; with no
source left the net is released. -/
def execAutomaticRelease (src : Nat) (s : State) : State :=
  let t := mapGet 0 s.hazard.clearSince src
  let held : Bool := match s.pairOf src with
    | some k => (s.pair k).blocked
    | none => false
  if 10 ≤ src ∨ t = 0 ∨ bit (s.cfg 0x4000 6) src = false ∨ bit s.hazard.present src ∨ bit s.hazard.sources src = false ∨ held = true then s
  else
    let s := s.advanceTo (t - 1 + s.cfg 0x4000 9 * ticksPerMs)
    let s := { s with hazard := { s.hazard with sources := setBit s.hazard.sources src false } }
    if s.hazard.sources = 0 ∧ s.hazard.active ∧ s.anyBlocked = false ∧ s.faults.fatal = false then s.releaseNet else s

/-- The net becomes active for pair k: by the inputs that make a demand; where neither does the blocked pair itself holds it, and no
source bit shows it (R388, R389). -/
def State.netForPair (s : State) (k : Nat) : State :=
  let srcs := [2 * k, 2 * k + 1].filter (bit s.hazard.present)
  let s := srcs.foldl (fun s src => s.hazardNet src 0) s
  if s.hazard.active then s else s.hazardActions (2 * k) 0

/-- A pair in force whose channels disagree has its discrepancy time running (R389). -/
def State.watchPair (s : State) (k : Nat) : State :=
  if bit (s.cfg 0x4000 7) k ∧ bit s.hazard.present (2 * k) ≠ bit s.hazard.present (2 * k + 1) then
    s.modPair k fun p => { p with disagreeSince := some (p.disagreeSince.getD s.timebase) }
  else s

/-- DISCREPANCY_TIMEOUT (R389): the pair is blocked, hazard net cause 1. -/
def execDiscrepancyTimeout (pair : Nat) (s : State) : State :=
  match (s.pair pair).disagreeSince with
  | none => s
  | some t =>
    if 4 ≤ pair ∨ bit (s.cfg 0x4000 7) pair = false ∨ (s.pair pair).blocked then s
    else
      let s := (s.advanceTo (t + s.discrepancy + 1)).modPair pair fun p =>
        { p with blocked := true, bothDemanded := false, demandAt := none, clearAt := none }
      (s.raise 0x01 s.dies.lead (2 * pair) 1).netForPair pair

/-- Every source is inactive, and every automatic source has completed its delay (R387). -/
def State.sourcesQuiet (s : State) : Bool :=
  decide (s.hazard.present = 0) && decide (Nat.land s.hazard.sources (s.cfg 0x4000 6) = 0)

def opHazardRelease (v : Nat) (s : State) : Except Abort State := do
  need (decide (v = 1)) .invalid
  need (s.sourcesQuiet && !s.faults.fatal && !s.anyBlocked) .state
  .ok (if s.hazard.active then s.releaseNet else s)

/-- HAZARD_RELEASE (R387). -/
def execHazardRelease (v : Nat) (s : State) : State := command 0x4000 (opHazardRelease v) s

/-! Maker fuses (R394, R395). -/

/-- Die of a fuse field, and its highest value; none where 0x4010 to 0x4016 hold no such field. -/
def fuseField (index sub : Nat) : Option (Nat × Nat) :=
  if sub = 0 then none
  else
    let k := sub - 1
    match index with
    | 0x4010 => if k < 8 then some (k, 4095) else none
    | 0x4011 => if k < 8 then some (k, 63) else none
    | 0x4012 => if k < 64 then some (k / 8, 65535) else none
    | 0x4013 => if k < 64 then some (k / 8, 65535) else none
    | 0x4014 => if k < 32 then some (k / 4, 65535) else none
    | 0x4015 => if k < 32 then some (k / 4, 65535) else none
    | 0x4016 => if k < 64 then some (axisDie k, 2 ^ 32 - 1) else none
    | _ => none

def State.fuseOf (s : State) (key : Nat) : Fuse := mapGet {} s.fuses.fields key

/-- The checks of R395, in its order. -/
def opFuseProgram (key : Nat) (s : State) : Except Abort State := do
  need (decide (key = 0x66757365)) .invalid
  match fuseField s.fuses.targetIndex s.fuses.targetSub with
  | none => .error .invalid
  | some (die, top) =>
    need (s.present die) .noSuchUnit
    need (decide (s.fuses.value ≤ top)) .invalid
    need (!s.sealed.on) .isSealed
    let k := odKey s.fuses.targetIndex s.fuses.targetSub
    need (decide (s.nmt.state = .preOperational) && s.hazard.active && !(s.fuseOf k).locked && s.fuses.busy.isNone) .state
    .ok { s with fuses := { s.fuses with busy := some (k, s.fuses.value) } }

/-- FUSE_PROGRAM (R395): a refusal is also kept in 0x4018:5. -/
def execFuseProgram (key : Nat) (s : State) : State :=
  let t := command 0x4018 (opFuseProgram key) s
  match t.resp with
  | some a => { t with fuses := { t.fuses with result := a.code } }
  | none => t

/-- FUSE_PROGRAM_DONE (R395): both copies as they verify; the lock bit; a failed field reads 0 for good. -/
def execFuseProgramDone (copyA copyB : Nat) (s : State) : State :=
  match s.fuses.busy with
  | none => s
  | some (k, v) =>
    let good := decide (copyA = v) && decide (copyB = v)
    let f : Fuse := { copyA, copyB, locked := true, invalid := !good }
    let s := { s with fuses := { s.fuses with
        fields := mapSet {} s.fuses.fields k f, result := if good then 0 else 0xFFFFFFFF, busy := none } }
    (upTo 32).foldl State.settleLaser s

/-! The seal (R396). -/

/-- Every rws object as index, sub-index and size, in ascending order. -/
def rwsObjects : List (Nat × Nat × Nat) :=
  ((objTable.filter fun o => decide (o.access = .rws)).flatMap fun o =>
    (upTo (o.hi + 1 - o.lo)).flatMap fun i => (upTo (o.subHi + 1 - o.subLo)).map fun k =>
      (o.lo + i, o.subLo + k, o.ty.size)).mergeSort fun a b => decide (odKey a.1 a.2.1 ≤ odKey b.1 b.2.1)

/-- The unit that an rws object belongs to is present (R4). -/
def State.rwsPresent (s : State) (index : Nat) : Bool :=
  if 0x2A00 ≤ index ∧ index ≤ 0x2A1F then s.scannerPresent (index - 0x2A00)
  else if 0x3000 ≤ index ∧ index ≤ 0x303F then s.axisPresent (index - 0x3000)
  else if 0x3400 ≤ index ∧ index ≤ 0x343F then s.hvPresent (index - 0x3400)
  else if 0x3500 ≤ index ∧ index ≤ 0x351F then s.zonePresent (index - 0x3500)
  else true

/-- Sub-indices that an axis's kind does not have: they read 0 and refuse writes (R293). -/
def axisLacks (a sub : Nat) : Bool :=
  if a < 16 then decide (20 ≤ sub) && decide (sub ≤ 22) else decide (sub = 18) || decide (sub = 19)

/-- Value of an rws object: 0 for a sub-index that its axis's kind does not have. -/
def State.rwsValue (s : State) (index sub : Nat) : Nat :=
  if 0x3000 ≤ index ∧ index ≤ 0x303F ∧ axisLacks (index - 0x3000) sub then 0 else s.cfg index sub

/-- The limits digest: CRC-32C over every rws value, little-endian, absent units skipped. -/
def State.limitsDigest (s : State) : Nat :=
  crc32c ((rwsObjects.filter fun o => s.rwsPresent o.1).flatMap fun o => leBytes o.2.2 (s.rwsValue o.1 o.2.1))

def opSeal (key : Nat) (s : State) : Except Abort State := do
  need (decide (key = 0x7365616C) && decide (s.nmt.state = .preOperational)) .state
  need (!s.sealed.on) .isSealed
  .ok { s with sealed := { on := true, stamp := s.timebase, digest := s.limitsDigest } }

/-- SEAL (R396). -/
def execSeal (key : Nat) (s : State) : State := command 0x4008 (opSeal key) s

end Sys2Proof.Machine
end

