-- ==== Sys2Proof/Machine/Collector.lean ====
section
/-! DEFINITION. The fault collector, FAULTn, die faults and the lead-die role (R401 to R410). -/

namespace Sys2Proof.Machine

/-! Faults of every cause table. -/

/-- Pairs of unit type and cause in the cause tables. -/
def knownCauses : List (Nat × List Nat) :=
  [(0x01, [1, 2, 3, 4]), (0x02, [1, 2, 3, 4]), (0x03, [1, 2, 3, 4]), (0x04, [1, 2, 3]), (0x05, [1, 2]),
   (0x08, [1, 2, 3, 4]), (0x09, [1]), (0x0A, [1, 2]), (0x0B, [1]),
   (0x10, [1, 2, 3, 4, 5, 6, 7, 8, 9, 10, 11]), (0x11, [1, 2, 3, 4, 5, 6, 7, 8]), (0x12, [1, 2, 3, 4, 5, 6, 7, 8, 9]),
   (0x18, [1, 2, 3, 4, 5, 6, 7]), (0x19, [1, 2, 3, 4, 5, 6, 7]), (0x1A, [1]),
   (0x20, [1, 2, 3]), (0x21, [1]), (0x22, [1, 2, 3, 4, 5]), (0x23, [1, 2, 3, 4, 5]),
   (0x28, [1, 2, 3, 4, 5, 6]), (0x29, [1, 2, 3, 4, 5, 6, 8]),
   (0x30, [1, 2, 3, 4, 5, 6, 7]), (0x31, [1, 2, 3, 4, 5, 6]), (0x32, [1, 2, 3, 4, 5, 6, 7]), (0x33, [1, 2, 3, 4, 5, 6]), (0x34, [1, 2])]

def knownCause (unit cause : Nat) : Bool := knownCauses.any fun u => decide (u.1 = unit) && u.2.contains cause

/-- The flash operations that a transfer waits for go on unanswered. -/
def State.dropAskers (s : State) (p : Asker → Bool) : State :=
  { s with flash := { s.flash with queue := s.flash.queue.map fun j => if p j.asker then { j with asker := .direct } else j } }

/-- Transfers of these controllers, in segments or waiting for the flash, end with "transfer ended by a lead die move" (R409, Table 15-16). -/
def State.endUsdo (s : State) (ctrls : List Nat) : State :=
  ctrls.foldl (fun s c =>
    let waiting := s.flash.queue.any fun j => decide (j.asker = .usdo c)
    if mapGet none s.usdo c = none ∧ waiting = false then s
    else
      ({ s with usdo := mapSet none s.usdo c none, resp := some .leadMove }).dropAskers (fun a => decide (a = Asker.usdo c))
        |>.emit .usdo c [0x580 + s.nmt.node, Abort.leadMove.code]) s

/-! The collector (R401, R402, R404). -/

/-- Order of faults that reach the collector: by their cycle of SYSCLK, and in one cycle fatal, contained, corrected, then die, unit,
instance, cause. Die cause 2 comes after the fault that called for the fence (R408). -/
def FaultNote.key (n : FaultNote) : Nat :=
  let c := n.code
  let rank := if codeUnit c = 0x04 ∧ codeCause c = 2 then 4 else 3 - codeClass c
  ((((n.stamp / 2 * 8 + rank) * 8 + codeDie c) * 64 + codeUnit c) * 2048 + codeInst c) * 1024 + codeCause c

/-- A repeat of the newest entry within 1 ms. -/
def State.repeats (s : State) (n : FaultNote) : Bool :=
  match s.faults.log.head? with
  | some e => decide (e.code = n.code) && decide (n.stamp ≤ e.stamp + ticksPerMs)
  | none => false

/-- The log with one more fault (R402). -/
def State.logFault (s : State) (n : FaultNote) : State :=
  if s.repeats n then
    { s with faults := { s.faults with log := match s.faults.log with
        | e :: es => { e with repeats := satInc 16 e.repeats } :: es
        | [] => [] } }
  else
    let e : LogEntry := { stamp := n.stamp, code := n.code, inDetention := n.inDetention, injected := n.injected }
    { s with faults := { s.faults with
        log := (e :: s.faults.log).take 256
        lost := if s.faults.log.length < 256 then s.faults.lost else wrapInc 32 s.faults.lost } }

/-- Counts since power-up, repeats included, and the last code (0x4100:3 to 7). -/
def State.countFault (s : State) (code : Nat) : State :=
  { s with faults := { s.faults with
      last := code
      corrected := if codeClass code = 0 then wrapInc 32 s.faults.corrected else s.faults.corrected
      contained := if codeClass code = 1 then wrapInc 32 s.faults.contained else s.faults.contained
      fatalCount := if codeClass code = 2 then wrapInc 32 s.faults.fatalCount else s.faults.fatalCount } }

/-- FAULTn (R404): a pulse of 10 microseconds and the latch, unless a contained fault's unit was in detention already. -/
def State.driveFaultn (s : State) (n : FaultNote) : State :=
  if codeClass n.code = 0 ∨ (codeClass n.code = 1 ∧ n.inDetention) then s
  else { s with faults := { s.faults with latch := true, pulseEnd := some (s.timebase + 10 * ticksPerUs) } }

/-- EMCY error code of a fault (R399). -/
def emcyCode (code : Nat) : Nat := 0xFF00 + 4 * codeUnit code + codeClass code

/-- One fault at the collector. -/
def State.collect (s : State) (n : FaultNote) : State :=
  let again := s.repeats n
  let s := ((s.logFault n).countFault n.code).driveFaultn n
  if again then s
  else
    let d := codeDie n.code
    let s := (s.postEvent (if s.present d then d else s.dies.lead) 0x0100 n.code 0).sendMsix (s.cfg 0x2200 7)
    if codeClass n.code = 0 then s
    else
      let s := s.queueEmcy (emcyCode n.code) n.code s.errorRegister
      { s with can := { s.can with errorShown := true } }

/-- Everything in the inbox goes through the collector; what a collection itself raises follows. -/
def State.collectAll (s : State) : Nat → State
  | 0 => s
  | n + 1 =>
    match s.faults.inbox with
    | [] => s
    | xs =>
      let ys := xs.mergeSort fun a b => decide (a.key ≤ b.key)
      (ys.foldl State.collect { s with faults := { s.faults with inbox := [] } }).collectAll n


/-- FAULTn is driven low: a pulse, the latch, or a fatal fault. -/
def State.drivesFaultn (s : State) : Bool := s.faults.latch || s.faults.fatal || s.faults.pulseEnd.isSome

/-- The part has let go of FAULTn and reads it back: low where another part still holds it low. No command tells when that part lets go, so
whether it does is a free value (log 26). -/
def State.senseFaultn (s : State) : State :=
  if s.drivesFaultn ∨ s.faults.outsideLow = false then s
  else
    let (n, s) := s.freeNat
    let low := decide (n % 2 = 1)
    { s with faults := { s.faults with outsideLow := low, externalLow := s.faults.externalLow || low } }

/-- FAULTN_EXTERNAL_LOW (R405): another part pulls FAULTn low. -/
def execFaultnExternalLow (s : State) : State :=
  { s with faults := { s.faults with outsideLow := true, externalLow := s.faults.externalLow || !s.drivesFaultn } }

/-- FAULT_PULSE_END (R404, R405). -/
def execFaultPulseEnd (s : State) : State :=
  match s.faults.pulseEnd with
  | none => s
  | some t => { (s.advanceTo t) with faults := { s.faults with pulseEnd := none } }.senseFaultn

/-- Arbiter ports whose detention the host's clear ends (R114): CLEAR_FAULT_LATCH clears both (DESIGN CHOICE, log 26: R114 names no
write, and Table 13-4 only the unit's own CLEAR or RELEASE). -/
def State.freePorts (s : State) : State :=
  let s := { s with store := { s.store with ports := mapEach {} s.store.ports fun _ p => { p with detained := false } } }
  (s.undetain 0x09 0 0).undetain 0x09 1 1

def opClearFaultLatch (v : Nat) (s : State) : Except Abort State := do
  need (decide (v = 1)) .invalid
  need (!s.faults.fatal) .state
  let s := { s with faults := { s.faults with
      latch := false, externalLow := false, powerLatched := false, thermalLatched := false } }
  .ok s.senseFaultn.freePorts.errorReset

/-- CLEAR_FAULT_LATCH (R404, R405). -/
def execClearFaultLatch (v : Nat) (s : State) : State := command 0x4100 (opClearFaultLatch v) s

def opClearLog (v : Nat) (s : State) : Except Abort State := do
  need (decide (v = 1)) .invalid
  .ok { s with faults := { s.faults with log := [] } }

/-- CLEAR_LOG (R415). -/
def execClearLog (v : Nat) (s : State) : State := command 0x4100 (opClearLog v) s

/-! Dies (R408 to R410). -/

/-- LOCKSTEP_MISMATCH (R408, R410, R416): a fault of a supervisor pair by its cause 1 to 4, or a die fault where the cause
is 4,096 (unit type 4 times 1,024) and more. The interface island of a fenced die 0 still raises die cause 3. -/
def execLockstepMismatch (die cause : Nat) (s : State) : State :=
  let unit := if cause < 1024 then 0x03 else cause / 1024
  if (s.present die = false ∧ (die ≠ 0 ∨ unit ≠ 0x04 ∨ cause % 1024 ≠ 3)) ∨ (unit ≠ 0x03 ∧ unit ≠ 0x04) ∨ knownCause unit (cause % 1024) = false then s
  else s.raise unit die 0 (cause % 1024)

/-- SUPERVISOR_WATCHDOG_EXPIRY (R416): supervisor cause 4. In recess a pair's watchdog is held (R434). -/
def execSupervisorWatchdogExpiry (die : Nat) (s : State) : State :=
  if s.present die = false ∨ (s.heat die).recess then s else s.raise 0x03 die 0 4

/-- LEAD_DIE_MOVE (R409): the next lowest healthy die leads, and transfers in progress end. -/
def execLeadDieMove (s : State) : State :=
  if s.dies.moving = false then s
  else
    let lead := s.presentDies.head?.getD s.dies.lead
    let s := ({ s with dies := { s.dies with lead, moving := false } }).traceEntry 2 (3 * 2 ^ 12 + lead)
    s.endUsdo [0, 1]

/-- GATE_READBACK_MISMATCH (R392, R507): MFIO n carries an HV or fuser gate; hazard net cause 4. -/
def execGateReadbackMismatch (n : Nat) (s : State) : State :=
  let code := s.cfg (0x5000 + n) 1 / 2 ^ 24
  if n < 224 ∧ (code = 5 ∨ code = 8) then s.raise 0x01 (if n < 192 then n / 24 else s.dies.lead) 0 4 else s

/-- HAZARD_NODE_DISAGREEMENT (R392): hazard net cause 3. -/
def execHazardNodeDisagreement (die : Nat) (s : State) : State :=
  if s.fitted die then s.raise 0x01 die 0 3 else s

end Sys2Proof.Machine
end

