-- ==== Sys2Proof/Machine/Sha.lean ====
section
/-! DEFINITION. SHA-256, by which images are checked (R484, R485). The spec names the algorithm; its text is FIPS 180-4
(PRESUMED, log 32). Words are numbers below 2^32. -/

namespace Sys2Proof.Machine

def shaRotr (n x : Nat) : Nat := x / 2 ^ n + x % 2 ^ n * 2 ^ (32 - n)

def shaXor3 (a b c : Nat) : Nat := Nat.xor (Nat.xor a b) c

def shaAdd (xs : List Nat) : Nat := xs.sum % 2 ^ 32

/-- The hash before the first block. -/
def shaStart : List Nat :=
  [0x6a09e667, 0xbb67ae85, 0x3c6ef372, 0xa54ff53a, 0x510e527f, 0x9b05688c, 0x1f83d9ab, 0x5be0cd19]

/-- The constant of each round. -/
def shaRound : List Nat :=
  [0x428a2f98, 0x71374491, 0xb5c0fbcf, 0xe9b5dba5, 0x3956c25b, 0x59f111f1, 0x923f82a4, 0xab1c5ed5,
   0xd807aa98, 0x12835b01, 0x243185be, 0x550c7dc3, 0x72be5d74, 0x80deb1fe, 0x9bdc06a7, 0xc19bf174,
   0xe49b69c1, 0xefbe4786, 0x0fc19dc6, 0x240ca1cc, 0x2de92c6f, 0x4a7484aa, 0x5cb0a9dc, 0x76f988da,
   0x983e5152, 0xa831c66d, 0xb00327c8, 0xbf597fc7, 0xc6e00bf3, 0xd5a79147, 0x06ca6351, 0x14292967,
   0x27b70a85, 0x2e1b2138, 0x4d2c6dfc, 0x53380d13, 0x650a7354, 0x766a0abb, 0x81c2c92e, 0x92722c85,
   0xa2bfe8a1, 0xa81a664b, 0xc24b8b70, 0xc76c51a3, 0xd192e819, 0xd6990624, 0xf40e3585, 0x106aa070,
   0x19a4c116, 0x1e376c08, 0x2748774c, 0x34b0bcb5, 0x391c0cb3, 0x4ed8aa4a, 0x5b9cca4f, 0x682e6ff3,
   0x748f82ee, 0x78a5636f, 0x84c87814, 0x8cc70208, 0x90befffa, 0xa4506ceb, 0xbef9a3f7, 0xc67178f2]

/-- Schedule words, the newest first, with `n` more. -/
def shaExtend : Nat → List Nat → List Nat
  | 0, w => w
  | n + 1, w =>
    let x := w.getD 14 0
    let y := w.getD 1 0
    shaExtend n (shaAdd [shaXor3 (shaRotr 17 y) (shaRotr 19 y) (y / 2 ^ 10), w.getD 6 0,
      shaXor3 (shaRotr 7 x) (shaRotr 18 x) (x / 2 ^ 3), w.getD 15 0] :: w)

/-- One round over the eight working words. -/
def shaStep (v : List Nat) (wk : Nat × Nat) : List Nat :=
  match v with
  | [a, b, c, d, e, f, g, h] =>
    let choice := Nat.xor (Nat.land e f) (Nat.land (2 ^ 32 - 1 - e) g)
    let t1 := shaAdd [h, shaXor3 (shaRotr 6 e) (shaRotr 11 e) (shaRotr 25 e), choice, wk.1, wk.2]
    let majority := shaXor3 (Nat.land a b) (Nat.land a c) (Nat.land b c)
    let t2 := shaAdd [shaXor3 (shaRotr 2 a) (shaRotr 13 a) (shaRotr 22 a), majority]
    [shaAdd [t1, t2], a, b, c, shaAdd [d, t1], e, f, g]
  | _ => v

/-- The hash after a block of 16 words. -/
def shaBlock (hash words : List Nat) : List Nat :=
  let out := (((shaExtend 48 words.reverse).reverse).zip shaRound).foldl shaStep hash
  (hash.zip out).map fun p => shaAdd [p.1, p.2]

/-- Four bytes as a word, the most significant first. -/
def shaWord (bs : List Nat) : Nat := bs.foldl (fun a b => 256 * a + b % 256) 0

/-- The hash after `n` blocks of 64 bytes. -/
def shaBlocks : Nat → List Nat → List Nat → List Nat
  | 0, hash, _ => hash
  | n + 1, hash, bs => shaBlocks n (shaBlock hash ((upTo 16).map fun k => shaWord ((bs.drop (4 * k)).take 4))) (bs.drop 64)

/-- Bytes of a number, the most significant first. -/
def beBytes (n v : Nat) : List Nat := ((leBytes n v).map (·.toNat)).reverse

/-- The 32 bytes of the SHA-256 of a message. -/
def sha256 (msg : List Nat) : List Nat :=
  let padded := msg ++ [0x80] ++ List.replicate ((119 - msg.length % 64) % 64) 0 ++ beBytes 8 (8 * msg.length)
  (shaBlocks (padded.length / 64) shaStart padded).flatMap (beBytes 4)

end Sys2Proof.Machine
end

