-- ==== Sys2Proof/Machine/FlashBase.lean ====
section
/-! DEFINITION. The flash: what its areas hold, the record journal, and the verification of images (R472 to R485). -/

namespace Sys2Proof.Machine

/-! Presence (R4). -/

/-- Die of the unit that an object addresses; none where it addresses no unit of a die. -/
def objDie (index sub : Nat) : Option Nat :=
  let bySub (k : Nat) : Option Nat := if sub = 0 then none else some ((sub - 1) / k)
  if index = 0x2141 ∨ index = 0x2150 then bySub 1
  else if index = 0x2151 then bySub 4
  else if 0x2181 ≤ index ∧ index ≤ 0x2183 then bySub 1
  else if 0x2208 ≤ index ∧ index ≤ 0x220F then some (index - 0x2208)
  else if 0x2210 ≤ index ∧ index ≤ 0x2217 then some (index - 0x2210)
  else if 0x2310 ≤ index ∧ index ≤ 0x2317 then some (index - 0x2310)
  else if index = 0x2321 ∨ index = 0x2331 then bySub 1
  else if 0x2400 ≤ index ∧ index ≤ 0x241F then some ((index - 0x2400) / 4)
  else if 0x2508 ≤ index ∧ index ≤ 0x250F then some (index - 0x2508)
  else if 0x2520 ≤ index ∧ index ≤ 0x253F then some ((index - 0x2520) / 4)
  else if 0x2808 ≤ index ∧ index ≤ 0x280F then some (index - 0x2808)
  else if 0x2810 ≤ index ∧ index ≤ 0x2817 then some (index - 0x2810)
  else if 0x2820 ≤ index ∧ index ≤ 0x287F then some ((index - 0x2820) % 32 / 4)
  else if 0x2900 ≤ index ∧ index ≤ 0x291F then some ((index - 0x2900) / 4)
  else if 0x2A00 ≤ index ∧ index ≤ 0x2A1F then some ((index - 0x2A00) / 4)
  else if 0x3000 ≤ index ∧ index ≤ 0x303F then some (axisDie (index - 0x3000))
  else if 0x3100 ≤ index ∧ index ≤ 0x3117 then some (chanDie (index - 0x3100))
  else if 0x3118 ≤ index ∧ index ≤ 0x311E then bySub 8
  else if 0x3200 ≤ index ∧ index ≤ 0x33FF then some (slotDie (index - 0x3200))
  else if 0x3400 ≤ index ∧ index ≤ 0x343F then some (hvDie (index - 0x3400))
  else if 0x3500 ≤ index ∧ index ≤ 0x351F then some (zoneDie (index - 0x3500))
  else if index = 0x3801 then bySub 1
  else if 0x3808 ≤ index ∧ index ≤ 0x380F then some (index - 0x3808)
  else if index = 0x4010 ∨ index = 0x4011 then bySub 1
  else if index = 0x4012 ∨ index = 0x4013 then bySub 8
  else if index = 0x4014 ∨ index = 0x4015 then bySub 4
  else if index = 0x4016 then (if sub = 0 then none else some (axisDie (sub - 1)))
  else if 0x4221 ≤ index ∧ index ≤ 0x4224 then bySub 1
  else if 0x5000 ≤ index ∧ index < 0x50C0 then some ((index - 0x5000) / 24)
  else none

/-- The unit that an object addresses is present; the two exceptions of R4 stay readable after a fence. The compressor
mismatch counts need a codec (R6), and an arbiter port its channel. -/
def State.objPresent (s : State) (index sub : Nat) (write : Bool) : Bool :=
  match objDie index sub with
  | none => decide (index ≠ 0x2330 ∨ sub < 2) || s.channelPresent (sub - 2)
  | some d =>
    if (index = 0x2141 ∨ index = 0x2150) ∧ write = false then s.fitted d
    else s.present d && (decide (index ≠ 0x2331) || s.variant.codec)

/-! Areas (Table 16-1). -/

def slotBase (k : Nat) : Nat := 0x10000 + 0x800000 * k

def stagingBase : Nat := 0x1010000

def pieceBase (n : Nat) : Nat := stagingBase + 4096 * n

def transferSector : Nat := 0x1810000

/-- Bitmap byte of piece n, behind the transfer ID. -/
def pieceMark (n : Nat) : Nat := transferSector + 4 + n

def blockSize : Nat := 65536

/-- Journal block b of 64. -/
def blockBase (b : Nat) : Nat := 0x1820000 + blockSize * b

def hostBase : Nat := 0x1C20000

/-- Base and size of each area; the host area takes the rest of the device. -/
def Flash.areas (f : Flash) : List (Nat × Nat) :=
  [(0, 0x10000), (slotBase 0, 0x800000), (slotBase 1, 0x800000), (stagingBase, 0x800000), (transferSector, 0x1000),
   (0x1811000, 0xF000), (blockBase 0, 0x400000), (hostBase, f.capacity - hostBase)]

/-- Size of the host area; 0 without a usable device. -/
def State.hostSize (s : State) : Nat := s.flash.capacity - hostBase

/-- What the parameter table of the device must show (R472). -/
def FlashDevice.usable (d : FlashDevice) : Bool :=
  decide (32 * 2 ^ 20 ≤ d.size) && decide (d.size ≤ 256 * 2 ^ 20) && d.octal && d.parameters && d.pages && d.sectors && d.suspends && d.fast

/-- Capacity that a start finds; 0 where the device is refused. -/
def FlashDevice.capacity (d : FlashDevice) : Nat := if d.usable then d.size else 0

def State.flashUsable (s : State) : Bool := decide (s.flash.capacity ≠ 0)

/-- The manager starts no operation: a die has reached the shut-down temperature (R478). -/
def State.flashHalted (s : State) : Bool := s.thermal.any fun kv => kv.2.shutRaised

/-! Bytes of the device. -/

/-- A byte as the part was delivered: the reserved header, the image in slot 0, and erased bytes (log 30). -/
def deliveredByte (a : Nat) : Nat :=
  if a < slotBase 0 then Config.flashHeader a % 256
  else if a < slotBase 1 then Config.shippedImage.getD (a - slotBase 0) 255 % 256
  else 255

def Flash.byte (f : Flash) (a : Nat) : Nat := Nat.xor (mapGet 0 f.cells a) (deliveredByte a)

def Flash.bytes (f : Flash) (a n : Nat) : List Nat := (upTo n).map fun k => f.byte (a + k)

/-- Entries of bytes from `a` on: those that differ from the byte delivered. -/
def cellsOf : Nat → List Nat → Map Nat
  | _, [] => []
  | a, b :: bs =>
    let x := Nat.xor (b % 256) (deliveredByte a)
    if x = 0 then cellsOf (a + 1) bs else (a, x) :: cellsOf (a + 1) bs

/-- Bytes from `a` on become `bs`, in the canonical form of a map. -/
def Flash.write (f : Flash) (a : Nat) (bs : List Nat) : Flash :=
  { f with cells := (f.cells.filter fun kv => decide (kv.1 < a)) ++ cellsOf a bs
      ++ f.cells.filter fun kv => decide (a + bs.length ≤ kv.1) }

/-- Bytes set to 0xFF. -/
def Flash.wipe (f : Flash) (a n : Nat) : Flash := f.write a (List.replicate n 255)

/-- What a device operation that finishes leaves. -/
def Flash.apply (f : Flash) : FlashStep → Flash
  | .read _ => f
  | .scan => f
  | .program a bs => f.write a bs
  | .mark a state => f.write a [state]
  | .erase a n => f.wipe a n

/-! The journal (R479 to R483). -/

def crcOf (bs : List Nat) : Nat := crc32c (bs.map fun b => BitVec.ofNat 8 b)

/-- Bytes of a record in its block: header, and data padded to 16. -/
def recordSize (n : Nat) : Nat := 16 + (n + 15) / 16 * 16

/-- Header of a record being written (Table 16-3). -/
def recordHeader (r : JRecord) : List Nat :=
  let h := r.cls :: (numBytes 2 r.format ++ numBytes 4 r.key ++ numBytes 2 r.data.length)
  let h := h ++ numBytes 2 (crcOf h % 2 ^ 16)
  0xFE :: (h ++ numBytes 4 (crcOf (h ++ r.data)))

/-- Header of a journal block; bytes 8 to 11, which R479 does not name, stay erased (log 31). -/
def blockHeader (seq : Nat) : List Nat :=
  let h := numBytes 4 0x4A524E4C ++ numBytes 4 seq ++ List.replicate 4 255
  h ++ numBytes 4 (crcOf h)

/-- Block sequence of block b; none: its header is invalid, and the block unformatted (R479). -/
def Flash.blockSeq (f : Flash) (b : Nat) : Option Nat :=
  let h := f.bytes (blockBase b) 16
  if bytesNum (h.take 4) = 0x4A524E4C ∧ bytesNum (h.drop 12) = crcOf (h.take 12) then some (bytesNum ((h.drop 4).take 4)) else none

/-- The record at an offset; none where its HCHECK fails. -/
def Flash.recordAt (f : Flash) (a : Nat) : Option JRecord :=
  let h := f.bytes a 16
  let n := bytesNum ((h.drop 8).take 2)
  if 8320 < n ∨ bytesNum ((h.drop 10).take 2) ≠ crcOf ((h.drop 1).take 9) % 2 ^ 16 then none
  else
    let data := f.bytes (a + 16) n
    some { addr := a, state := h.getD 0 255, cls := h.getD 1 0, key := bytesNum ((h.drop 4).take 4), format := bytesNum ((h.drop 2).take 2),
           data, crcGood := decide (bytesNum (h.drop 12) = crcOf ((h.drop 1).take 11 ++ data)) }

/-- Records of a block from an offset on, and where the next may go: none where the block is full or a failed HCHECK ends it (R481). -/
def Flash.walk (f : Flash) (stop : Nat) : Nat → Nat → List JRecord × Option Nat
  | 0, _ => ([], none)
  | n + 1, a =>
    if stop ≤ a then ([], none)
    else if (f.bytes a 16).all fun b => decide (b = 255) then ([], some a)
    else match f.recordAt a with
      | none => ([], none)
      | some r =>
        let rest := f.walk stop n (a + recordSize r.data.length)
        (r :: rest.1, rest.2)

def Flash.walkBlock (f : Flash) (b : Nat) : List JRecord × Option Nat := f.walk (blockBase (b + 1)) 4096 (blockBase b + 16)

/-- A formatted block takes its place by sequence (R350). -/
def insertBlock (x : Nat × Nat) : List (Nat × Nat) → List (Nat × Nat)
  | [] => [x]
  | y :: ys => if follows32 x.2 y.2 then y :: insertBlock x ys else x :: y :: ys

/-- Formatted blocks with their sequence, in journal order. -/
def Flash.blocks (f : Flash) : List (Nat × Nat) :=
  (upTo 64).foldl (fun bs b => match f.blockSeq b with
    | some q => insertBlock (b, q) bs
    | none => bs) []

/-- Records in journal order (R480). -/
def Flash.journal (f : Flash) : List JRecord := f.blocks.flatMap fun b => (f.walkBlock b.1).1

/-- A record is valid: HCHECK, CRC and STATE are good (R480). -/
def JRecord.valid (r : JRecord) : Bool := decide (r.state = 0xFC) && r.crcGood

/-- Two records of one CLASS, KEY and FORMAT; a boot record supersedes every other (R489). -/
def JRecord.same (a b : JRecord) : Bool :=
  decide (a.cls = b.cls) && (decide (a.cls = 2) || (decide (a.key = b.key) && decide (a.format = b.format)))

/-- The valid records that `p` takes, in journal order. -/
def Flash.records (f : Flash) (p : JRecord → Bool) : List JRecord := f.journal.filter fun r => r.valid && p r

/-- Blocks that are not formatted. -/
def Flash.freeBlocks (f : Flash) : Nat := 64 - f.blocks.length

/-- Valid records, and free bytes without the reserve block (0x4310:3 and 4). -/
def Flash.live (f : Flash) : Nat := (f.records fun _ => true).length

/-- Where an append of `n` bytes goes in the newest block. -/
def Flash.appendPoint (f : Flash) (n : Nat) : Option Nat :=
  match f.blocks.getLast? with
  | none => none
  | some b => match (f.walkBlock b.1).2 with
    | some a => if a + n ≤ blockBase (b.1 + 1) then some a else none
    | none => none

def Flash.freeBytes (f : Flash) : Nat :=
  let last := match f.blocks.getLast? with
    | none => 0
    | some b => match (f.walkBlock b.1).2 with
      | some a => blockBase (b.1 + 1) - a
      | none => 0
  (f.freeBlocks - 1) * (blockSize - 16) + last

/-- `n` bytes from `a` on stay within one area. -/
def Flash.inArea (f : Flash) (a n : Nat) : Bool := f.areas.any fun x => decide (x.1 ≤ a) && decide (a + n ≤ x.1 + x.2)

/-- Status of a device operation (Table 16-2) that the device does not fail (R475): only the state byte of a journal record takes an
append-mark. -/
def Flash.stepStatus (f : Flash) : FlashStep → Nat
  | .read a => if f.inArea a 256 then 0 else 3
  | .scan => 0
  | .program a bs =>
    if f.inArea a bs.length = false then 3
    else if 256 < a % 256 + bs.length then 4
    else if (f.bytes a bs.length).all fun b => decide (b = 255) then 0 else 1
  | .mark a state => if (f.journal.any fun r => decide (r.addr = a)) = true ∧ Nat.land state (f.byte a) = state then 0 else 2
  | .erase a n => if f.inArea a n = false then 3 else if a % 4096 ≠ 0 then 4 else 0

/-! What a composite operation does, as the device operations it takes. -/

/-- The flash as it will be, and the device operations that lead there. -/
structure FlashPlan where
  flash : Flash
  steps : List FlashStep := []
deriving DecidableEq, Repr

def FlashPlan.act (p : FlashPlan) (x : FlashStep) : FlashPlan := { flash := p.flash.apply x, steps := p.steps ++ [x] }

def FlashPlan.acts (p : FlashPlan) (xs : List FlashStep) : FlashPlan := xs.foldl FlashPlan.act p

/-- Page programs of bytes that may cross pages (R475); `n` bounds their number. -/
def pagePrograms : Nat → Nat → List Nat → List FlashStep
  | 0, _, _ => []
  | n + 1, a, bs =>
    if bs = [] then [] else .program a (bs.take (256 - a % 256)) :: pagePrograms n (a + (256 - a % 256)) (bs.drop (256 - a % 256))

/-- A record at an offset, in the three steps of R480. -/
def FlashPlan.record (p : FlashPlan) (r : JRecord) (a : Nat) : FlashPlan :=
  p.acts (.program a (recordHeader r) :: (pagePrograms r.data.length (a + 16) r.data ++ [.mark a 0xFC]))

/-- The next block is formatted, erased first where it is not blank; none where it would be the one in reserve (R479, R482). -/
def FlashPlan.newBlock (p : FlashPlan) (reserve : Bool) : Option (FlashPlan × Nat) :=
  let used := p.flash.blocks
  if used.length < 63 ∨ (reserve = true ∧ used.length < 64) then
    let from_ := match used.getLast? with
      | some x => (x.1 + 1, (x.2 + 1) % 2 ^ 32)
      | none => (0, 0)
    (((upTo 64).map fun k => (from_.1 + k) % 64).find? fun b => !used.any fun x => decide (x.1 = b)).map fun b =>
      let blank := p.flash.cells.all fun kv => decide (kv.1 < blockBase b) || decide (blockBase (b + 1) ≤ kv.1)
      let p := if blank then p else p.act (.erase (blockBase b) blockSize)
      (p.act (.program (blockBase b) (blockHeader from_.2)), blockBase b + 16)
  else none

def FlashPlan.append (p : FlashPlan) (reserve : Bool) (r : JRecord) : Option FlashPlan :=
  match p.flash.appendPoint (recordSize r.data.length) with
  | some a => some (p.record r a)
  | none => (p.newBlock reserve).map fun q => q.1.record r q.2

/-- The oldest block's valid records go to the append point, the originals are superseded and the block is erased (R482). The copies
may stand in the reserve until the erase makes a new one. -/
def FlashPlan.compact (p : FlashPlan) : Option FlashPlan :=
  match p.flash.blocks with
  | b :: _ :: _ =>
    (((p.flash.walkBlock b.1).1.filter JRecord.valid).foldl (fun p r => match p with
      | some p => (p.append true r).map fun q => q.act (.mark r.addr 0xF8)
      | none => none) (some p)).map fun q => q.act (.erase (blockBase b.1) blockSize)
  | _ => none

/-- Append where the reserve stays untouched, compacting as long as that is needed. -/
def FlashPlan.appendRoom (r : JRecord) : Nat → FlashPlan → Option FlashPlan
  | 0, p => p.append false r
  | n + 1, p => match p.append false r with
    | some q => some q
    | none => match p.compact with
      | some q => FlashPlan.appendRoom r n q
      | none => none

/-- Append-mark records superseded. -/
def FlashPlan.supersede (p : FlashPlan) (rs : List JRecord) : FlashPlan := p.acts (rs.map fun r => .mark r.addr 0xF8)

/-- With fewer than 16 blocks free, the oldest is compacted. -/
def FlashPlan.keepRoom (p : FlashPlan) : FlashPlan := if 16 ≤ p.flash.freeBlocks then p else p.compact.getD p

/-- Write a record unless the governing one is identical, and supersede the earlier (R480, R483); none where the journal is full. -/
def FlashPlan.put (p : FlashPlan) (r : JRecord) : Option FlashPlan :=
  if ((p.flash.records r.same).getLast?.map (·.data)) = some r.data then some p
  else (p.appendRoom r 64).map fun q => (q.supersede (q.flash.records r.same).dropLast).keepRoom

/-! Boot records (R489). -/

def BootRec.data (b : BootRec) : List Nat := [b.slot0.code, b.slot1.code, b.count, b2n b.held]

/-- The boot record in force; before there is one, the part is as it was delivered (log 30). -/
def Flash.boot (f : Flash) : BootRec :=
  match (f.records fun r => decide (r.cls = 2)).getLast? with
  | some r => { slot0 := .ofCode (r.data.getD 0 0), slot1 := .ofCode (r.data.getD 1 0), count := r.data.getD 2 0, held := decide (r.data.getD 3 0 = 1) }
  | none => {}

def BootRec.slot (b : BootRec) (k : Nat) : ImageState := if k = 0 then b.slot0 else b.slot1

def BootRec.setSlot (b : BootRec) (k : Nat) (st : ImageState) : BootRec := if k = 0 then { b with slot0 := st } else { b with slot1 := st }

/-- The slot in a state. -/
def Flash.slotIn (f : Flash) (st : ImageState) : Option Nat :=
  if f.boot.slot0 = st then some 0 else if f.boot.slot1 = st then some 1 else none

def FlashPlan.putBoot (p : FlashPlan) (b : BootRec) : Option FlashPlan := p.put { cls := 2, key := 0, format := p.flash.format, data := b.data }

/-- A boot record that the start writes. -/
def Flash.setBoot (f : Flash) (b : BootRec) : Flash := match ({ flash := f } : FlashPlan).putBoot b with
  | some p => p.flash
  | none => f

/-- The running slot is TRIAL. -/
def Flash.runningTrial (f : Flash) : Option Nat := f.running.filter fun k => decide (f.boot.slot k = .trial)

/-! Images (R484, R485). -/

/-- Field of the header: `n` bytes from byte `k`, little-endian. -/
def imageField (img : List Nat) (k n : Nat) : Nat := bytesNum ((img.drop k).take n)

def imagePieces (img : List Nat) : Nat := imageField img 8 4

def imageFormat (img : List Nat) : Nat := imageField img 6 2

def imageKey (img : List Nat) : Nat := imageField img 16 4

/-- MAGIC, FORMAT, PIECES, KEY, CONFIG_FORMAT and the reserved bytes are as Table 16-4 states. -/
def imageHeaderOk (img : List Nat) : Bool :=
  decide (imageField img 0 4 = 0x59574631) && decide (imageField img 4 2 = 1) && decide (1 ≤ imageFormat img)
    && decide (2 ≤ imagePieces img) && decide (imagePieces img ≤ 2048) && decide (img.length = 4096 * imagePieces img)
    && decide (imageField img 12 4 = 0) && decide (imageKey img < 4) && decide (imageField img 88 104 = 0)

/-- Reason that the image does not verify (0x4330:7); 0: it verifies (R485). -/
def State.imageReason (s : State) (img : List Nat) : Nat :=
  if imageHeaderOk img = false then 1
  else if sha256 (img.drop 256) ≠ (img.drop 56).take 32 then 2
  else if bit s.flash.keys (imageKey img) = false
      ∨ Config.signatureValid (imageKey img) (sha256 (img.take 192)) ((img.drop 192).take 64) = false then 3
  else if bit s.flash.revoked (imageKey img) then 4
  else if bit (imageField img 20 4) s.variant.number = false then 5 else 0

def State.imageVerifies (s : State) (img : List Nat) : Bool := decide (s.imageReason img = 0)

/-- The image at an offset, as many pieces as its header says, at most 2,048. -/
def Flash.imageAt (f : Flash) (a : Nat) : List Nat := f.bytes a (4096 * min 2048 (imagePieces (f.bytes a 256)))

def Flash.slotImage (f : Flash) (k : Nat) : List Nat := f.imageAt (slotBase k)

/-! The transfer (R486 to R488). -/

/-- The transfer sector is blank: no transfer is held. -/
def Flash.noTransfer (f : Flash) : Bool := (f.bytes transferSector 2052).all fun b => decide (b = 255)

/-- The transfer ID held in flash; 0 where there is none. -/
def Flash.transferId (f : Flash) : Nat := if f.noTransfer then 0 else bytesNum (f.bytes transferSector 4)

def Flash.received (f : Flash) (n : Nat) : Bool := decide (f.byte (pieceMark n) = 0)

/-- Pieces of the image, once piece 0 is held. -/
def Flash.wanted (f : Flash) : Option Nat := if f.received 0 then some (imagePieces (f.bytes stagingBase 256)) else none

/-- Every piece from 0 to PIECES - 1 is received. -/
def Flash.complete (f : Flash) : Bool :=
  match f.wanted with
  | some n => (upTo (min 2048 n)).all f.received
  | none => false

/-- The bitmap of 256 bytes (0x4330:6). -/
def Flash.bitmap (f : Flash) : List Nat :=
  (upTo 256).map fun k => ((upTo 8).map fun b => if f.received (8 * k + b) then 2 ^ b else 0).sum

/-- Verify the staged image: STAGED, or REJECTED with its reason (R486 step 3). -/
def State.judgeStaged (s : State) : State :=
  let reason := s.imageReason (s.flash.imageAt stagingBase)
  { s with flash := { s.flash with transfer := if reason = 0 then .staged else .rejected, rejection := reason } }

/-! The queue, the operation in flight, and one that does not finish (R474, R478). -/

def FlashOp.isRead : FlashOp → Bool
  | .read _ => true
  | _ => false

def FlashOp.isHost : FlashOp → Bool
  | .read _ => true
  | .program _ _ => true
  | .erase _ => true
  | _ => false

/-- Why a piece is not taken (R486), none where it is. -/
def Flash.pieceRefused (f : Flash) (n : Nat) (bs : List Nat) : Option Abort :=
  if f.transfer = .empty then some .state
  else if 2048 ≤ n ∨ (f.wanted.any fun p => decide (p ≤ n)) = true then some .invalid
  else if f.received n = true ∧ f.bytes (pieceBase n) 4096 ≠ bs then some .state else none

/-- The device operations of an operation that begins, or the abort that it draws. -/
def Flash.plan (f : Flash) : FlashOp → Except Abort (List FlashStep)
  | .read a => .ok [.read (hostBase + a)]
  | .program a bs => .ok [.program (hostBase + a) bs]
  | .erase a => .ok [.erase (hostBase + a) 4096]
  | .store vs =>
    match vs.foldl (fun p v => match p with
        | some p => p.put { cls := 1, key := v.1, format := f.format, data := v.2 }
        | none => none) (some ({ flash := f } : FlashPlan)) with
    | some p => .ok p.steps
    | none => .error .journalFull
  | .restore => .ok ((f.records fun r => decide (r.cls = 1) && decide (r.format = f.format)).map fun r => .mark r.addr 0xF8)
  | .begin id => if f.slotIn .trial = none then .ok [.erase transferSector 4096, .program transferSector (numBytes 4 id)] else .error .state
  | .cancel => .ok [.erase transferSector 4096]
  | .piece n bs =>
    match f.pieceRefused n bs with
    | some a => .error a
    | none =>
      if f.received n then .ok [.scan]
      else .ok (.erase (pieceBase n) 4096 :: (pagePrograms 16 (pieceBase n) bs ++ [.program (pieceMark n) [0]]))
  | .judge => .ok [.scan]
  | .verify => if f.complete then .ok [.scan] else .error .imageIncomplete
  | .confirm =>
    match f.runningTrial with
    | none => .error .state
    | some k =>
      let b := match f.slotIn .confirmed with
        | some j => f.boot.setSlot j .previous
        | none => f.boot
      match ({ flash := f } : FlashPlan).putBoot (b.setSlot k .confirmed) with
      | some p => .ok (p.supersede (p.flash.records fun r => decide (r.cls = 1) && decide (r.format ≠ f.format))).steps
      | none => .error .journalFull
  | .revert =>
    match f.slotIn .trial with
    | none => .error .state
    | some k => match ({ flash := f } : FlashPlan).putBoot (f.boot.setSlot k .failed) with
      | some p => .ok p.steps
      | none => .error .journalFull
  | .hold => match ({ flash := f } : FlashPlan).putBoot { f.boot with count := 0, held := true } with
    | some p => .ok p.steps
    | none => .error .journalFull

/-- Device operations that an operation at its turn has still to make. -/
def Flash.stepsOf (f : Flash) (j : FlashJob) : Except Abort (List FlashStep) := match j.steps with
  | some xs => .ok xs
  | none => f.plan j.op

/-- Reads at the front of the queue, and what follows them. -/
def Flash.leadingReads (f : Flash) : List FlashJob := f.queue.takeWhile fun j => j.op.isRead

def Flash.afterReads (f : Flash) : List FlashJob := f.queue.dropWhile fun j => j.op.isRead

/-- The device operation that has begun and that a stop would tear: the first of the head, or the erase that is suspended. -/
def Flash.inFlight (f : Flash) : Option FlashStep :=
  match if f.suspended then f.afterReads.head? else f.queue.head? with
  | none => none
  | some j => match f.stepsOf j with
    | .ok xs => xs.head?
    | .error _ => none

/-- An erase is in flight, of the host or within another operation. -/
def Flash.erasing (f : Flash) : Bool :=
  match f.inFlight with
  | some (.erase _ _) => true
  | _ => false

def State.setFlashStatus (s : State) (st : Nat) : State := { s with flash := { s.flash with lastStatus := st } }

/-- Bytes whose contents an unfinished operation leaves undefined: free values (R478). -/
def State.flashUndefined (s : State) (a n : Nat) : State :=
  let k := s.freeCount
  { s with flash := s.flash.write a ((upTo n).map fun i => Config.freeNat (k + i) % 256), freeCount := k + n }

/-- The target of a device operation that does not finish, where it has begun. -/
def State.tearStep (s : State) (x : FlashStep) : State :=
  if s.flash.stepStatus x ≠ 0 then s
  else match x with
    | .program a bs => s.flashUndefined a bs.length
    | .mark a _ => s.flashUndefined a 1
    | .erase a n => s.flashUndefined a n
    | _ => s

/-- The queue is discarded: what does not finish reports ABANDONED. -/
def State.dropFlash (s : State) : State :=
  let s1 := { s with flash := { s.flash with queue := [], suspended := false } }
  if s.flash.queue = [] then s1 else s1.setFlashStatus 6

/-- The operation in flight is abandoned: its target is left undefined, and the queue is discarded. -/
def State.abandonFlash (s : State) : State :=
  (match s.flash.inFlight with
    | some x => s.tearStep x
    | none => s).dropFlash

/-- A page program is in flight: what may finish within the grace period (R432). -/
def State.programInFlight (s : State) : Bool :=
  match s.flash.inFlight with
  | some (.program _ _) => true
  | some (.mark _ _) => true
  | _ => false

end Sys2Proof.Machine
end

