-- ==== Sys2Proof/Machine/PowerOps.lean ====
section
/-! DEFINITION. The power sequencer, the start and the loss of power, the thermal model, recess, and standby (R417 to
R440, R513). -/

namespace Sys2Proof.Machine

/-! What a loss of power, and PORn, leave (R403, R406, R417, R436, R513). -/

/-- Objects that the standby domain holds (R417, R439). -/
def standbyKey (k : Nat) : Bool :=
  let i := k / 256
  let j := k % 256
  (decide (i = 0x4200) && (decide (j = 2) || decide (j = 3) || decide (j = 4) || decide (j = 9)))
    || (decide (0x4201 ≤ i) && decide (i ≤ 0x4208) && decide (1 ≤ j) && decide (j ≤ 9))

/-- Keys of rws objects. -/
def rwsKey (k : Nat) : Bool :=
  match findObj (k / 256) (k % 256) with
  | some o => decide (o.access = .rws)
  | none => false

/-- Guard rail detentions that follow a fuse field disagreement (R406). -/
def guardDetention (c : Nat × Nat) : Bool := decide (codeUnit c.2 = 0x02) && decide (codeCause c.2 = 2)

/-- The net follows the present levels of its inputs, and a fatal latch that is kept (R386). -/
def State.followInputs (s : State) : State :=
  let demands := ((upTo 9).map fun src => if bit s.hazard.levels src = s.demandsHigh src then 2 ^ src else 0).sum
  let sources := setBit demands 10 s.faults.fatal
  (upTo 4).foldl State.watchPair { s with hazard := { s.hazard with
      present := demands, sources, active := decide (sources ≠ 0)
      internalCause := if s.faults.fatal then s.faults.fatalCode else 0 } }

/-- Everything outside the standby domain is lost. `kept`: PORn, which keeps what only a power cycle clears
(R406, R427). A flash operation in flight is abandoned (R478). -/
def State.lose (s : State) (kept : Bool) : State :=
  let torn := decide (s.flash.queue ≠ [])
  let s := s.abandonFlash
  let keeps (k : Nat) : Bool := standbyKey k || (kept && s.sealed.on && rwsKey k)
  let chans := mapEach {} s.store.channels fun _ x => { x with lost := false, errors := [] }
  let base : State := {}
  let s1 : State :=
    { base with
      pending := s.pending
      out := s.out
      freeCount := s.freeCount
      variant := s.variant
      od := s.od.filter fun kv => keeps kv.1
      nmt := { base.nmt with booted := false, straps := s.nmt.straps }
      trace := { on := false }
      power := { s.power with rtc := s.rtcNow, rtcAt := 0, grace := false, supplies := [] }
      flash := {
        device := s.flash.device, capacity := s.flash.capacity, cells := s.flash.cells, keys := s.flash.keys, revoked := s.flash.revoked
        lastStatus := if torn then 6 else 0 }
      fuses := { s.fuses with targetIndex := 0, targetSub := 0, value := 0, result := 0, busy := none }
      straps := s.straps
      store := { base.store with channels := chans }
      hazard := { base.hazard with levels := s.hazard.levels }
      sealed := if kept then s.sealed else {}
      thermal := if kept then mapEach {} s.thermal fun _ x => { abandoned := x.abandoned } else []
      dies := if kept then { s.dies with moving := false, lead := s.presentDies.head?.getD s.dies.lead, mapChanges := 0 } else {}
      faults := if kept then { base.faults with
          fatal := s.faults.fatal, fatalCode := s.faults.fatalCode, fatalAt := s.faults.fatalAt, thermalFatal := s.faults.thermalFatal
          outsideLow := s.faults.outsideLow
          detained := s.faults.detained.filter guardDetention } else { outsideLow := s.faults.outsideLow } }
  s1.followInputs.senseFaultn

/-- The reset cause and the incomplete-panel record that a start reports (R425). `stamped`: the record did not come
through standby (Table 15-12). -/
def State.recover (s : State) (stamped : Bool) : State :=
  match s.newestRec with
  | none =>
    { s with
      power := { s.power with resetCause := 0, resetFault := 0, resetRtc := 0, startCodes := [codeOf 0x30 0 0 7] }
      record := {} }
  | some r =>
    let late := (upTo 8).filter (bit r.undischarged)
    let out := (upTo 8).filter (bit r.pgTimeout)
    let codes := late.map (fun k => codeOf 0x30 0 k 5) ++
      (if r.cause = 8 then (if out = [] then [0] else out).map fun k => codeOf 0x30 0 k 6 else [])
    let s := { s with power := { s.power with
      resetCause := r.cause, resetFault := r.fault, resetRtc := r.rtc, startCodes := codes } }
    { s with record := if r.incCause = 0 then {} else
      { cause := r.incCause, stamp := if stamped then r.stamp else 0, w := r.w, entries := r.stations } }

/-! Power-up (R418, R420). -/

/-- The sequencer begins a step, or has none left. -/
def State.beginStep (s : State) (k : Nat) : State := { s with power := { s.power with step := k } }

/-- The next used step after k. -/
def State.stepAfter (s : State) (k : Nat) : Option Nat := s.usedSteps.find? fun j => decide (k < j)

/-- A power-up begins; a wake has a record of its own (R423, R425). -/
def State.beginPowerUp (s : State) (wake : Bool) : State :=
  let s := s.recover false
  let s := { s with power := { s.power with seq := .powerUp, pgTimeouts := 0, undischarged := 0, cause := 0, wakeHeld := false } }
  let s := if wake then s.putRecord 8 0 id else s
  match s.usedSteps with
  | [] => { s with power := { s.power with seq := .on, stbyok := false } }
  | k :: _ => s.beginStep k

/-- VSTBY_APPLIED (R418). -/
def execVstbyApplied (s : State) : State :=
  if s.power.vstby then s
  else
    let s := { s with power := { s.power with vstby := true } }
    if s.cfg 0x4200 3 = 1 then s.beginPowerUp false else s

/-- VSTBY_LOSS (R417): the standby domain resets, and every SEQ_EN falls with it. -/
def execVstbyLoss (s : State) : State :=
  let s := s.lose false
  { s with
    od := s.od.filter fun kv => !standbyKey kv.1
    power := { vstby := false, seq := .standby, enables := 0 } }

/-- ON_DELAY_ELAPSED (R420, R437): SEQ_EN rises; STBYOK falls at the first. -/
def execOnDelayElapsed (r : Nat) (s : State) : State :=
  if s.power.seq = SeqState.powerUp ∧ (s.railsOf s.power.step).contains r then
    { s.standbyTime with power := { s.standbyTime.power with enables := setBit s.power.enables r true, stbyok := false } }
  else s

def State.setReadings (s : State) (rs : List Nat) : State := { s with power := { s.power with readings := rs } }

/-- The record fields [927:192] cleared (R425). -/
def clearedRec (r : PowerRec) : PowerRec :=
  { r with cause := 0, fault := 0, stamp := 0, w := 0, incCause := 0, stations := [] }

/-- POWER_UP_STEP_COMPLETE (R420): record, and the next step; after the last step the cores leave reset. -/
def execPowerUpStepComplete (readings : List Nat) (s : State) : State :=
  let s1 := s.setReadings readings
  let k := s.power.step
  if s.power.seq = SeqState.powerUp ∧ (s.railsOf k).all fun r => bit s.power.enables r && s1.inWindow r then
    let s1 := s1.standbyTime
    match s1.stepAfter k with
    | some j => (s1.putRecord 1 k id).beginStep j
    | none =>
      let s2 := s1.putRecord 1 k clearedRec
      { s2 with power := { s2.power with seq := .on } }
  else s1

/-! Shut-down (R421). -/

/-- The highest used step below k with a rail that is on. -/
def State.stepBelow (s : State) (k : Nat) : Option Nat :=
  (s.usedSteps.reverse).find? fun j => decide (j < k) && (s.railsOf j).any fun r => bit s.power.enables r

/-- Standby is entered (R423, R433, R437). -/
def State.enterStandby (s : State) : State :=
  let s := { s with power := { s.power with enables := 0, stbyok := true } }
  let s := (s.putRecord 7 0 id).lose false
  let s := { s with power := { s.power with seq := .standby, cooling := decide (s.power.cause = 5) || decide (s.power.cause = 6) } }
  if s.power.wakeHeld then
    if s.power.cooling then { s with power := { s.power with wakeHeld := false } } else s.beginPowerUp true
  else s

/-- Every SEQ_EN of the next lower step falls, or standby is entered. -/
def State.stepDown (s : State) (k : Nat) : State :=
  match s.stepBelow k with
  | none => s.enterStandby
  | some j =>
    { s with power := { s.power with
      step := j, enables := (s.railsOf j).foldl (fun e r => setBit e r false) s.power.enables } }

/-- A shut-down begins. The one that aborts a power-up belongs to its run: PG_TIMEOUT stands. -/
def State.beginShutdown (s : State) (cause : Nat) : State :=
  let pg := if s.power.seq = .powerUp then s.power.pgTimeouts else 0
  let s := { s with power := { s.power with seq := .shutDown, cause, pgTimeouts := pg, undischarged := 0, grace := false } }
  s.stepDown 8

/-- PG_TIMEOUT (R420). -/
def execPgTimeout (r : Nat) (readings : List Nat) (s : State) : State :=
  let s1 := s.setReadings readings
  if s.power.seq = SeqState.powerUp ∧ (s.railsOf s.power.step).contains r ∧ s1.inWindow r = false then
    let s1 := s1.standbyTime
    let s1 := { s1 with power := { s1.power with pgTimeouts := setBit s1.power.pgTimeouts r true } }
    (s1.putRecord 2 s1.power.step fun x => { x with cause := 8 }).beginShutdown 8
  else s1

/-- Rail r has discharged, or its timeout has passed. -/
def State.railDown (s : State) (r : Nat) : Bool :=
  decide (s.railReading r ≤ s.cfg (0x4201 + r) 7) || bit s.power.undischarged r

/-- SHUTDOWN_STEP_COMPLETE (R421). -/
def execShutdownStepComplete (readings : List Nat) (s : State) : State :=
  let s1 := s.setReadings readings
  let k := s.power.step
  if s.power.seq = SeqState.shutDown ∧ (s.railsOf k).all s1.railDown then
    ((s1.standbyTime).putRecord 3 k id).stepDown k
  else s1

/-- DISCHARGE_TIMEOUT (R421): the shut-down moves on regardless. -/
def execDischargeTimeout (r : Nat) (readings : List Nat) (s : State) : State :=
  let s1 := s.setReadings readings
  let k := s.power.step
  if s.power.seq = SeqState.shutDown ∧ (s.railsOf k).contains r ∧ s1.railDown r = false then
    let s1 := s1.standbyTime
    let s1 := { s1 with power := { s1.power with undischarged := setBit s1.power.undischarged r true } }
    (s1.putRecord 4 k id).stepDown k
  else s1

/-! Departures (R422, R426). -/

/-- VDD itself (rail 0, Table 14-1) has fallen below its window, so die 0 may lose it before the record is written (R424): whether it does
is a free value (log 28). -/
def State.recordTorn (s : State) (r : Nat) : Bool × State :=
  if r = 0 ∧ s.railReading 0 < s.cfg 0x4201 5 then
    let (n, s) := s.freeNat
    (decide (n % 2 = 1), s)
  else (false, s)

/-- A fatal departure: outputs dark, panels INCOMPLETE, record, shut-down (R426). -/
def State.powerLost (s : State) (r cause recCause : Nat) : State :=
  let inc := decide (s.slotsWhere SlotState.isCommitted ≠ [])
  let code := codeOf 0x30 0 r cause
  let s := s.raise 0x30 0 r cause
  let (torn, s) := s.recordTorn r
  let s := if torn then s.tearRecord else s.putRecord 5 r fun x =>
    let x := { x with cause := recCause, fault := code, stamp := s.timebase, w := s.w }
    if inc then { x with incCause := 1, stations := s.record.entries } else x
  s.abandonFlash.beginShutdown recCause

/-- A memory rail leaves its window: the channels that its role feeds are lost (R103, R422). -/
def State.memoryRailLost (s : State) (r role : Nat) : State :=
  let t := (s.raise 0x30 0 r 3).putRecord 5 r id
  match role with
  | 2 => t.loseChannel 0
  | 3 => t.loseChannel 1
  | 4 => (t.loseChannel 0).loseChannel 1
  | _ => t

/-- RAIL_DEPARTURE (R422): the reading has stayed outside the window for the qualification time. -/
def execRailDeparture (r : Nat) (readings : List Nat) (s : State) : State :=
  let s1 := s.setReadings readings
  let role := s.railRole r
  if s.power.seq ≠ .on ∨ 8 ≤ r ∨ role = 0 ∨ s1.inWindow r then s1
  else
    match role with
    | 1 => s1.powerLost r 2 4
    | 6 => s1.powerLost r 1 3
    | 2 => s1.memoryRailLost r role
    | 3 => s1.memoryRailLost r role
    | 4 => s1.memoryRailLost r role
    | _ => (s1.raise 0x30 0 r 4).putRecord 5 r id

/-! Junction temperature (R427 to R433). -/

/-- Model parameter k: r1, r2, r3, tau1, tau2, tau3 (0x4220:8). -/
def State.modelParam (s : State) (k : Nat) : Rat :=
  let bs := s.domain 0x4220 8
  if bs = [] then [(1 : Rat) / 5, 9 / 20, 11 / 10, 1 / 200, 1 / 2, 30].getD k 0
  else realOr0 (leNat (((bs.drop (4 * k)).take 4).map fun b => BitVec.ofNat 8 b))

/-- Event 0x0302 and the settings of a new band (R429). -/
def State.toBand (s : State) (d k : Nat) : State :=
  if (s.heat d).band = k then s
  else
    let s := s.modHeat d fun x => { x with band := k }
    ((upTo 4).foldl (fun s c => s.adoptBand (4 * d + c)) s).postEvent d 0x0302 d k

/-- Lower edge of a band. -/
def bandEdge (k : Nat) : Rat := 10 * (k : Rat) - 40

/-- The band of a temperature, from the band before (R429). -/
def bandFrom (k : Nat) (tj : Rat) : Nat :=
  let raw := min 16 (ratFloor ((tj + 40) / 10)).toNat
  if k < raw then raw
  else ((upTo 17).reverse.find? fun j => decide (j ≤ k) && (decide (j = 0) || decide (bandEdge j - 2 < tj))).getD 0

/-- Throttle level after the level before (R430). -/
def levelFrom (l : Nat) (tj thr : Rat) : Nat :=
  let raw := if tj < thr then 0 else min 3 ((ratFloor ((tj - thr) / 2)).toNat + 1)
  if l < raw then raw
  else ((upTo 4).reverse.find? fun j => decide (j ≤ l) && (decide (j = 0) || decide (thr + 2 * ((j : Rat) - 1) - 2 < tj))).getD 0

/-- The level changes, one event for each change (R430). -/
def State.toLevel (s : State) (d l : Nat) : State :=
  let old := (s.heat d).level
  let steps := if old < l then [l] else (upTo (old - l)).map fun k => old - 1 - k
  steps.foldl (fun s j => (s.modHeat d fun x => { x with level := j }).postEvent d 0x0301 d j) s

/-- A thermal shut-down: its record carries the thermal fault that caused it (R403, R432). -/
def State.thermalShutdown (s : State) (cause : Nat) : State :=
  if s.power.seq = .on then
    (s.putRecord 6 0 fun x => { x with cause, fault := s.faults.trip, stamp := s.faults.tripAt, w := s.w }).beginShutdown cause
  else s

/-- The thermal fault that the record of a thermal shut-down carries (R403). -/
def State.noteTrip (s : State) (code : Nat) : State :=
  { s with faults := { s.faults with trip := code, tripAt := s.timebase } }

/-- T_j has reached the shut-down temperature (R432): a page program in flight has its grace period. -/
def State.shutdownHeat (s : State) (d : Nat) : State :=
  let s := ((s.modHeat d fun x => { x with shutRaised := true }).raise 0x31 d d 4).noteTrip (codeOf 0x31 d d 4)
  if s.programInFlight then
    { s with flash := { s.flash with queue := s.flash.queue.take 1 }, power := { s.power with grace := true } }
  else s.abandonFlash.thermalShutdown 5

/-- T_j has reached the shut-down temperature plus 10 degrees (R432). -/
def State.absoluteTrip (s : State) (d : Nat) : State :=
  (((s.modHeat d fun x => { x with absRaised := true }).raise 0x31 d d 6).noteTrip (codeOf 0x31 d d 6)).abandonFlash.thermalShutdown 6

/-- Timers of the speed request (R431). -/
def State.heatTimers (s : State) (d : Nat) : State :=
  s.modHeat d fun x =>
    let hot := decide (s.cfgReal 0x4220 3 ≤ x.tj)
    let cool := decide (x.tj < s.cfgReal 0x4220 1 - 5)
    { x with
      hotSince := if hot then some (x.hotSince.getD s.timebase) else none
      request := x.request && hot
      coolSince := if cool then some (x.coolSince.getD s.timebase) else none }

/-- Judge the junction temperature of die d. -/
def State.judgeHeat (s : State) (d : Nat) : State :=
  let x := s.heat d
  let s := s.toBand d (bandFrom x.band x.tj)
  let s := s.toLevel d (levelFrom x.level x.tj (s.cfgReal 0x4220 1))
  let s := s.heatTimers d
  let s := if s.cfgReal 0x4220 2 ≤ x.tj ∧ x.shutRaised = false then s.shutdownHeat d else s
  if s.cfgReal 0x4220 2 + 10 ≤ x.tj ∧ x.absRaised = false ∧ s.power.seq = SeqState.on then s.absoluteTrip d else s

/-- One millisecond of the model (R427). -/
def thermalStep (x : Thermal) (p : Rat) (r tau : Nat → Rat) : Thermal :=
  let go (t : Rat) (k : Nat) : Rat := if tau k = 0 then r k * p else t + (r k * p - t) * (1 / 1000 / tau k)
  let x := { x with theta1 := go x.theta1 0, theta2 := go x.theta2 1, theta3 := go x.theta3 2, power := p }
  match x.bias with
  | none => x
  | some b => if x.abandoned then x else { x with tj := b + x.theta1 + x.theta2 + x.theta3 }

/-- THERMAL_MODEL_TICK (R427): `power` is the mean rail power over the millisecond, a REAL32 image in W. The model runs
from the first diode reading on. -/
def execThermalModelTick (die power : Nat) (s : State) : State :=
  if s.present die = false ∨ (s.heat die).bias = none then s
  else
    let s := s.modHeat die fun x => thermalStep x (realOr0 power) s.modelParam fun k => s.modelParam (k + 3)
    s.judgeHeat die

/-- FLASH_GRACE_EXPIRY (R432). -/
def execFlashGraceExpiry (s : State) : State :=
  if s.power.grace then s.abandonFlash.thermalShutdown 5 else s

/-- SPEED_REQUEST_TIMER (R431). -/
def execSpeedRequestTimer (die : Nat) (s : State) : State :=
  match (s.heat die).hotSince with
  | none => s
  | some t =>
    if s.present die = false then s
    else (s.advanceTo (t + ticksPerS)).modHeat die fun x => { x with request := true }

/-- COOL_DOWN_ELAPSED (R433). -/
def execCoolDownElapsed (s : State) : State := { s.standbyTime with power := { s.standbyTime.power with cooling := false } }

/-! The housekeeping round (R428). -/

/-- Readings of the four diodes of die d in °C. -/
def diodesOf (diodes : List Nat) (d : Nat) : List Rat := (upTo 4).map fun k => realOr0 (diodes.getD (4 * d + k) 0)

def diodeValid (t : Rat) : Bool := decide (-55 ≤ t) && decide (t ≤ 150)

/-- What a round's diode reading does to the bias (R427), and whether the model was re-based or is abandoned. -/
def biasRound (x : Thermal) (diode : Rat) : Thermal × Bool × Bool :=
  match x.bias with
  | none => ({ x with bias := some diode, diode, tj := if x.abandoned then diode + 5 else diode + x.theta1 + x.theta2 + x.theta3 }, false, false)
  | some b =>
    if x.abandoned then ({ x with diode, tj := diode + 5 }, false, false)
    else
      let d := diode - x.tj
      let big := decide (8 < ratAbs d)
      let far := decide (15 < ratAbs d)
      let gone := far && x.far
      ({ x with bias := some (b + if big then d else d / 8), diode, far, abandoned := gone, tj := if gone then diode + 5 else x.tj }, big, gone)

/-- The junction model of a die in a round (R427, R428): every diode excluded, or the highest valid one. -/
def State.judgeDiodes (s : State) (diodes : List Nat) (d : Nat) : State :=
  let ts := diodesOf diodes d
  let bad := (upTo 4).filter fun k => !diodeValid (ts.getD k 0)
  let old := (s.heat d).excluded
  let s := (bad.filter fun k => !bit old k).foldl (fun s k => s.raise 0x31 d (4 * d + k) 3) s
  let s := s.modHeat d fun x => { x with excluded := (bad.map (2 ^ ·)).sum }
  if bad.length = 4 then (if old = 15 then s else s.raise 0x31 d d 5)
  else
    let good := ts.filter diodeValid
    let top := (good.drop 1).foldl max (good.headD 0)
    let (x, big, gone) := biasRound (s.heat d) top
    let s := s.modHeat d fun _ => x
    let s := if big then s.raise 0x31 d d 1 else s
    let s := if gone then s.raise 0x31 d d 2 else s
    s.judgeHeat d

/-- The diodes of one die, and the TDC calibration table of its band (R428, R429, Table 14-5). -/
def State.readDiodes (s : State) (diodes : List Nat) (d : Nat) : State := (s.judgeDiodes diodes d).fillTdcTable d

/-- The copy of die d has slipped: by how many ticks beyond one is not known. -/
def State.slip (s : State) (d : Nat) : State :=
  let (n, s) := s.freeNat
  s.modClock d fun c => { c with skew := if n % 2 = 0 then 2 + (n / 2 : Nat) else -(2 + (n / 2 : Nat) : Int) }

/-- What a round reads of the copies: the dies of the mask differ from the lead die's copy. Where every other die differs on a part of
three dies or more it is the lead die's copy that has slipped. -/
def State.readCopies (s : State) (clockBad : Nat) : State :=
  let others := s.presentDies.filter fun d => decide (d ≠ s.dies.lead)
  let bad := others.filter fun d => bit clockBad d
  if bad ≠ [] ∧ bad.length = others.length ∧ 3 ≤ s.presentDies.length then s.slip s.dies.lead else bad.foldl State.slip s

/-- The copy of die d differs from the lead die's by more than 1 tick (R345). -/
def State.copyDiffers (s : State) (d : Nat) : Bool := decide (1 < (s.timebaseOf d - s.timebaseOf s.dies.lead).natAbs)

/-- Copies of the timebase that differ from the lead die's (R345); with the lead die's differing from every other on a
part of three dies or more, the lead die is fenced (R408). -/
def State.compareTimebases (s : State) : State :=
  let others := s.presentDies.filter fun d => decide (d ≠ s.dies.lead)
  let bad := others.filter s.copyDiffers
  if bad ≠ [] ∧ bad.length = others.length ∧ 3 ≤ s.presentDies.length then s.raise 0x28 s.dies.lead 0 5
  else bad.foldl (fun s d => s.raise 0x28 d 0 5) s

/-! Recess (R434, R435). -/

/-- Every healthy pair is in recess. -/
def State.allInRecess (s : State) : Bool := s.presentDies.all fun d => (s.heat d).recess

/-- RECESS_ENTRY (R434). -/
def execRecessEntry (die : Nat) (s : State) : State :=
  if s.present die = false ∨ (s.heat die).recess then s
  else
    let s := s.modHeat die fun x => { x with recess := true, recesses := wrapInc 32 x.recesses }
    if s.allInRecess ∧ s.trace.paused = false then
      let s := s.traceMarker 1 0
      { s with trace := { s.trace with paused := true } }
    else s

/-- RECESS_EXIT (R434, R435). -/
def execRecessExit (die : Nat) (s : State) : State := s.leaveRecess die

/-! Standby and wake (R436, R437). -/

/-- The last n words of the trace. -/
def State.traceLast (s : State) (n : Nat) : List Nat :=
  let k := min n s.trace.held
  let ws := (upTo k).map fun i => mapGet 0 s.trace.buf ((s.trace.written + 2 ^ 32 - k + i) % traceSize)
  let all := ws ++ s.trace.staged
  all.drop (all.length - n)

def opStandby (v : Nat) (s : State) : Except Abort State := do
  need (decide (v = 1)) .invalid
  need ((decide (s.tt.state = .idle) || decide (s.tt.state = .stopped)) && decide (s.flash.queue = []) && decide (s.power.seq = .on)) .state
  let s := s.traceMarker 3 0
  let s := { s with power := { s.power with tail := s.traceLast 64 } }
  let cause := if s.faults.fatal then 7 else 2
  let s := s.putRecord 7 0 fun x =>
    if s.faults.fatal then { x with cause, fault := s.faults.fatalCode, stamp := s.faults.fatalAt } else { x with cause }
  .ok (s.beginShutdown cause)

/-- STANDBY (R436). -/
def execStandby (v : Nat) (s : State) : State := command 0x4200 (opStandby v) s

/-- A wake: in standby it starts a power-up; in a shut-down it is held (R433, R437). -/
def State.wake (s : State) : State :=
  if s.power.vstby = false ∨ s.power.cooling then s
  else match s.power.seq with
    | .standby => s.beginPowerUp true
    | .shutDown => { s with power := { s.power with wakeHeld := true } }
    | _ => s

/-- WAKE_EDGE (R437). -/
def execWakeEdge (falling : Bool) (s : State) : State :=
  let w := s.cfg 0x4200 2
  if bit w 0 ∧ bit w 1 = falling then s.standbyTime.wake else s

/-- RTC_ALARM (R437): the counter stands at the alarm. -/
def execRtcAlarm (s : State) : State :=
  if bit (s.cfg 0x4200 2) 2 then
    ({ s with power := { s.power with rtc := s.cfg 0x4200 4 % 2 ^ 48, rtcAt := s.timebase } }).wake
  else s

end Sys2Proof.Machine
end

