-- ==== Sys2Proof/Machine/Checkers.lean ====
section
/-! DEFINITION. Faults that a checker reports, with the reaction of their cause table, check-bit inversion, and the
housekeeping round (R345, R392, R401, R411, R412, R428). -/

namespace Sys2Proof.Machine

/-! Checkers. -/

/-- Pairs that can be injected (0x4109): the causes of checkers that the chapters name as taking part. -/
def injectable : List (Nat × Nat) :=
  ([(0x01, [2, 3, 4]), (0x02, [1, 2, 3, 4]), (0x03, [1, 2, 3, 4]), (0x04, [1]), (0x05, [2]), (0x08, [1, 2]), (0x0A, [1]), (0x0B, [1]),
    (0x10, [1, 2, 3, 4, 5, 6, 7, 8, 9, 10, 11]), (0x11, [3, 4, 7]), (0x12, [1, 3, 4, 9]), (0x18, [1, 3, 6]), (0x19, [3]),
    (0x20, [3]), (0x21, [1]), (0x22, [1, 3, 4, 5]), (0x23, [1, 2, 4]), (0x28, [1, 2, 3, 4, 5]), (0x29, [2]),
    (0x30, [1, 2, 3, 4, 7]), (0x31, [1, 2]), (0x32, [1, 2, 4]), (0x33, [6]), (0x34, [2])] : List (Nat × List Nat)).flatMap fun u =>
      u.2.map fun c => (u.1, c)

/-- Guard rail cause 1: the bounded unit enters detention (Table 13-6, R393). The
local unit is a unit's number on its die, and for trim and duty, whose seven bits are all used, a lane (DEDUCED, log 26). -/
def State.guardRail (s : State) (die inst code : Nat) : State :=
  let k := inst % 128
  match inst / 128 with
  | 0 => s.detainLane (128 * die + k) code
  | 1 => s.detainLane (128 * die + k) code
  | 2 => s.detainHv (8 * die + k % 8) code
  | 3 => s.detainHv (8 * die + k % 8) code
  | 4 => s.detainZone (4 * die + k % 4) code
  | 5 => s.detainZone (4 * die + k % 4) code
  | 6 => s.detainAxis ((dieAxes die).getD (k % 8) 0) code false
  | _ => s

/-- The rest of the line in emission is dark at these beams, and its panel is flagged BEAM_DARK. -/
def State.darkLine (s : State) (g mask : Nat) : State :=
  match (s.scanner g).line with
  | none => s
  | some l => (s.darkenLine g mask).flagSlot l.slot 0

/-- A lane fault with the reaction of Table 5-19: a program fault, a sweep that goes dark, or what its class asks. -/
def State.laneFault (s : State) (l cause : Nat) : State :=
  let g := laneScanner l
  let dark := if (s.lane l).active then s.flagSlot (s.lane l).slot 0 else s.darkLine g (2 ^ (l % 32))
  match cause with
  | 2 => s.programFault l 2
  | 3 => s.programFault l 3
  | 4 => s.programFault l 4
  | 5 => (dark.modLane l fun x => { x with active := false }).raiseLane l 5
  | 8 => dark.raiseLane l 8
  | _ => s.raiseLane l cause

/-- A pulse link fault with the reaction of Table 8-13. -/
def State.linkFault (s : State) (g cause : Nat) : State :=
  match cause with
  | 2 => s.leaveRun g 2
  | 8 => s.leaveRun g 8
  | 3 => (((s.modLink g fun k => { k with dwellTrip := true, dwellTrips := wrapInc 32 k.dwellTrips }).raiseLink g 3).abortLine g).relaser g
  | 4 => ((s.modLink g fun k => { k with bdTrip := true, bdTripAt := s.timebase, bdTrips := wrapInc 32 k.bdTrips }).raiseLink g 4).relaser g
  | 5 => ((s.modLink g fun k => { k with powerTrip := true, powerTrips := wrapInc 32 k.powerTrips }).raiseLink g 5).relaser g
  | 6 => (s.raiseLink g 6).beamFailed g 0
  | 1 => (s.darkLine g (2 ^ 32 - 1)).raiseLink g 1
  | _ => s.raiseLink g cause

/-- CAN cause 6: the controller is reset (Table 15-16). -/
def State.resetController (s : State) (c : Nat) : State :=
  let s := if c = 0 then { s with can := { s.can with ctrl0 := .active } } else { s with can := { s.can with ctrl1 := .active } }
  s.endUsdo [c]

/-- Trace cause 2: detention, tracing off (Table 15-16). -/
def State.detainTrace (s : State) (code : Nat) : State :=
  let s := s.detainUnit 0x34 0 0 code
  { s with trace := { s.trace with on := false, detained := true } }

/-- Unit types of the interface island, which stays in service after die 0 is fenced (R410). -/
def islandUnits : List Nat := [0x01, 0x05, 0x28, 0x29, 0x30, 0x31, 0x32, 0x33, 0x34]

/-- Die of the instance that a fault code of this unit type carries, where its number tells the die. -/
def instanceDie (unit die inst : Nat) : Nat :=
  match unit with
  | 0x08 => inst
  | 0x09 => inst
  | 0x18 => chanDie inst
  | 0x19 => axisDie inst
  | 0x1A => inst / 8
  | 0x21 => inst
  | _ => die

/-- The unit that a fault code names is present (R4, R410, R411). Values that name no unit type name no unit. -/
def State.targetPresent (s : State) (code : Nat) : Bool :=
  let unit := codeUnit code
  let die := codeDie code
  let inst := codeInst code
  if (knownCauses.any fun u => decide (u.1 = unit)) = false then true
  else
    (s.present die || (decide (die = 0) && (islandUnits.contains unit || (decide (unit = 0x04) && decide (codeCause code = 3)))))
      && decide (instanceDie unit die inst = die)
      && (decide (unit ≠ 0x08 ∧ unit ≠ 0x09) || s.channelPresent inst)
      && (decide (unit ≠ 0x0A ∧ unit ≠ 0x0B) || s.variant.codec)
      && (decide (unit ≠ 0x11 ∧ unit ≠ 0x12) || decide (inst < 4))
      && (decide (unit ≠ 0x10) || decide (inst < 128))
      && (decide (unit ≠ 0x20) || decide (inst < 64)) && (decide (unit ≠ 0x22) || decide (inst < 8))
      && (decide (unit ≠ 0x23) || decide (inst < 4))
      && (decide (unit ≠ 0x29) || (decide (die = 0) && decide (inst ≤ (if codeCause code ≤ 2 then 1 else 0))))

/-- A power sequencer fault with the reaction of Table 14-9: rail r leaves its window, or the input power fails. -/
def State.railFault (s : State) (r cause : Nat) : State :=
  if s.power.seq ≠ .on then s.raise 0x30 0 r cause
  else match cause with
    | 1 => s.powerLost r 1 3
    | 2 => s.powerLost r 2 4
    | 3 => s.memoryRailLost r (s.railRole r)
    | 4 => (s.raise 0x30 0 r 4).putRecord 5 r id
    | 7 => { (s.raise 0x30 0 r 7) with power := { (s.raise 0x30 0 r 7).power with resetCause := 0 } }
    | _ => s.raise 0x30 0 r cause

/-- The model of a die re-based on its last diode reading (R427, thermal cause 1): the whole difference goes into the bias. -/
def Thermal.rebase (x : Thermal) : Thermal :=
  match x.bias with
  | none => x
  | some b => if x.abandoned then x else { x with bias := some (b + (x.diode - x.tj)), tj := x.diode }

/-- A thermal fault with the reaction of Table 14-9. -/
def State.heatFault (s : State) (d inst cause : Nat) : State :=
  match cause with
  | 1 => ((s.raise 0x31 d inst 1).modHeat d Thermal.rebase).judgeHeat d
  | 2 => ((s.raise 0x31 d inst 2).modHeat d fun x => { x with abandoned := true, tj := x.diode + 5 }).judgeHeat d
  | 3 => (s.raise 0x31 d inst 3).modHeat d fun x => { x with excluded := setBit x.excluded (inst % 4) true }
  | 4 => s.shutdownHeat d
  | 6 => s.absoluteTrip d
  | _ => s.raise 0x31 d inst cause

/-- A fault that a checker reports, with the reaction that its cause table assigns. A code of an absent unit has no
checker. -/
def State.raiseCode (s : State) (code : Nat) : State :=
  let unit := codeUnit code
  let die := codeDie code
  let inst := codeInst code
  let cause := codeCause code
  if knownCause unit cause = false ∨ s.targetPresent code = false then s
  else match unit, cause with
    | 0x01, 1 => ((s.modPair (inst / 2 % 4) fun p => { p with blocked := true }).raise unit die inst cause).netForPair (inst / 2 % 4)
    | 0x02, 1 => (s.noteFault unit die inst cause).guardRail die inst (codeOf unit die inst cause)
    | 0x05, 1 => ({ s with inject := { s.inject with status := if s.inject.status = 1 then 3 else s.inject.status } }).raise unit die inst 1
    | 0x08, 1 => ({ s with store := { s.store with corrected := wrapInc 32 s.store.corrected } }).raise unit die inst 1
    | 0x08, 2 => s.memoryError inst
    | 0x08, _ => s.loseChannel inst
    | 0x09, _ => s.shortPort inst
    | 0x0A, 1 => s.mismatch die
    | 0x0A, _ => s.holdCompressor die
    | 0x10, _ => s.laneFault (128 * die + inst) cause
    | 0x11, _ => s.raiseScan (4 * die + inst) cause
    | 0x12, _ => s.linkFault (4 * die + inst) cause
    | 0x18, 6 => (s.raise unit die inst 6).modChan inst fun x => { x with lastCause := 6 }
    | 0x18, _ => s.channelError inst cause
    | 0x19, 7 => (s.noteFault unit die inst 7).hazardNet 10 (codeOf unit die inst 7)
    | 0x19, _ => s.raiseAxis inst cause
    | 0x20, _ => s.raiseSlot (64 * die + inst % 64) cause
    | 0x21, _ => (s.noteFault unit die inst cause).loseConverter inst false (codeOf unit die inst cause)
    | 0x22, _ => s.raiseHv (8 * die + inst % 8) cause
    | 0x23, _ => s.raiseZone (4 * die + inst % 4) cause
    | 0x28, 2 => s.losePll die 0
    | 0x28, 3 => s.losePll die 2
    | 0x28, 4 => s.losePll die 6
    | 0x29, 1 => execPortDown (inst % 2) s
    | 0x29, 2 => ({ s with haling := { s.haling with discarded := wrapInc 32 s.haling.discarded } }).raise 0x29 0 inst 2
    | 0x30, _ => s.railFault (inst % 8) cause
    | 0x31, _ => s.heatFault die inst cause
    | 0x33, 6 => (s.raise unit 0 (inst % 2) 6).resetController (inst % 2)
    | 0x34, 2 => (s.raise unit 0 0 2).detainTrace (codeOf unit 0 0 2)
    | _, _ => s.raise unit die inst cause

/-- FAULT_COLLECT (R401): faults that a checker without a row of its own reports are raised, and all faults on their way
are collected. -/
def execFaultCollect (codes : List Nat) (s : State) : State := (codes.foldl State.raiseCode s).collectAll 2

/-! Check-bit inversion (R411, R412). -/

def opInjectionArm (s : State) : Except Abort State := do
  let t := s.cfg 0x4108 1
  need (injectable.contains (codeUnit t, codeCause t)) .invalid
  need (s.targetPresent t) .noSuchUnit
  need (decide (s.inject.status ≠ 1) && (decide (s.nmt.state ≠ .operational) || s.ttIdle)) .state
  .ok { s with inject := { s.inject with status := 1, target := t } }

/-- INJECTION_ARM (R411). -/
def execInjectionArm (s : State) : State := command 0x4108 opInjectionArm s

def opInjectionCancel (s : State) : Except Abort State :=
  .ok (if s.inject.status = 1 then { s with inject := { s.inject with status := 0 } } else s)

/-- INJECTION_CANCEL (R411). -/
def execInjectionCancel (s : State) : State := command 0x4108 opInjectionCancel s

/-- The newest faults on their way are marked INJECTED. -/
def State.markInjected (s : State) (before : Nat) : State :=
  { s with faults := { s.faults with inbox := s.faults.inbox.take before ++
      ((s.faults.inbox.drop before).take 1).map (fun n => { n with injected := true }) ++ s.faults.inbox.drop (before + 1) } }

/-- The armed check (R412): the fault takes its full reaction. The time to its detection is open. -/
def State.injectionCheck (s : State) : State :=
  if s.inject.status = 1 then
    let (t, s) := s.freeNat
    let n := s.faults.inbox.length
    let code := s.inject.target
    let s := { s with inject := { s.inject with status := 2, time := t % 2 ^ 32 } }
    (s.raiseCode code).markInjected n
  else s

/-- HOUSEKEEPING_ROUND (R428, R434): `diodes` are 32 REAL32 images in °C; `readings` channels 32 to 63 of Table 14-4, those of PG0 to PG7
first; `tdcBad` names scanners whose TDC check still fails
after recalibration (R199), `clockBad` dies whose timebase copy differs (R345), `nodeBad` dies with a hazard node that
cannot assert (R392). -/
def execHousekeepingRound (diodes readings : List Nat) (tdcBad clockBad nodeBad : Nat) (s : State) : State :=
  let s := s.presentDies.foldl State.leaveRecess s
  let s := s.setReadings (readings.take 8)
  let s := { s with power := { s.power with supplies := readings.drop 8 } }
  let s := s.presentDies.foldl (fun s d => s.readDiodes diodes d) s
  let s := (upTo 32).foldl (fun s g => if bit tdcBad g && s.scannerPresent g then s.raiseScan g 7 else s) s
  let s := (s.readCopies clockBad).compareTimebases
  let s := (upTo 8).foldl (fun s d => if bit nodeBad d && s.fitted d then s.raise 0x01 d 0 2 else s) s
  s.injectionCheck

end Sys2Proof.Machine
end

