-- ==== Sys2Proof/Machine/FlashCmds.lean ====
section
/-! DEFINITION. The commands of the flash: host area, restore, the transfer of an image, and the firmware commands (R477 to R491). A
command that the manager queues takes effect as its device operations complete. STORE is in OdRead.lean. -/

namespace Sys2Proof.Machine

/-- The manager takes an operation (R472, R478). -/
def State.flashTakes (s : State) : Bool := s.flashUsable && !s.flashHalted

/-- Queue an operation in order of arrival; a host read suspends an erase in flight (R474). -/
def State.queueFlash (s : State) (op : FlashOp) : State :=
  let j : FlashJob := { op, asker := s.flash.asker }
  let f := s.flash
  if op.isRead ∧ f.erasing then
    { s with flash := { f with queue := f.leadingReads ++ j :: f.afterReads, suspended := true } }
  else { s with flash := { f with queue := f.queue ++ [j] } }

def opFlash (op : State → FlashOp) (s : State) : Except Abort State := do
  need s.flashTakes .state
  .ok (s.queueFlash (op s))

/-- HOST_AREA_READ (R477). -/
def opHostAreaRead (s : State) : Except Abort State := opFlash (fun s => .read (s.cfg 0x4300 4)) s

def execHostAreaRead (s : State) : State := command 0x4300 opHostAreaRead s

/-- HOST_AREA_PROGRAM (R475, R477): the bytes of 0x4300:6. -/
def opHostAreaProgram (s : State) : Except Abort State :=
  opFlash (fun s => .program (s.cfg 0x4300 4) (s.domain 0x4300 6)) s

def execHostAreaProgram (s : State) : State := command 0x4300 opHostAreaProgram s

/-- HOST_AREA_ERASE (R477). -/
def opHostAreaErase (s : State) : Except Abort State := opFlash (fun s => .erase (s.cfg 0x4300 4)) s

def execHostAreaErase (s : State) : State := command 0x4300 opHostAreaErase s

/-- RESTORE_DEFAULTS (R483). -/
def opRestoreDefaults (v : Nat) (s : State) : Except Abort State := do
  need (decide (v = 1)) .invalid
  opFlash (fun _ => .restore) s

def execRestoreDefaults (v : Nat) (s : State) : State := command 0x4310 (opRestoreDefaults v) s

/-- TRANSFER_BEGIN (R486, R488). -/
def opTransferBegin (s : State) : Except Abort State := do
  need (decide (s.flash.slotIn .trial = none)) .state
  opFlash (fun s => .begin (s.cfg 0x4330 2)) s

def execTransferBegin (s : State) : State := command 0x4330 opTransferBegin s

/-- TRANSFER_CANCEL (R488). -/
def opTransferCancel (s : State) : Except Abort State := opFlash (fun _ => .cancel) s

def execTransferCancel (s : State) : State := command 0x4330 opTransferCancel s

/-- TRANSFER_VERIFY (R488): step 3 of R486 again, its result being the answer. Behind other operations it is judged at its turn. -/
def opTransferVerify (s : State) : Except Abort State := do
  need (decide (s.flash.queue ≠ []) || s.flash.complete) .imageIncomplete
  opFlash (fun _ => .verify) s

def execTransferVerify (s : State) : State := command 0x4330 opTransferVerify s

/-- PIECE (R486): one that is held already is compared. Behind other operations it is judged at its turn. -/
def opPiece (bytes : List Nat) (s : State) : Except Abort State := do
  need (decide (bytes.length = 4100)) .lengthMismatch
  let n := bytesNum (bytes.take 4)
  need (decide (n < 2048)) .invalid
  match if s.flash.queue = [] then s.flash.pieceRefused n (bytes.drop 4) else none with
  | some a => .error a
  | none =>
    if s.flash.queue = [] ∧ s.flash.received n then .ok s
    else opFlash (fun _ => .piece n (bytes.drop 4)) s

def execPiece (bytes : List Nat) (s : State) : State := command 0x4330 (opPiece bytes) s

/-- CONFIRM (R491). -/
def opConfirm (s : State) : Except Abort State := do
  need (s.flash.reached && decide (s.flash.runningTrial ≠ none)) .state
  opFlash (fun _ => .confirm) s

def execConfirm (s : State) : State := command 0x4320 opConfirm s

/-- REVERT (R491). -/
def opRevert (s : State) : Except Abort State := do
  need (decide (s.flash.slotIn .trial ≠ none)) .state
  opFlash (fun _ => .revert) s

def execRevert (s : State) : State := command 0x4320 opRevert s

end Sys2Proof.Machine
end

