-- ==== Sys2Proof/Machine/OdRead.lean ====
section
/-! DEFINITION. What every object of the dictionary reads as (R7, R451 to R467, and the object tables of all
chapters). An object that no function here names reads the value stored for it, or its default. -/

namespace Sys2Proof.Machine

/-! Chapter 15. -/

/-- Sum of the bits of the units for which `p` holds. -/
def mapMask (n : Nat) (p : Nat → Bool) : Nat := ((upTo n).map fun k => if p k then 2 ^ k else 0).sum

/-- Unit presence map (Table 15-11). -/
def State.presenceMap (s : State) : Nat → Nat
  | 1 => mapMask 8 s.present
  | 2 => mapMask 2 s.channelPresent
  | 3 => mapMask 8 fun d => s.variant.codec && s.present d
  | 4 => mapMask 32 s.scannerPresent
  | 5 => mapMask 2 s.present
  | 6 => mapMask 16 s.axisPresent
  | 7 => mapMask 48 fun k => s.axisPresent (k + 16)
  | 8 => mapMask 16 s.chanPresent
  | 9 => mapMask 8 fun k => s.chanPresent (k + 16)
  | 10 => mapMask 64 s.latchPresent
  | 11 => mapMask 64 s.latchPresent
  | 12 => mapMask 64 s.hvPresent
  | 13 => mapMask 32 s.zonePresent
  | 14 => 0x3F
  | _ => s.dies.mapChanges

/-- Product code (R463). -/
def Variant.product (v : Variant) : Nat := 0x59000000 + 256 * v.dies + b2n v.codec

/-- Entry number of the oldest word held (R470). -/
def State.oldestTrace (s : State) : Nat := (s.trace.written + 2 ^ 32 - s.trace.held) % 2 ^ 32

def State.readNode (s : State) (index sub : Nat) : Option Nat :=
  match index with
  | 0x1001 => some s.errorRegister
  | 0x1003 => some (if sub = 0 then s.can.errors.length else s.can.errors.getD (sub - 1) 0)
  | 0x1018 =>
    match sub with
    | 2 => some s.variant.product
    | 3 => some (2 ^ 16 + Config.firmwareBuild % 2 ^ 16)
    | 4 => some (1 + Config.serialNumber % 0xFFFFFFFE)
    | _ => none
  | 0x2000 =>
    match sub with
    | 1 => some s.variant.number
    | 2 => some s.variant.dies
    | 3 => some s.variant.channels
    | _ => none
  | 0x2001 => if sub = 3 then some s.nmt.node else none
  | 0x2008 =>
    match sub with
    | 1 => some s.nmt.state.code
    | 2 => some s.nmt.refusal
    | 3 => some s.nmt.pending.code
    | 4 => some s.nmt.rpdosDiscarded
    | 5 => some s.nmt.emcysDropped
    | _ => none
  | 0x2010 => if sub = 0 then none else some (s.presenceMap sub)
  | 0x2020 =>
    match sub with
    | 1 => some (b2n s.straps.legacy)
    | 2 => some s.legacySelection
    | _ => none
  | 0x3810 =>
    match sub with
    | 1 => some s.can.timeValue
    | 2 => some s.can.timeStamp
    | _ => none
  | 0x4400 =>
    match sub with
    | 1 => some (b2n s.trace.on)
    | 4 => some s.trace.written
    | 5 => some s.trace.dropped
    | _ => none
  | 0x4401 =>
    match sub with
    | 1 => some s.trace.readPos
    | 2 => some s.oldestTrace
    | _ => none
  | _ => none

/-! Chapters 1, 2 and 10: press, timetable, slots, nip. -/

def State.readPress (s : State) (index sub : Nat) : Option Nat :=
  match index with
  | 0x2101 =>
    match sub with
    | 1 => some s.tt.state.code
    | 2 => some (ofSigned 64 s.tt.nextOrigin)
    | 3 => some s.tt.lastCommitted
    | 4 => some s.tt.haltCount
    | 5 => some (ofSigned 64 s.tt.backup)
    | 6 => some s.tt.ceiling
    | 7 => some (ofSigned 32 s.tt.delta)
    | _ => none
  | 0x2140 =>
    match sub with
    | 1 => some s.record.cause
    | 2 => some s.record.stamp
    | 3 => some (ofSigned 64 s.record.w)
    | _ => none
  | 0x2141 => if sub = 0 then none else some (s.record.entries.getD (sub - 1) 0xFFFFFFFF)
  | 0x2150 => if sub = 0 then none else some (s.station (sub - 1)).band
  | 0x2151 => if sub = 0 then none else some (s.leadBeam (sub - 1))
  | 0x2180 =>
    match sub with
    | 4 => some (ofSigned 64 s.w)
    | 6 => some (realOf s.webSpeed)
    | _ => none
  | 0x2190 => if sub = 8 then some s.nip.code else none
  | _ =>
    if 0x2110 ≤ index ∧ index ≤ 0x212F then
      let p := s.slot (index - 0x2110)
      match sub with
      | 6 => some p.state.code
      | 7 => some (ofSigned 64 p.origin)
      | 8 => some p.flags
      | _ => none
    else none

/-! Chapters 3 and 4: intake, store, arbiter, codec. -/

def State.readIntake (s : State) (index sub : Nat) : Option Nat :=
  match index with
  | 0x2200 =>
    match sub with
    | 1 => some (if s.intake.linkUp then s.intake.linkSpeed else 0)
    | 2 => some s.intake.linkWidth
    | 3 => some s.intake.maxPayload
    | 4 => some s.intake.badCount
    | 5 => some s.intake.eventDrops
    | 6 => some s.intake.absentCount
    | _ => none
  | 0x2300 =>
    match sub with
    | 1 => some (s.channelBytes 0)
    | 2 => some (s.channelBytes 1)
    | 4 => some s.usableStore
    | 5 => some s.store.largest
    | 6 => some s.reservedRaster
    | 7 => some s.store.corrected
    | 8 => some s.store.uncorrectable
    | _ => none
  | 0x2321 => if sub = 0 then none else some (s.playbackDemand (sub - 1) (s.cfgReal 0x2320 1))
  | 0x2330 =>
    match sub with
    | 2 => some (s.port 0).shortWindows
    | 3 => some (s.port 1).shortWindows
    | _ => none
  | 0x2331 => if sub = 0 then none else some (mapGet 0 s.store.mismatches (sub - 1))
  | _ => if 0x2310 ≤ index ∧ index ≤ 0x2317 ∧ 1 ≤ sub ∧ sub ≤ 7 then some (s.weight (index - 0x2310) (sub - 1)) else none

/-! Chapters 5 to 8: lanes, mesh, scanners, links. -/

/-- LANE_STATUS of lane l (Table 5-5). -/
def State.laneStatus (s : State) (l : Nat) : Nat := (s.lane l).status

/-- Difference of mean phase error to a neighbour; 0x80000000 where there is none to give (R225). -/
def noDifference : Nat := 0x80000000

/-- Mean phase error that a peer reported for its side of a join: LOCKED, no older than 100 ms, and not
from before a step of group time (R347). -/
def State.peerMean (s : State) (st side : Nat) : Option Int :=
  match s.joinsOf.find? fun j => decide (j.station = st) && decide (j.side = side) with
  | none => none
  | some j =>
    let e := mapGet {} s.haling.peerErrs (joinKey (j.peer / 8) (j.peer % 8) (1 - side))
    let stepped := s.group.stepAt.any fun t => decide (e.at_ < t)
    if e.known ∧ e.locked ∧ stepped = false ∧ s.groupNow ≤ (e.stamp : Int) + (100 * ticksPerMs : Nat) then some e.err else none

/-- Phase difference of scanner g to its neighbour on a side: 0 operator, 1 drive. -/
def State.phaseDifference (s : State) (g side : Nat) : Nat :=
  let st := scannerStation g
  let nc := (s.stitch st).nc
  let local_ (h : Nat) : Option Int := if (s.scanner h).state = .locked then some (s.meanError h) else none
  let other : Option Int :=
    if nc ≤ g % 4 then none
    else if side = 0 then (if g % 4 = 0 then s.peerMean st 0 else local_ (g - 1))
    else if g % 4 + 1 = nc then s.peerMean st 1 else local_ (g + 1)
  match other with
  | some e => if (s.scanner g).state = .locked then ofSigned 32 (s.meanError g - e) else noDifference
  | none => noDifference

def State.readScanner (s : State) (g sub : Nat) : Option Nat :=
  let x := s.scanner g
  match sub with
  | 2 => some x.state.code
  | 25 => some (ofSigned 32 x.err)
  | 26 => some (ofSigned 32 (s.meanError g))
  | 27 => some (s.phaseDifference g 0)
  | 28 => some (s.phaseDifference g 1)
  | 29 => some (realOf (s.facetRate g))
  | 30 => some x.spurious
  | 31 => some x.missing
  | 32 => some x.overruns
  | 33 => some x.excursions
  | 34 => some x.slips
  | _ => if 35 ≤ sub then some (ofSigned 16 (x.signature.getD (sub - 35) 0)) else none

def State.readLink (s : State) (g sub : Nat) : Option Nat :=
  let k := s.link g
  match sub with
  | 2 => some k.state.code
  | 8 => some (s.laserReasons g)
  | 9 => some k.driverId
  | 10 => some k.latency
  | 11 => some k.maxRate
  | 12 => some k.failed
  | 13 => some k.lost
  | 14 => some k.errors
  | 15 => some k.dwellTrips
  | 16 => some k.bdTrips
  | 17 => some k.powerTrips
  | 18 => some k.retrains
  | _ => if 19 ≤ sub then some (mapGet 0xFFFF k.ratios (sub - 19)) else none

def State.readLanes (s : State) (index sub : Nat) : Option Nat :=
  if 0x2400 ≤ index ∧ index ≤ 0x241F then
    if sub = 0 then none else some (s.laneStatus (laneOf (index - 0x2400) (sub - 1)))
  else if 0x2520 ≤ index ∧ index ≤ 0x253F then
    if sub = 0 then none else some (s.lane (laneOf (index - 0x2520) (sub - 1))).cyclesPeak
  else if 0x2810 ≤ index ∧ index ≤ 0x2817 then
    if sub = 11 then some (s.stitch (index - 0x2810)).mismatch else none
  else if 0x2820 ≤ index ∧ index ≤ 0x283F then
    if sub = 0 then none else some (s.meshStatus (laneOf (index - 0x2820) (sub - 1)))
  else if 0x2900 ≤ index ∧ index ≤ 0x291F then s.readScanner (index - 0x2900) sub
  else if 0x2A00 ≤ index ∧ index ≤ 0x2A1F then s.readLink (index - 0x2A00) sub
  else
    match index, sub with
    | 0x2500, 2 => some s.laneResult
    | 0x2500, 3 => some (b2n s.laneBusy)
    | 0x2800, 2 => some s.flips.result
    | 0x2800, 3 => some s.flips.performed
    | 0x2800, 4 => some s.flips.cancelled
    | 0x2800, 5 => some (s.lanes.filter fun kv => decide (kv.2.draftState = .pending)).length
    | _, _ => none

/-! Chapters 9 and 10: axes, feedback, loops, HV, fuser. -/

def State.readAxis (s : State) (a sub : Nat) : Option Nat :=
  let x := s.axis a
  if axisLacks a sub then some 0
  else match sub with
    | 2 => some x.state.code
    | 8 => some (ofSigned 64 (s.axisCommanded a))
    | 9 => some (ofSigned 64 (s.axisActual a))
    | 10 => some (realOf (s.axisMeasured a))
    | 11 => some (4 * b2n x.clamped + 2 * b2n x.lost + b2n x.armed.isSome)
    | _ => none

def State.readChannel (s : State) (ch sub : Nat) : Option Nat :=
  let x := s.chan ch
  match sub with
  | 2 => some x.state.code
  | 3 => some (ofSigned 64 x.position)
  | 6 => some (ofSigned 64 x.capture)
  | 7 => some x.errors
  | 8 => some x.skipped
  | 9 => some x.lastCause
  | _ => none

/-- Status object of a compare output. -/
def Compare.status (x : Compare) : Nat :=
  x.firings % 2 ^ 32 * 2 ^ 32 + x.late % 256 * 2 ^ 24 + x.multi % 256 * 2 ^ 16 + x.list.length % 8192

/-- A loop slot; what its owner sets reads as the owner has set it (R298). -/
def State.readLoop (s : State) (j sub : Nat) : Option Nat :=
  let x := s.loopSlot j
  let (kind, n) := s.slotOwner j
  match sub with
  | 2 => some (kind.code * 2 ^ 12 + n % 64 * 2 ^ 6 + 32 * b2n (s.slotHeld j) + 16 * b2n x.enabled + 8 * b2n x.bank
      + 4 * b2n x.clamped + 2 * b2n x.saturated + b2n x.missed)
  | 4 => some (s.trigWord j)
  | 5 => some (s.inputWord j)
  | 6 => if kind = Owner.host then none else some (realOf (s.ownerTerms j).1)
  | 8 => if kind = Owner.host then none else some (realOf (s.ownerTerms j).2.1)
  | 14 => (s.ownerLimits j).map fun m => realOf m.1
  | 15 => (s.ownerLimits j).map fun m => realOf m.2
  | 21 => (s.ownerLimits j).map fun m => realOf m.1
  | 22 => (s.ownerLimits j).map fun m => realOf m.2
  | 24 => some (realOf x.u)
  | 25 => some (realOf x.e)
  | 26 => some x.misses
  | 27 => some x.overruns
  | 28 => some (realOf x.i)
  | _ => none

def State.readHv (s : State) (h sub : Nat) : Option Nat :=
  let x := s.hvChan h
  match sub with
  | 2 => some x.state.code
  | 23 => some (realOf (s.dsInput (2 * h)).main)
  | 24 => some (realOf (s.dsInput (2 * h + 1)).main)
  | 25 => some x.arcs
  | _ => none

def State.readZone (s : State) (z sub : Nat) : Option Nat :=
  let x := s.zone z
  match sub with
  | 2 => some x.state.code
  | 3 => some (2 * b2n x.sensorHeld + b2n x.inBand)
  | 22 => some (realOf x.temp)
  | 23 => some (realOf (s.zonePower z))
  | 24 => some (x.period * 5 / 8)
  | 26 => some x.errors
  | _ => none

def State.readMotion (s : State) (index sub : Nat) : Option Nat :=
  if 0x3000 ≤ index ∧ index ≤ 0x303F then s.readAxis (index - 0x3000) sub
  else if 0x3100 ≤ index ∧ index ≤ 0x3117 then s.readChannel (index - 0x3100) sub
  else if index = 0x311E then (if sub = 0 then none else some (s.cmpOut (sub - 1)).status)
  else if index = 0x311F then (if sub = 5 then some (realOf (s.transport.speed.at_ s.timebase)) else none)
  else if 0x3200 ≤ index ∧ index ≤ 0x33FF then s.readLoop (index - 0x3200) sub
  else if 0x3400 ≤ index ∧ index ≤ 0x343F then s.readHv (index - 0x3400) sub
  else if 0x3500 ≤ index ∧ index ≤ 0x351F then s.readZone (index - 0x3500) sub
  else none

/-! Chapters 11 and 12: clocks, group time, Haling link. -/

/-- Hops to the homeroom (R366). -/
def State.homeroomHops (s : State) : Nat :=
  if s.isHomeroom then 0
  else
    let p := s.peer s.haling.homeroom
    match p.hopsA, p.hopsB with
    | some a, some b => min a b
    | some a, none => a
    | none, some b => b
    | none, none => 0

def State.readTime (s : State) (index sub : Nat) : Option Nat :=
  match index with
  | 0x3800 =>
    match sub with
    | 1 => some s.timebase
    | 2 => some (ofSigned 64 s.groupNow)
    | 3 => some (ofSigned 64 s.group.offset)
    | 4 => some (ofSigned 32 s.group.rate)
    | 5 => some (b2n s.group.synced * 2 ^ 15 + s.haling.homeroom % 1024)
    | _ => none
  | 0x3801 =>
    if sub = 0 then none
    else let c := s.dieClock (sub - 1)
      some (c.relocks % 256 * 256 + c.lock % 128)
  | 0x3901 =>
    match sub with
    | 1 => some s.haling.roll.code
    | 2 => some s.haling.generation
    | 3 => some s.haling.homeroom
    | 4 => some s.haling.census.length
    | 5 => some s.haling.lastComplete.length
    | 6 => some s.haling.portA.state.code
    | 7 => some s.haling.portB.state.code
    | 8 => some s.homeroomHops
    | 9 => some (b2n s.haling.aligned)
    | 10 => some (ofSigned 32 s.haling.residual)
    | _ => none
  | 0x3903 =>
    match sub with
    | 1 => some s.haling.discarded
    | 2 => some s.haling.hazardSets
    | 3 => some s.haling.tunnelsFailed
    | _ => none
  | 0x3908 =>
    match sub with
    | 7 => some (b2n s.haling.tunnel.busy)
    | 8 => some s.haling.tunnel.result
    | _ => none
  | _ =>
    if 0x3808 ≤ index ∧ index ≤ 0x380F ∧ 8 ≤ sub ∧ sub ≤ 12 then some (s.activeWord (index - 0x3808) (sub - 8)) else none

/-! Chapter 13: hazard net, seal, fuses, faults. -/

/-- Hazard status (0x4000:1). Bit 29: the net is held and nothing demands it. -/
def State.hazardStatus (s : State) : Nat :=
  b2n s.faults.fatal * 2 ^ 31 + b2n s.hazard.active * 2 ^ 30
    + b2n (s.hazard.active && decide (s.hazard.present = 0) && !s.faults.fatal) * 2 ^ 29
    + ((upTo 4).map fun k => b2n (s.pair k).blocked * 2 ^ (17 + k)).sum + s.hazard.sources % 2 ^ 11

/-- Die state (0x4104). -/
def State.dieState (s : State) (d : Nat) : Nat :=
  if s.fitted d = false then 0 else if bit s.dies.fenced d then 2 else if d = s.dies.lead then 3 else 1

/-- Fields of the fuse objects, in sub-index order of 0x4010 to 0x4016. -/
def fuseFields : List (Nat × Nat) :=
  [(0x4010, 8), (0x4011, 8), (0x4012, 64), (0x4013, 64), (0x4014, 32), (0x4015, 32), (0x4016, 64)].flatMap fun x =>
    (upTo x.2).map fun k => (x.1, k + 1)

/-- FAULTn state (0x4100:1). -/
def State.faultnState (s : State) : Nat :=
  8 * b2n s.faults.externalLow + 4 * b2n s.faults.pulseEnd.isSome + 2 * b2n s.faults.fatal + b2n s.faults.latch

def State.readSafety (s : State) (index sub : Nat) : Option Nat :=
  match index with
  | 0x4000 =>
    match sub with
    | 1 => some s.hazardStatus
    | 2 => some s.hazard.internalCause
    | 4 => some s.hazard.count
    | 5 => some s.hazard.lastAt
    | 10 => some s.hazard.levels
    | _ => none
  | 0x4008 =>
    match sub with
    | 2 => some (b2n s.sealed.on)
    | 3 => some s.sealed.stamp
    | 4 => some s.sealed.digest
    | _ => none
  | 0x4018 =>
    match sub with
    | 1 => some s.fuses.targetIndex
    | 2 => some s.fuses.targetSub
    | 3 => some s.fuses.value
    | 5 => some s.fuses.result
    | _ => none
  | 0x4100 =>
    match sub with
    | 1 => some s.faultnState
    | 3 => some s.faults.corrected
    | 4 => some s.faults.contained
    | 5 => some s.faults.fatalCount
    | 6 => some s.faults.lost
    | 7 => some s.faults.last
    | _ => none
  | 0x4104 => if sub = 0 then none else some (s.dieState (sub - 1))
  | 0x4105 => some s.dies.lead
  | 0x4108 =>
    match sub with
    | 3 => some s.inject.status
    | 4 => some s.inject.time
    | _ => none
  | _ => if 0x4010 ≤ index ∧ index ≤ 0x4016 ∧ sub ≠ 0 then some (s.fuse index sub) else none

/-! Chapters 14, 16 and 17: power, heat, flash, balls. -/

def State.readPower (s : State) (index sub : Nat) : Option Nat :=
  match index with
  | 0x4200 =>
    match sub with
    | 5 => some s.power.resetCause
    | 6 => some s.power.resetFault
    | 7 => some s.power.resetRtc
    | 8 => some s.rtcNow
    | _ => none
  | 0x4220 => if sub = 5 then some s.thermalCeiling else none
  | 0x4221 => if sub = 0 then none else some (realOf (s.heat (sub - 1)).tj)
  | 0x4222 =>
    if sub = 0 then none
    else let x := s.heat (sub - 1)
      some (x.band % 32 * 256 + x.level % 4 * 16 + 2 * b2n x.abandoned + b2n x.request)
  | 0x4223 => if sub = 0 then none else some (realOf (s.heat (sub - 1)).power)
  | 0x4224 => if sub = 0 then none else some (s.heat (sub - 1)).recesses
  | _ => if 0x4201 ≤ index ∧ index ≤ 0x4208 ∧ sub = 10 then some (s.railReading (index - 0x4201)) else none

def State.readFlash (s : State) (index sub : Nat) : Option Nat :=
  match index with
  | 0x4300 =>
    match sub with
    | 1 => some s.flash.capacity
    | 2 => some (if s.flashUsable = false then 0 else if s.flash.queue = [] then 1 else 2)
    | 3 => some s.hostSize
    | 7 => some s.flash.lastStatus
    | _ => none
  | 0x4310 =>
    match sub with
    | 3 => some s.flash.live
    | 4 => some s.flash.freeBytes
    | 5 => some s.flash.torn
    | _ => none
  | 0x4320 =>
    match sub with
    | 1 => some (s.flash.running.getD 0xFF)
    | 2 => some s.flash.boot.slot0.code
    | 3 => some s.flash.boot.slot1.code
    | 4 => some s.flash.boot.count
    | 6 => some (2 * b2n s.straps.boot1 + b2n s.straps.boot0)
    | 7 => some s.flash.installed
    | _ => none
  | 0x4330 =>
    match sub with
    | 2 => some s.flash.transferId
    | 3 => some s.flash.transfer.code
    | 5 => some ((upTo 2048).filter s.flash.received).length
    | 7 => some s.flash.rejection
    | _ => none
  | _ => none

/-- Function word of MFIO n; SEQ_EN and PG have theirs fixed (R503). -/
def State.mfioWord (s : State) (n : Nat) : Nat :=
  if 192 ≤ n ∧ n ≤ 199 then 16 * 2 ^ 24 + (n - 192) * 2 ^ 12
  else if 200 ≤ n ∧ n ≤ 207 then 17 * 2 ^ 24 + (n - 200) * 2 ^ 12
  else s.cfg (0x5000 + n) 1

/-- Die of the unit that a function word names; none for GPIO, SEQ_EN and PG. -/
def mfioDie (w : Nat) : Option Nat :=
  let i := bits w 23 12
  match bits w 31 24 with
  | 0 => none
  | 1 => some (i / 2)
  | 2 => some (i / 2)
  | 3 => some (axisDie i)
  | 4 => some (axisDie i)
  | 5 => some (hvDie i)
  | 6 => some (i / 16)
  | 7 => some (i / 16)
  | 8 => some (zoneDie i)
  | 9 => some (zoneDie i)
  | 10 => some (chanDie i)
  | 11 => some (i / 8)
  | 12 => some (i / 8)
  | 13 => some (i / 8)
  | 14 => some i
  | 15 => some (scannerStation i)
  | _ => none

/-- Die that ball n belongs to, or for a ball of the interface island the die of the unit that its function word names (R503, R507). -/
def ballDie (n w : Nat) : Option Nat := if n < 192 then some (n / 24) else mfioDie w

/-- The part drives ball n (R505). -/
def State.mfioOutput (s : State) (n : Nat) : Bool :=
  let w := s.mfioWord n
  match bits w 31 24 with
  | 0 => bit (s.cfg (0x5000 + n) 4) 1
  | 1 => true
  | 3 => true
  | 4 => true
  | 5 => true
  | 7 => !bit (s.cfg (0x3400 + bits w 23 12 / 2) 15) 7
  | 8 => true
  | 10 => decide (16 ≤ bits w 23 12) && decide (bits w 11 8 = 4)
  | 11 => true
  | 14 => true
  | 15 => true
  | 16 => true
  | _ => false

/-- What a BLDC channel does in its present sector (R278): the phase whose high side is switched, the phase whose low side is on, the
duty, and the dead time between the switches of one leg in nanoseconds. -/
structure GateDrive where
  high : Nat
  low : Nat
  duty : Rat
  dead : Nat
deriving DecidableEq, Repr

/-- The six gates of axis a, two for each phase, follow from its sector; none while no sector is known. -/
def State.gateDrive (s : State) (a : Nat) : Option GateDrive :=
  (s.sectorOf a).map fun k =>
    let v := Config.sectorLegs k
    let high := v % 3
    { high, low := (high + 1 + v / 3 % 2) % 3, duty := s.axisDuty a, dead := 10 * bits (s.cfg (0x3000 + a) 17) 47 40 }

/-- Gate sig of a BLDC axis, high sides even: whether it is on; none where it is switched by PWM. Off in OFF; braked or coasting in STOPPED
and DETAINED (R280, R282); otherwise as its sector says, the third phase being off. -/
def State.gateOn (s : State) (a sig : Nat) : Option Bool :=
  let x := s.axis a
  match x.state with
  | .off => some false
  | .stopped => some (x.braked && decide (sig % 2 = 1))
  | .detained => some (x.braked && decide (sig % 2 = 1))
  | _ => match s.gateDrive a with
    | none => some false
    | some g =>
      if sig / 2 = g.high then none
      else some (decide (sig / 2 = g.low) && decide (sig % 2 = 1))

/-- Output k of die d runs: enabled, with the auxiliary PLL locked (R342, R343). -/
def State.clockRuns (s : State) (d k : Nat) : Bool := bit (s.cfg (0x3808 + d) 13) k && bit (s.dieClock d).lock 6

/-- The net holds the nip's ball open (R327, Table 13-1). -/
def State.nipHeld (s : State) (n : Nat) : Bool :=
  s.hazard.active && decide (s.cfg 0x2190 1 = 1) && bit (s.cfg 0x2190 7) 1 && decide (s.nipBall = n)

/-- Level of ball n as the part drives it; none where something else drives it, or its waveform between commands is not
part of the model. A fenced die leaves its balls, and the island's balls of its units, inactive (R408, R507). -/
def State.mfioDriven (s : State) (n : Nat) : Option Bool :=
  let w := s.mfioWord n
  let inst := bits w 23 12
  let sig := bits w 11 8
  let inv := bit (s.cfg (0x5000 + n) 2) 7
  let x := s.axis inst
  let halted := decide (x.state = .off) || decide (x.state = .stopped) || decide (x.state = .detained)
  let on (b : Option Bool) : Option Bool := b.map (· != inv)
  if s.mfioOutput n && (ballDie n w).any fun d => !s.present d then some inv else
  match bits w 31 24 with
  | 0 =>
    if s.nipHeld n then some ((!bit (s.cfg 0x2190 7) 0) != inv)
    else if bit (s.cfg (0x5000 + n) 4) 1 then some (bit (s.cfg (0x5000 + n) 4) 0 != inv) else none
  | 1 => on (s.gateOn inst sig)
  | 3 => if (halted ∧ sig = 0) ∨ x.state = .off then some inv else none
  | 4 => if x.state = .off then some inv else none
  | 5 => if (s.hvChan inst).gates ∧ s.coreRailBad = false then none else some inv
  | 8 => some (((s.zone inst).gate && !s.coreRailBad) != inv)
  | 11 => some (((s.cmpOut inst).active != bit (s.cmpCfg inst) 57) != inv)
  | 14 => if s.clockRuns inst 4 then none else some inv
  | 15 => if s.clockRuns (scannerStation inst) (inst % 4) then none else some inv
  | 16 => some (bit s.power.enables inst)
  | _ => none

def State.readBalls (s : State) (index sub : Nat) : Option Nat :=
  if 0x5000 ≤ index ∧ index ≤ 0x50DF then
    let n := index - 0x5000
    match sub with
    | 1 => some (s.mfioWord n)
    | 3 =>
      let level := match s.mfioDriven n with
        | some b => b2n b
        | none => Config.freeNat s.freeCount % 2
      some (2 * b2n (s.mfioOutput n) + level)
    | _ => none
  else none

/-! The whole. -/

/-- Value of an object that holds a number. -/
def State.readNumber (s : State) (index sub : Nat) : Nat :=
  let found :=
    if index < 0x2100 ∨ index = 0x3810 ∨ index / 256 = 0x44 then s.readNode index sub
    else if index < 0x2200 then s.readPress index sub
    else if index < 0x2400 then s.readIntake index sub
    else if index < 0x3000 then s.readLanes index sub
    else if index < 0x3800 then s.readMotion index sub
    else if index < 0x4000 then s.readTime index sub
    else if index < 0x4200 then s.readSafety index sub
    else if index < 0x4300 then s.readPower index sub
    else if index < 0x4400 then s.readFlash index sub
    else s.readBalls index sub
  found.getD (s.cfg index sub)

/-- Bytes of one log entry (Table 13-7). -/
def LogEntry.bytes (x : LogEntry) : List Nat :=
  (leBytes 8 (x.code * 2 ^ 32 + x.repeats % 2 ^ 16 * 2 ^ 16 + b2n x.inDetention * 2 ^ 9 + b2n x.injected * 2 ^ 8)
    ++ leBytes 8 x.stamp).map (·.toNat)

/-- Pack bits, the first in bit 0 of byte 0. -/
def packBits : List Bool → List Nat
  | a :: b :: c :: d :: e :: f :: g :: h :: rest =>
    (b2n a + 2 * b2n b + 4 * b2n c + 8 * b2n d + 16 * b2n e + 32 * b2n f + 64 * b2n g + 128 * b2n h) :: packBits rest
  | _ => []

/-- Version of the running image: its text without the padding (Table 16-4). -/
def State.versionText (s : State) : List Nat :=
  match s.flash.running with
  | some k => (s.flash.bytes (slotBase k + 24) 32).takeWhile fun b => decide (b ≠ 0)
  | none => []

/-- Part name, such as "YK8-C". -/
def Variant.name (v : Variant) : List Nat := [0x59, 0x4B, 0x30 + v.dies, 0x2D, if v.codec then 0x43 else 0x4E]

/-- Bytes of a DOMAIN or VISIBLE_STRING. -/
def State.readBytes (s : State) (index sub : Nat) : List Nat :=
  match index with
  | 0x1008 => s.variant.name
  | 0x1009 => Config.stepping
  | 0x100A => s.versionText
  | 0x3902 => packBits ((upTo 1024).map s.haling.census.contains)
  | 0x4017 => packBits ((fuseFields.map fun f => (s.fuseOf (odKey f.1 f.2)).locked) ++ List.replicate 240 false)
  | 0x4101 => s.faults.log.reverse.flatMap LogEntry.bytes
  | 0x4102 => s.faults.detained.flatMap fun c => numBytes 4 c.2
  | 0x4109 => injectable.flatMap fun c => numBytes 2 (c.1 * 2 ^ 10 + c.2)
  | 0x4210 => s.slotBytes s.newestSlot
  | 0x4211 => s.slotBytes (1 - s.newestSlot)
  | 0x4220 =>
    if s.domain 0x4220 8 = [] then (upTo 6).flatMap fun k => numBytes 4 (realOf (s.modelParam k)) else s.domain 0x4220 8
  | 0x4212 => s.tailWords.flatMap (numBytes 4)
  | 0x4330 => s.flash.bitmap
  | _ =>
    if 0x2840 ≤ index ∧ index ≤ 0x285F then (s.lane (laneOf (index - 0x2840) (sub - 1))).draft.bytes
    else if 0x2860 ≤ index ∧ index ≤ 0x287F then (s.lane (laneOf (index - 0x2860) (sub - 1))).slate.bytes
    else if 0x2880 ≤ index ∧ index ≤ 0x288F then (upTo 4096).map fun k => tileAt (index - 0x2880) (k / 64) (k % 64)
    else s.domain index sub

/-- What a read finds (R4, R7, R451): the row of the object, or the abort. The reduced dictionary holds of 0x4310 sub-index 2 alone,
and it answers 0x4320:1 (R494). -/
def State.readCheck (s : State) (index sub : Nat) : Except Abort Obj := do
  need ((s.served index || (decide (index = 0x4320) && decide (sub = 1))) && indexListed index) .noObject
  need (!s.flash.recovery || decide (index ≠ 0x4310) || decide (sub = 2)) .noSub
  match findObj index sub with
  | none => .error .noSub
  | some o =>
    need (s.objPresent index sub false) .noSuchUnit
    need (decide (o.access ≠ .wo)) .readOfWo
    .ok o

/-- Value of an object as bytes, little-endian (R452). -/
def State.objBytes (s : State) (o : Obj) (index sub : Nat) : List Nat :=
  match o.ty with
  | .dom => s.readBytes index sub
  | .str => s.readBytes index sub
  | ty => numBytes ty.size (s.readNumber index sub)

/-! The store (R483). -/

/-- Objects whose value the part sets itself: a store of everything leaves them out. -/
def selfSet (index sub : Nat) : Bool :=
  decide (index = 0x1003) || (decide (index = 0x2101) && decide (sub = 2)) || decide (index = 0x2150)
    || (decide (0x2840 ≤ index) && decide (index ≤ 0x285F)) || (decide (index = 0x3908) && decide (sub = 5))
    || (decide (index = 0x4300) && decide (sub = 6)) || (decide (index = 0x4330) && decide (sub = 2)) || decide (index = 0x4401)

/-- Every rw and rws sub-index of the objects that a store of `index` takes, of units that exist, with its present value. -/
def State.storable (s : State) (index : Nat) : List (Nat × List Nat) :=
  let takes := fun i sub => if index = 0xFFFF then decide (0x1000 ≤ i) && decide (i < 0x6000) && !selfSet i sub else decide (i = index)
  (objTable.filter fun o => decide (o.access = .rw) || decide (o.access = .rws)).flatMap fun o =>
    (upTo (o.hi + 1 - o.lo)).flatMap fun i =>
      ((upTo (o.subHi + 1 - o.subLo)).filter fun k => takes (o.lo + i) (o.subLo + k) && s.objPresent (o.lo + i) (o.subLo + k) false).map fun k =>
        (odKey (o.lo + i) (o.subLo + k), s.objBytes o (o.lo + i) (o.subLo + k))

/-- STORE_SETTINGS (R4, R441, R483): the values as they stand now of an index with objects of a unit that is present, or of all of them
for 0xFFFF. The reduced dictionary does not hold it (R494). -/
def opStoreSettings (index : Nat) (s : State) : Except Abort State := do
  need (!s.flash.recovery) .noSub
  need (decide (index = 0xFFFF) || indexListed index) .invalid
  need (decide (index = 0xFFFF) || s.objPresent index 0 true) .noSuchUnit
  opFlash (fun s => .store (s.storable index)) s

def execStoreSettings (index : Nat) (s : State) : State := command 0x4310 (opStoreSettings index) s

/-! The trace read (R470). -/

/-- Words that a read of 0x4402 returns, and the read position after it. -/
def State.traceTake (s : State) : List Nat × Nat :=
  let behind := (s.trace.written + 2 ^ 32 - s.trace.readPos) % 2 ^ 32
  let start := if behind ≤ s.trace.held then behind else if behind - s.trace.held < 2 ^ 31 then s.trace.held else 0
  let from_ := (s.trace.written + 2 ^ 32 - start) % 2 ^ 32
  let n := min 1024 start
  ((upTo n).map fun k => mapGet 0 s.trace.buf ((from_ + k) % 2 ^ 32 % traceSize),
   if start = 0 then s.trace.readPos else (from_ + n) % 2 ^ 32)

/-- TRACE_READ (R470). -/
def execTraceRead (s : State) : State :=
  let (ws, p) := s.traceTake
  { s with trace := { s.trace with readPos := p }, answer := ws.flatMap (numBytes 4), resp := none }

/-- A dictionary read by any path (R441): the value in `answer`, or the abort. Reading a latch queue or the trace also
takes what it returns. -/
def State.readObject (s : State) (index sub : Nat) : State :=
  match s.readCheck index sub with
  | .error a => { s with resp := some a, answer := [] }
  | .ok o =>
    if index = 0x3119 then execLatchQueueRead (sub - 1) s
    else if index = 0x4402 then execTraceRead s
    else
      let drawn := if 0x5000 ≤ index ∧ sub = 3 then 1 else 0
      { s with resp := none, answer := s.objBytes o index sub, freeCount := s.freeCount + drawn }

end Sys2Proof.Machine
end

