-- ==== Sys2Proof/Machine/OdWrite.lean ====
section
/-! DEFINITION. A write of an object by any path: the checks of every object table in one order (object, NMT state,
sub-index, unit, access, seal, length, PRE-OPERATIONAL, range, the object's own conditions), then its effect (R441,
R451 to R453, and the object rules of all chapters). -/

namespace Sys2Proof.Machine

/-! Values. -/

/-- A number in the stated range of an object and, for REAL32, finite (R452). -/
def Obj.valueOk (o : Obj) (v : Nat) : Bool :=
  let within (x : Rat) (scale : Rat) : Bool := match o.range with
    | some (lo, hi) => decide ((lo : Rat) ≤ x * scale) && decide (x * scale ≤ (hi : Rat))
    | none => true
  match o.ty with
  | .f32 => !realBad v && within (realOr0 v) 10
  | .i16 => within (toSigned 16 v : Rat) 1
  | .i32 => within (toSigned 32 v : Rat) 1
  | .i64 => within (toSigned 64 v : Rat) 1
  | _ => within (v : Rat) 1

/-- Every REAL32 of a DOMAIN is finite. -/
def realsOk (bs : List Nat) : Bool := (upTo (bs.length / 4)).all fun k => !realBad (bytesNum ((bs.drop (4 * k)).take 4))

/-! Lists of the object rules: the sub-indices that a unit's state locks. -/

/-- A slot accepts its parameters (R54). -/
def SlotState.writable (x : SlotState) : Bool :=
  decide (x = .free) || decide (x = .complete) || decide (x = .withdrawn) || decide (x = .incomplete)

/-! Chapter 15: communication and node. -/

/-- Mapping entries of a PDO's mapping object, sub-indices 1 to n. -/
def State.mapping (s : State) (index : Nat) : List Nat :=
  (upTo (s.cfg index 0)).map fun k => s.cfg index (k + 1)

/-- Index, sub-index and bits of an entry. -/
def entryIndex (e : Nat) : Nat := bits e 31 16
def entrySub (e : Nat) : Nat := bits e 15 8
def entryBytes (e : Nat) : Nat := bits e 7 0 / 8

/-- An entry names a whole object that may be mapped in this direction (R459); 0 is an empty entry. -/
def State.entryCheck (s : State) (dir : PdoDir) (e : Nat) : Except Abort Unit := do
  if e = 0 then .ok ()
  else
    need (s.served (entryIndex e) && indexListed (entryIndex e)) .noObject
    match findObj (entryIndex e) (entrySub e) with
    | none => .error .noSub
    | some o =>
      need (s.objPresent (entryIndex e) (entrySub e) false) .noSuchUnit
      need (decide (o.pdo = dir)) .notMappable
      need (decide (bits e 7 0 = 8 * o.ty.size)) .lengthMismatch

/-- Entries of all TPDOs together. -/
def State.tpdoEntries (s : State) : Nat := ((upTo 64).map fun k => s.cfg (0x1A00 + k) 0).sum

/-- A change of a mapping (R459). -/
def State.mappingCheck (s : State) (index sub v : Nat) : Except Abort Unit := do
  let t := decide (0x1A00 ≤ index)
  let dir : PdoDir := if t then .tpdo else .rpdo
  need (bit (s.cfg (index - 0x200) 1) 31) .state
  if sub = 0 then
    if v = 0 then .ok ()
    else
      need (decide (s.cfg index 0 = 0)) .state
      need (decide (v ≤ 64)) .mappingTooLong
      let es := (upTo v).map fun k => s.cfg index (k + 1)
      need (es.all fun e => decide (e ≠ 0)) .notMappable
      need (decide ((es.map entryBytes).sum ≤ 64) && (!t || decide (s.tpdoEntries + v ≤ 1024))) .mappingTooLong
  else
    need (decide (s.cfg index 0 = 0)) .state
    s.entryCheck dir v

/-- Bit rates in kbit/s (R444). -/
def nominalRates : List Nat := [125, 250, 500, 1000]
def dataRates : List Nat := [1000, 2000, 4000, 5000, 8000]

/-- A transmission type that PDOs have (R459). -/
def pdoType (v : Nat) : Bool := decide (v ≤ 240) || decide (v = 254) || decide (v = 255)

/-- A LEGACY selection by the object (R466). -/
def State.legacyCheck (s : State) (v : Nat) : Except Abort Unit := do
  let old := s.cfg 0x2020 2
  need (!s.straps.legacy && s.ttIdle) .state
  need (!(bit v 1 && !bit old 1) || (upTo 8).all fun st => !s.fitted st || decide ((s.stitch st).nc = 1)) .invalid
  need (!(bit old 2 && !bit v 2) || s.intake.rings.all fun kv => !(kv.2.enable && decide (s.ringKind kv.1 = 1) && decide (kv.2.format = 2))) .state
  need (!(bit v 2 && !bit old 2) || (s.setCfg 0x2020 2 v).legalHeight (s.cfg 0x2100 8)) .panelIllegal

def State.checkNode (s : State) (index sub v : Nat) : Except Abort Unit := do
  if index = 0x1005 ∨ index = 0x1012 then need (!bit v 30) .invalid
  else if index = 0x1016 then need (decide (v < 2 ^ 24)) .invalid
  else if index = 0x1019 then need (decide (v ≠ 1)) .invalid
  else if ((0x1400 ≤ index ∧ index ≤ 0x143F) ∨ (0x1800 ≤ index ∧ index ≤ 0x183F)) ∧ sub = 2 then need (pdoType v) .invalid
  else if (0x1600 ≤ index ∧ index ≤ 0x163F) ∨ (0x1A00 ≤ index ∧ index ≤ 0x1A3F) then s.mappingCheck index sub v
  else if index = 0x2001 ∧ sub = 4 then need (nominalRates.contains v) .invalid
  else if index = 0x2001 ∧ sub = 5 then need (dataRates.contains v && decide (s.cfg 0x2001 4 ≤ v)) .invalid
  else if index = 0x2020 then s.legacyCheck v
  else if index = 0x4400 then need (!s.trace.on) .state

/-! Chapters 1, 2 and 10: press and nip. -/

/-- D_s - A_s ≥ 0 at every station (R24). -/
def State.offsetsOk (s : State) : Bool := (upTo 8).all fun st => decide (s.exposureArc st ≤ s.stationOffset st)

/-- The nip's actuator is a unit that exists (R4). -/
def State.nipCheck (s : State) : Except Abort Unit := do
  match s.cfg 0x2190 1 with
  | 1 =>
    need (decide (s.nipBall < 224)) .invalid
    need (decide (192 ≤ s.nipBall) || s.present (s.nipBall / 24)) .noSuchUnit
  | 2 =>
    need (decide (s.cfg 0x2190 2 < 64)) .invalid
    need (s.axisPresent (s.cfg 0x2190 2)) .noSuchUnit
  | _ => .ok ()

def State.checkPress (s : State) (index sub v : Nat) : Except Abort Unit := do
  if index = 0x2100 ∧ sub = 8 then need (s.legalHeight v) .panelIllegal
  else if index = 0x2100 ∧ sub = 10 then
    need (!bit v 6 && decide (v < 256)) .invalid
    need (!bit v 7 || s.latchPresent (v % 64)) .noSuchUnit
  else if 0x2110 ≤ index ∧ index ≤ 0x212F then need (s.slot (index - 0x2110)).state.writable .state
  else if index = 0x2181 ∨ index = 0x2182 then need (s.setCfg index sub v).offsetsOk .invalid
  else if index = 0x2190 ∧ (sub = 1 ∨ sub = 2) then (s.setCfg index sub v).nipCheck

/-! Chapters 3 and 4: rings, store, arbiter. -/

def State.checkIntake (s : State) (index sub v : Nat) : Except Abort Unit := do
  if 0x2210 ≤ index ∧ index ≤ 0x2217 then
    need (decide (v ≤ 5) && decide (v ≠ 1)) .invalid
    need (decide (v ≠ 2) || s.variant.codec) .noSuchUnit
    need (s.intake.rings.all fun kv => !(kv.2.enable && decide (ringDie kv.1 = index - 0x2210)
      && decide (4096 ≤ ringLocal kv.1) && decide (ringBlock kv.1 = sub))) .state
  else if index = 0x2300 then
    match windowSlots v with
    | some nw => need (s.weightsHold nw (s.cfgReal 0x2320 1)) .invalid
    | none => .error .invalid
  else if (0x2310 ≤ index ∧ index ≤ 0x2317) ∨ index = 0x2320 then need (s.setCfg index sub v).weightsOk .invalid

/-! Chapters 5 to 8: lanes, joins, scanners, links. -/

/-- A glide rate and pull range that keep sigma/Lambda within p/2 (R214), at the station's present Lambda. -/
def State.glideOk (s : State) (g : Nat) : Bool :=
  decide (2 * s.cfg (0x2900 + g) 18 ≤ s.lambda (scannerStation g) * s.cfg (0x2900 + g) 17)

/-- Widest span of scanner g's lanes. -/
def State.spanWidth (s : State) (g : Nat) : Nat := let x := s.spanOf g
  x.2 + 1 - x.1

def State.checkScanner (s : State) (g sub v : Nat) : Except Abort Unit := do
  let after := s.setCfg (0x2900 + g) sub v
  if sub ≤ 11 then need (decide ((s.scanner g).state = .off)) .state else need s.ttIdle .state
  if sub = 5 then
    need (s.latchPresent v) .noSuchUnit
    need (s.assigned 12 v 0 || s.assigned 13 v 0) .invalid
  else if 9 ≤ sub ∧ sub ≤ 12 then need (after.scanTimingOk g (if s.scannerUsed g then s.spanWidth g else 0)) .invalid
  else if sub = 14 ∨ sub = 16 then
    need (decide (after.cfg (0x2900 + g) 14 ≤ after.cfg (0x2900 + g) 16)) .invalid
  else if sub = 17 ∨ sub = 18 then need (after.glideOk g) .invalid

def State.checkLanes (s : State) (index sub v : Nat) : Except Abort Unit := do
  if 0x2808 ≤ index ∧ index ≤ 0x280F ∧ sub = 1 then need (!bit s.legacySelection 1 || decide (v = 1)) .invalid
  else if 0x2810 ≤ index ∧ index ≤ 0x2817 ∧ (sub = 2 ∨ sub = 7) then
    need (decide (v < 2 ^ 13)) .invalid
    need (decide (v / 8 ≠ s.seat) || s.present (v % 8)) .noSuchUnit
  else if 0x2900 ≤ index ∧ index ≤ 0x291F then s.checkScanner (index - 0x2900) sub v
  else if 0x2A00 ≤ index ∧ index ≤ 0x2A1F ∧ sub = 3 then need (decide ((s.scanner (index - 0x2A00)).state = .off)) .state

/-! Chapter 9: axes, channels, latches, transport. -/

/-- Local slot k of die d may be named by the unit `own` (R276). -/
def State.slotNameable (s : State) (d k : Nat) (own : Owner × Nat) : Except Abort Unit := do
  need (decide (k = 0xFF) || (decide (4 ≤ k) && decide (k < 64))) .invalid
  let held := s.slotOwner (64 * d + k)
  need (decide (k = 0xFF) || decide (held.1 = .host) || decide (held = own)) .state

/-- No slot of die d has a declared rate above 100,000 per second, the enabled ones sum to 8,000,000 at most, and no
chain is too long (R301). -/
def State.declaredOk (s : State) (d : Nat) : Bool :=
  s.ratesOk d && (upTo 64).all fun k =>
    decide (s.declaredRate (64 * d + k) ≤ 100000) && decide (s.chainLength (64 * d + k) 5 ≤ 4)

/-- Configuration word of an axis (Tables 9-6 and 9-7). -/
def axisWordOk (a w : Nat) : Bool :=
  if a < 16 then
    decide (80 ≤ bits w 63 48) && decide (bits w 63 48 ≤ 1000) && decide (2 ≤ bits w 47 40) && decide (bits w 47 40 ≤ 200)
      && decide (25 ≤ bits w 39 32) && decide (bits w 39 32 ≤ 250) && decide (1 ≤ bits w 27 24) && decide (bits w 22 20 ≤ 5)
      && !bit w 16
  else
    decide (200 ≤ bits w 63 48) && decide (bits w 63 48 ≤ 500) && decide (bits w 46 44 = 0) && decide (bits w 43 40 ≤ 8)
      && decide (10 ≤ bits w 35 24) && decide (1 ≤ bits w 23 12) && decide (bits w 11 0 = 0)

/-- Converter of the AIN input that an axis word names is present (R4). -/
def State.axisAin (s : State) (a w : Nat) : Bool :=
  if a < 16 then s.present (bits w 31 28 / 8) else !bit w 47 || s.present (bits w 39 36 / 8)

def State.checkAxis (s : State) (a sub v : Nat) : Except Abort Unit := do
  need (!axisLacks a sub) .invalid
  if [12, 13, 15, 17, 19, 20, 21, 22].contains sub then need (decide ((s.axis a).state = .off)) .state
  if sub = 12 then
    need (decide (v = 0xFF) || decide (v < 24)) .invalid
    need (decide (v = 0xFF) || s.chanPresent v) .noSuchUnit
  else if sub = 13 then
    s.slotNameable (axisDie a) (v % 256) (.axis, a)
    s.slotNameable (axisDie a) (v / 256 % 256) (.axis, a)
    s.slotNameable (axisDie a) (v / 65536 % 256) (.axis, a)
    s.slotNameable (axisDie a) (v / 16777216 % 256) (.axis, a)
    need ((s.setCfg (0x3000 + a) sub v).declaredOk (axisDie a)) .invalid
  else if sub = 15 then need (decide (v / 2 ≤ 2)) .invalid
  else if sub = 16 then need (decide (v ≤ s.fuse 0x4016 (a + 1))) .invalid
  else if sub = 17 then
    need (axisWordOk a v) .invalid
    need (s.axisAin a v) .noSuchUnit
    need ((s.setCfg (0x3000 + a) sub v).declaredOk (axisDie a)) .invalid
  else if sub = 18 then need (decide (v ≤ 4095)) .invalid

/-- Configuration word of a feedback channel (Tables 9-15 and 9-16). -/
def channelWordOk (ch w : Nat) : Bool :=
  if ch < 16 then decide (bits w 61 60 ≤ 1) && decide (bits w 56 52 ≤ 16) && decide (bits w 51 0 = 0)
  else
    let n := bits w 57 52 + 1
    let p := bits w 51 46 + 1
    decide (10 ≤ n) && decide (8 ≤ p) && decide (p ≤ 48) && decide (bits w 45 41 ≤ 16)
      && decide (p + bits w 59 59 + bits w 45 41 ≤ n) && decide (1 ≤ bits w 40 34) && decide (bits w 40 34 ≤ 100)
      && decide (1 ≤ bits w 33 24) && decide (bits w 33 24 ≤ 1000) && decide (1 ≤ bits w 23 14)
      && decide (bits w 23 14 ≤ 1000) && decide (1 ≤ bits w 13 10) && decide (bits w 1 0 = 0)

/-- Every signal that the configuration uses is assigned (R506). -/
def State.channelWired (s : State) (ch w : Nat) : Bool :=
  if ch < 16 then s.allAssigned 10 ch ([0, 1] ++ (if bits w 61 60 = 1 then [2] else []) ++ (if bit w 57 then [3] else []))
  else s.allAssigned 10 ch [4, 5]

def State.checkChannel (s : State) (ch sub v : Nat) : Except Abort Unit := do
  if sub = 5 then
    need (decide ((s.chan ch).state = .off)) .state
    need (channelWordOk ch v) .invalid
    need (!bit v 63 || s.channelWired ch v) .state
  else if sub = 10 then need (decide ((s.chan ch).state = .off)) .state

def State.checkTransport (s : State) (sub v : Nat) : Except Abort Unit := do
  let after := s.setCfg 0x311F sub v
  if sub ≠ 4 then need s.ttIdle .state
  if sub = 1 then
    need (decide (v = 0xFF) || decide (v < 64)) .invalid
    need (decide (v = 0xFF) || s.axisPresent v) .noSuchUnit
    need (decide (v = 0xFF) || !(decide (s.cfg 0x2190 1 = 2) && decide (s.cfg 0x2190 2 = v))) .state
    need (decide (v = 0xFF)) .state <|> s.slotNameable (axisDie v) (s.cfg 0x311F 3) (.transport, 0)
    need (decide (v = 0xFF) || after.declaredOk (axisDie v)) .invalid
  else if sub = 3 then
    need (decide (v = 0xFF) || (decide (4 ≤ v) && decide (v < 64))) .invalid
    match s.webAxis with
    | some a =>
      need (s.axisPresent a) .noSuchUnit
      s.slotNameable (axisDie a) v (.transport, 0)
      need (after.declaredOk (axisDie a)) .invalid
    | none => need (decide (v = 0xFF)) .invalid

def State.checkMotion (s : State) (index sub v : Nat) : Except Abort Unit := do
  if index ≤ 0x303F then s.checkAxis (index - 0x3000) sub v
  else if index ≤ 0x3117 then s.checkChannel (index - 0x3100) sub v
  else if index = 0x3118 then
    need (decide (bits v 30 29 ≠ 3) && decide (bits v 14 0 = 0)) .invalid
    need (decide (bits v 28 24 < 24) || decide (bits v 28 24 = 31)) .invalid
    need (decide (bits v 28 24 = 31) || s.chanPresent (bits v 28 24)) .noSuchUnit
    need (!bit v 31 || s.latchWired (sub - 1)) .state
  else if index = 0x311C then need (decide (0 < toSigned 64 v)) .invalid
  else if index = 0x311F then s.checkTransport sub v

/-! Chapter 10: loop slots, HV channels, fuser zones. -/

/-- The part owns the slot now (R211, R298). -/
def State.slotOwned (s : State) (j : Nat) : Bool :=
  match s.slotOwner j with
  | (.host, _) => false
  | _ => true

/-- Trigger word of a host slot (Table 10-2). -/
def triggerOk (v : Nat) : Bool :=
  match bits v 31 28 with
  | 0 => true
  | 1 => decide (1000 ≤ bits v 27 0) && decide (bits v 27 0 ≤ 100000000)
  | 2 => decide (bits v 27 20 < 16) && decide (bits v 19 16 = 0) && decide (1 ≤ bits v 15 0)
  | 6 => decide (bits v 27 0 < 64)
  | _ => false

/-- Input word of a host slot (Table 10-5): in range, and its unit present. -/
def State.inputCheck (s : State) (v : Nat) : Except Abort Unit := do
  let n := bits v 23 0
  match bits v 31 24 with
  | 0 => .ok ()
  | 1 => need (decide (n < 16)) .invalid; need (s.present (n / 8)) .noSuchUnit
  | 2 => need (decide (n < 16)) .invalid
  | 3 => need (decide (n < 24)) .invalid; need (s.chanPresent n) .noSuchUnit
  | 4 => need (decide (n < 64)) .invalid; need (s.axisPresent n) .noSuchUnit
  | 5 => need (decide (n < 64)) .invalid
  | 6 => .ok ()
  | _ => .error .invalid

/-- Checks of the loop slot objects (R298, R301, R328). A minimum above the maximum is refused as a maximum below the minimum is, since
the maximum would be out of its range (DEDUCED, log 10). -/
def State.checkLoop (s : State) (j sub v : Nat) : Except Abort Unit := do
  let limit := [4, 5, 14, 15, 21, 22].contains sub
  need (!((limit || decide (sub = 6) || decide (sub = 8)) && s.slotOwned j)) .state
  need (!(limit && (s.loopSlot j).enabled)) .state
  if sub = 4 then
    need (triggerOk v) .invalid
    need ((s.setCfg (0x3200 + j) 4 v).declaredOk (slotDie j)) .invalid
  else if sub = 5 then s.inputCheck v
  else if [10, 11, 12, 17, 18, 19].contains sub then need (decide (0 ≤ realOr0 v)) .invalid
  else if sub = 14 ∨ sub = 21 then need (decide (realOr0 v ≤ s.cfgReal (0x3200 + j) (sub + 1))) .invalid
  else if sub = 15 ∨ sub = 22 then need (decide (s.cfgReal (0x3200 + j) (sub - 1) ≤ realOr0 v)) .invalid

def State.checkHv (s : State) (h sub v : Nat) : Except Abort Unit := do
  let after := s.setCfg (0x3400 + h) sub v
  let c := after.cfg (0x3400 + h)
  let x := realOr0 v
  if ([3, 4, 5, 6, 7, 8, 9, 10, 13, 14, 15, 16, 19, 20, 21, 22] : List Nat).contains sub then
    need (decide ((s.hvChan h).state = .off)) .state
  if sub = 6 then need (decide (c 5 < v)) .invalid
  else if sub = 4 ∨ sub = 5 then need (decide (c 4 = 0) || decide (c 5 < c 6)) .invalid
  else if sub = 9 then
    s.slotNameable (hvDie h) v (.hv, h)
    need (after.declaredOk (hvDie h)) .invalid
  else if sub = 10 then
    need (decide (1 ≤ v)) .invalid
    need (after.declaredOk (hvDie h)) .invalid
  else if sub = 11 ∨ sub = 12 then
    need (decide (ratAbs x ≤ s.cfgReal (0x3400 + h) (17 + c 3))) .invalid
  else if sub = 15 then
    need (decide (4 ≤ v % 128) && decide (v % 128 ≤ 20)) .invalid
    need (after.declaredOk (hvDie h)) .invalid
  else if sub = 16 then
    need ([32, 64, 128, 256].contains v) .invalid
    need (after.declaredOk (hvDie h)) .invalid
  else if sub = 17 then need (decide (0 ≤ x) && decide (x ≤ (s.fuse 0x4012 (h + 1) : Rat))) .invalid
  else if sub = 18 then need (decide (0 ≤ x) && decide (x ≤ (s.fuse 0x4013 (h + 1) : Rat))) .invalid

/-- Sensor word of a zone: kind, AIN or delta-sigma input, cold junction (Table 10-7). -/
def State.sensorCheck (s : State) (v : Nat) : Except Abort Unit := do
  need (decide (bits v 31 26 = 0) && decide (bits v 23 16 = 0) && decide (bits v 25 24 ≤ 2)
    && decide (bits v 15 8 < 16) && decide (bits v 7 0 < 16)) .invalid
  need (decide (bits v 25 24 = 2) || s.present (bits v 15 8 / 8)) .noSuchUnit
  need (decide (bits v 25 24 ≠ 1) || s.present (bits v 7 0 / 8)) .noSuchUnit

def State.checkZone (s : State) (z sub v : Nat) : Except Abort Unit := do
  let after := s.setCfg (0x3500 + z) sub v
  let x := realOr0 v
  if ([4, 5, 6, 7, 8, 9, 10, 11, 15, 16, 20, 21, 25] : List Nat).contains sub then
    need (decide ((s.zone z).state = .off)) .state
  if sub = 5 then
    need (if s.cfg (0x3500 + z) 4 = 0 then decide (10 ≤ bits v 31 16) && decide (bits v 31 16 ≤ 1000)
      else decide (100 ≤ bits v 15 0) && decide (bits v 15 0 ≤ 5000)) .invalid
  else if sub = 6 then s.sensorCheck v
  else if sub = 10 then need (after.declaredOk (zoneDie z)) .invalid
  else if sub = 11 then
    s.slotNameable (zoneDie z) v (.zone, z)
    need (after.declaredOk (zoneDie z)) .invalid
  else if sub = 13 then need (decide (x ≤ s.cfgReal (0x3500 + z) 12)) .invalid
  else if sub = 18 then need (decide (0 ≤ x) && decide (10 * x ≤ (s.fuse 0x4015 (z + 1) : Rat))) .invalid
  else if sub = 19 then need (decide (v ≤ s.fuse 0x4014 (z + 1))) .invalid

def State.checkProcess (s : State) (index sub v : Nat) : Except Abort Unit :=
  if index ≤ 0x33FF then s.checkLoop (index - 0x3200) sub v
  else if index ≤ 0x343F then s.checkHv (index - 0x3400) sub v
  else s.checkZone (index - 0x3500) sub v

/-! Chapters 11 to 17. -/

def State.checkTime (s : State) (index sub _v : Nat) : Except Abort Unit := do
  if 0x3808 ≤ index ∧ index ≤ 0x380F ∧ 3 ≤ sub ∧ sub ≤ 7 then
    need (!bit (s.ownedOutputs (index - 0x3808)) (sub - 3)) .state

def State.checkSafety (s : State) (index sub v : Nat) : Except Abort Unit := do
  if 0x4201 ≤ index ∧ index ≤ 0x4208 ∧ sub = 1 ∧ (v = 2 ∨ v = 3) then need (s.channelPresent (v - 2)) .noSuchUnit
  else if index = 0x4200 ∧ sub = 4 then need (decide (v < 2 ^ 48)) .invalid
  else if 0x4201 ≤ index ∧ index ≤ 0x4208 ∧ sub = 6 then need (decide (s.cfg index 5 < v)) .invalid
  else if index = 0x4220 ∧ sub = 3 then
    need (decide (s.cfgReal 0x4220 1 ≤ realOr0 v) && decide (realOr0 v ≤ s.cfgReal 0x4220 2)) .invalid
  else if index = 0x4108 ∧ sub = 1 then need (s.targetPresent v) .noSuchUnit

/-- The own conditions of an object (after those that every object has). -/
def State.ownCheck (s : State) (index sub v : Nat) : Except Abort Unit :=
  if index < 0x2100 ∨ index / 256 = 0x44 then s.checkNode index sub v
  else if index < 0x2200 then s.checkPress index sub v
  else if index < 0x2400 then s.checkIntake index sub v
  else if index < 0x3000 then s.checkLanes index sub v
  else if index < 0x3200 then s.checkMotion index sub v
  else if index < 0x3800 then s.checkProcess index sub v
  else if index < 0x4000 then s.checkTime index sub v
  else s.checkSafety index sub v

/-! Effects beyond the stored value. -/

/-- Slots that a write has released stop and belong to the host (R298). -/
def State.releaseSlots (s before : State) : State :=
  { s with slotsL := mapEach {} s.slotsL fun j x =>
      if x.enabled && decide ((s.slotOwner j).1 = .host) && decide ((before.slotOwner j).1 ≠ .host) then x.stop else x }

/-- An INTLK input is judged again after its pair has been configured (R389). -/
def State.rejudge (s : State) (src : Nat) : State :=
  let demand := decide (bit s.hazard.levels src = s.demandsHigh src)
  let paired (f : State → Nat → State) (s : State) : State := match s.pairOf src with
    | some k => f s k
    | none => s
  if demand ∧ bit s.hazard.present src = false then
    (paired (fun s k => s.pairDemand src k) (s.sourceDemands src)).hazardNet src 0
  else if demand = false ∧ bit s.hazard.present src then paired (fun s k => s.pairClear src k) (s.sourceGone src)
  else s

/-- Pairs that are no longer enabled keep nothing. -/
def State.dropPairs (s : State) : State :=
  { s with hazard := { s.hazard with pairs := s.hazard.pairs.filter fun kv => bit (s.cfg 0x4000 7) kv.1 } }

/-- The part takes its place on the Haling link, or leaves it (R356, R359): ports, roll call and census start afresh. A port
that was UP goes DOWN with cause 1, and the part's group time is its own timebase (R347). -/
def State.settleMode (s : State) : State :=
  let port (p : Nat) : HalingPort := { state := if s.portEnabled p then .training else .down }
  let base : Haling := {}
  let h := { base with
    portA := port 0, portB := port 1, roll := s.haling.roll, discarded := s.haling.discarded, hazardSets := s.haling.hazardSets
    tunnelsFailed := s.haling.tunnelsFailed }
  let s := (s.dropPort 0).dropPort 1
  if s.inGroup then
    (({ s with haling := { h with homeroom := s.seat, census := [s.seat], lastComplete := [s.seat] } }).leadTime).toRoll .forming
  else ({ s with haling := h }.leadTime).toRoll .standalone

/-- A port follows its enable bit (0x3900:3). -/
def State.settlePort (s : State) (p : Nat) : State :=
  if s.portEnabled p then (if s.portState p = .down then s.setPort p .training else s)
  else if s.portState p = .up then (((s.setPort p .down).raise 0x29 0 p 1).holdForLink).sendRoll
  else s.setPort p .down

/-- The running speed may have changed: RUNNING ramps to it, a halt recomputes its rest (R287, R50). -/
def State.settleSpeed (s : State) : State :=
  if s.tt.state = TTState.running then (if s.webDriven then s.webFollow else s)
  else if s.tt.state = TTState.reversing ∨ s.tt.state = TTState.waiting then s.settleRest else s

/-- What a stored value changes at once. -/
def State.settleWrite (s before : State) (index sub v : Nat) : State :=
  if index = 0x1016 then
    { s with can := { s.can with consumers := mapSet {} s.can.consumers sub {} } }
  else if 0x1800 ≤ index ∧ index ≤ 0x183F then
    { s with can := { s.can with tpdos := mapSet {} s.can.tpdos (index - 0x1800) {} } }
  else if 0x1400 ≤ index ∧ index ≤ 0x143F then
    { s with can := { s.can with rpdoWaiting := mapSet [] s.can.rpdoWaiting (index - 0x1400) [] } }
  else if 0x2900 ≤ index ∧ index ≤ 0x291F ∧ sub = 3 then
    s.modScanner (index - 0x2900) fun x => { x with signature := [], distinct := true }
  else if 0x2900 ≤ index ∧ index ≤ 0x291F ∧ (sub = 20 ∨ sub = 21) then s.settlePolygon (index - 0x2900)
  else if 0x2810 ≤ index ∧ index ≤ 0x2817 then s.settleJoins
  else if 0x3000 ≤ index ∧ index ≤ 0x303F ∧ sub = 13 then s.releaseSlots before
  else if 0x3100 ≤ index ∧ index ≤ 0x3117 ∧ sub = 5 ∧ bit v 63 then
    s.modChan (index - 0x3100) fun x => { x with state := .run, counted := false, bad := 0, lastWord := none, reading := none }
  else if index = 0x311F then (if sub = 4 then s.settleSpeed else s.releaseSlots before)
  else if 0x3400 ≤ index ∧ index ≤ 0x343F then
    if sub = 9 then s.releaseSlots before else if sub = 3 ∨ sub = 11 ∨ sub = 12 then s.settleHv (index - 0x3400) else s
  else if 0x3500 ≤ index ∧ index ≤ 0x351F then
    let z := index - 0x3500
    if sub = 11 then s.releaseSlots before
    else if sub = 13 ∧ (s.zone z).state = .setback then
      (s.modZone z fun x => { x with setpoint := realOr0 v }).modNamed (s.zoneSlot z) fun l => { l with setpoint := realOr0 v }
    else s
  else if index = 0x3900 then
    if sub = 3 then (s.settlePort 0).settlePort 1
    else if sub = 6 ∨ (sub = 1 ∧ s.inGroup) then s.settleMode else s
  else if index = 0x4000 ∧ sub = 7 then (upTo 4).foldl State.watchPair ((upTo 8).foldl State.rejudge s).dropPairs
  else if index = 0x4018 then
    { s with fuses := { s.fuses with
        targetIndex := if sub = 1 then v else s.fuses.targetIndex
        targetSub := if sub = 2 then v else s.fuses.targetSub
        value := if sub = 3 then v else s.fuses.value } }
  else if 0x4201 ≤ index ∧ index ≤ 0x4208 ∧ sub = 1 then
    -- A rail without a step has no SEQ_EN (Table 14-1).
    if v = 0 ∨ v = 6 then { s with power := { s.power with enables := setBit s.power.enables (index - 0x4201) false } } else s
  else if index = 0x4401 then { s with trace := { s.trace with readPos := v } }
  else s

/-! Commands of this chapter and of the balls. -/

/-- TRACE_ENABLE_WRITE (R469, R470): marker 4 when tracing starts; writing 1 also leaves detention. -/
def opTraceEnable (v : Nat) (s : State) : Except Abort State := do
  need (decide (v ≤ 1)) .invalid
  if v = 0 then .ok (s.traceTo false)
  else .ok (((({ s with trace := { s.trace with detained := false } }).undetain 0x34 0 0).traceTo true).errorReset)

def execTraceEnableWrite (v : Nat) (s : State) : State := command 0x4400 (opTraceEnable v) s

/-- ERROR_LIST_CLEAR (R457). -/
def opErrorListClear (v : Nat) (s : State) : Except Abort State := do
  need (decide (v = 0)) .invalid
  .ok { s with can := { s.can with errors := [] } }

def execErrorListClear (v : Nat) (s : State) : State := command 0x1003 (opErrorListClear v) s

/-- Signals and instances of an MFIO function (Table 17-6): instances, and highest signal. -/
def mfioShape : Nat → Nat × Nat × Nat
  | 0 => (0, 0, 0)
  | 1 => (0, 15, 5)
  | 2 => (0, 15, 2)
  | 3 => (16, 63, 1)
  | 4 => (16, 63, 3)
  | 5 => (0, 63, 1)
  | 6 => (0, 127, 0)
  | 7 => (0, 127, 0)
  | 8 => (0, 31, 0)
  | 9 => (0, 31, 0)
  | 10 => (0, 23, 5)
  | 11 => (0, 63, 0)
  | 12 => (0, 63, 0)
  | 13 => (0, 63, 0)
  | 14 => (0, 7, 0)
  | 15 => (0, 31, 0)
  | _ => (1, 0, 0)

/-- A function word is well formed: code, instance, signal and reserved bits (R505). -/
def mfioWordOk (w : Nat) : Bool :=
  let (lo, hi, sig) := mfioShape (bits w 31 24)
  let i := bits w 23 12
  let k := bits w 11 8
  decide (w < 2 ^ 32) && decide (bits w 7 0 = 0) && decide (lo ≤ i) && decide (i ≤ hi) && decide (k ≤ sig)
    && (decide (bits w 31 24 ≠ 10) || (if i < 16 then decide (k ≤ 3) else decide (4 ≤ k)))

/-- The unit of a function word is OFF, or not enabled (R506). -/
def State.mfioUnitOff (s : State) (w : Nat) : Bool :=
  let i := bits w 23 12
  match bits w 31 24 with
  | 0 => true
  | 1 => decide ((s.axis i).state = .off)
  | 2 => decide ((s.axis i).state = .off)
  | 3 => decide ((s.axis i).state = .off)
  | 4 => decide ((s.axis i).state = .off)
  | 5 => decide ((s.hvChan i).state = .off)
  | 8 => decide ((s.zone i).state = .off)
  | 9 => decide ((s.zone i).state = .off)
  | 10 => decide ((s.chan i).state = .off)
  | 11 => !bit (s.cmpCfg i) 63
  | 12 => !bit (s.cfg 0x3118 (i + 1)) 31
  | 13 => !bit (s.cfg 0x3118 (i + 1)) 31
  | 14 => !bit (s.cfg (0x3808 + i) 13) 4
  | 15 => decide ((s.scanner i).state = .off)
  | _ =>
    decide ((s.hvChan (i / 2)).state = .off)
      && (s.slotsL.all fun kv => !(kv.2.enabled && decide (slotDie kv.1 = i / 16) && decide (s.inputWord kv.1 = 2 * 2 ^ 24 + i % 16)))
      && (s.zones.all fun kv => decide (kv.2.state = .off) || !(decide (zoneDie kv.1 = i / 16)
            && decide (bits (s.cfg (0x3500 + kv.1) 6) 25 24 = 2) && decide (bits (s.cfg (0x3500 + kv.1) 6) 15 8 % 16 = i % 16)))

/-- Another ball carries the same code, instance and signal. -/
def State.mfioTaken (s : State) (n w : Nat) : Bool :=
  decide (bits w 31 24 ≠ 0) && s.od.any fun kv =>
    decide (0x5000 ≤ kv.1 / 256) && decide (kv.1 / 256 < 0x50E0) && decide (kv.1 % 256 = 1)
      && decide (kv.1 / 256 ≠ 0x5000 + n) && decide (kv.2.getD 0 = w)

/-- A write of sub-index 1 or 2 of an MFIO object (R503 to R506). A registration sensor takes its pull-up. -/
def opMfio (n sub v : Nat) (s : State) : Except Abort State := do
  need (decide (n < 224)) .noObject
  need (decide (sub = 1) || decide (sub = 2)) .noSub
  need (decide (192 ≤ n) || s.present (n / 24)) .noSuchUnit
  need (!(decide (sub = 1) && decide (192 ≤ n) && decide (n ≤ 207))) .writeOfRo
  let old := s.mfioWord n
  let w := if sub = 1 then v else old
  need s.preop .state
  if sub = 1 then
    need (mfioWordOk v) .invalid
    match mfioDie v with
    | none => .ok ()
    | some d =>
      need (decide (192 ≤ n) || decide (d = n / 24)) .invalid
      need (s.present d) .noSuchUnit
    need (!s.mfioTaken n v) .invalid
  else need (decide (v < 256) && !bit v 0 && decide (bits v 6 5 ≠ 3)) .invalid
  need ((decide (192 ≤ n) && decide (n ≤ 207)) || (s.mfioUnitOff old && s.mfioUnitOff w)) .state
  let s := s.setCfg (0x5000 + n) sub v
  if sub = 1 ∧ bits v 31 24 = 13 then
    let pad := s.cfg (0x5000 + n) 2
    .ok (s.setCfg (0x5000 + n) 2 (pad - bits pad 6 5 * 32 + 64))
  else .ok s

def execMfioFunctionWrite (n sub v : Nat) (s : State) : State := command (0x5000 + n) (opMfio n sub v) s

/-! Command objects. -/

/-- A value that is no command of the object. -/
def refused (index : Nat) (a : Abort) (s : State) : State := command index (fun _ => .error a) s

/-- The lane command word (Table 5-16). -/
def laneWord (v : Nat) (s : State) : State :=
  let image := bits v 27 24
  let scope := bits v 23 22
  let l := bits v 9 0
  let op := bits v 31 28
  if bits v 21 10 ≠ 0 ∨ op = 0 ∨ 4 < op ∨ (op ≠ 1 ∧ image ≠ 0) ∨ (scope = 3 ∧ l ≠ 0) then
    { (s.refuse .invalid) with laneResult := Abort.invalid.code }
  else match op with
    | 1 => execLaneLoad image scope l s
    | 2 => execLaneStart scope l s
    | 3 => execLaneStop scope l s
    | _ => execLaneRelease scope l s

/-- The flip request word (Table 6-6): a nonzero reserved field, a nonzero SEQ with WHEN other than 1 and a nonzero L with SCOPE 3 draw
what WHEN 3 draws (DESIGN CHOICE, log 38: the table says 0 there and names no answer). -/
def flipWord (v : Nat) (s : State) : State :=
  let scope := bits v 23 22
  let l := bits v 9 0
  let w := bits v 21 20
  let bad := decide (bits v 31 24 ≠ 0) || decide (bits v 19 10 ≠ 0) || (decide (w ≠ 1) && decide (bits v 63 32 ≠ 0))
    || (decide (scope = 3) && decide (l ≠ 0))
  s.flipObject (if bad then 3 else w) (bits v 63 32) scope l

/-- The effect of a write of a command object, by the row that the command has of its own; none for other objects. -/
def commandOf (index sub v : Nat) : Option (State → State) :=
  let pick (fs : List (State → State)) (a : Abort) : Option (State → State) :=
    some (if v = 0 then refused index a else fs.getD (v - 1) (refused index a))
  if index = 0x1003 ∧ sub = 0 then some (execErrorListClear v)
  else if index = 0x2100 ∧ sub = 1 then pick [execTimetableRun, execTimetableHalt, execTimetableEnd] .state
  else if index = 0x2101 ∧ sub = 2 then some (execNextOriginWrite (toSigned 64 v))
  else if 0x2110 ≤ index ∧ index ≤ 0x212F ∧ sub = 5 then
    pick [execDeclare (index - 0x2110), execWithdraw (index - 0x2110)] .invalid
  else if index = 0x2150 then some (execBandModeWrite (sub - 1) v)
  else if index = 0x2180 ∧ sub = 1 then some (execMasterWebEncoderWrite v)
  else if index = 0x2180 ∧ sub = 2 then some (execWebScaleWrite v)
  else if index = 0x2180 ∧ sub = 3 then some (execWebDirectionWrite v)
  else if index = 0x2180 ∧ sub = 5 then some (execWebPositionPreset (toSigned 64 v))
  else if index = 0x2183 then some (execPrintableWidthWrite (sub - 1) v)
  else if index = 0x2190 ∧ sub = 9 then pick [execNipOpen, execNipClose] .invalid
  else if index = 0x2500 ∧ sub = 1 then some (laneWord v)
  else if 0x2508 ≤ index ∧ index ≤ 0x250F ∧ sub = 17 then some (execApplyToneTable (index - 0x2508) v)
  else if index = 0x2800 ∧ sub = 1 then some (flipWord v)
  else if 0x2808 ≤ index ∧ index ≤ 0x280F ∧ sub = 14 then some (execApplyStitchSettings (index - 0x2808) v)
  else if 0x2900 ≤ index ∧ index ≤ 0x291F ∧ sub = 1 then
    let g := index - 0x2900
    pick [execScannerStart g, execScannerStop g, execScannerRelease g, execScannerRelearn g] .invalid
  else if 0x2A00 ≤ index ∧ index ≤ 0x2A1F ∧ sub = 1 then
    let g := index - 0x2A00
    pick [execLinkEnable g, execLinkDisable g, execLinkClear g] .invalid
  else if 0x3000 ≤ index ∧ index ≤ 0x303F ∧ sub = 1 then
    let a := index - 0x3000
    pick [execAxisEnable a, execAxisDisable a, execMove a, execJog a, execGear a, execAxisHalt a, execAxisStop a,
      execSetPosition a, execAxisClear a, execTension a] .invalid
  else if 0x3100 ≤ index ∧ index ≤ 0x3117 ∧ sub = 1 then
    let ch := index - 0x3100
    pick [execChannelClear ch, execChannelArm ch, execChannelSet ch] .invalid
  else if index = 0x311A then some (execCompareConfigWrite (sub - 1) v)
  else if 0x3200 ≤ index ∧ index ≤ 0x33FF ∧ sub = 1 then
    let j := index - 0x3200
    pick [execSlotEnable j, execSlotDisable j, execSlotSelectBank0 j, execSlotSelectBank1 j, execSlotClearFlags j] .invalid
  else if 0x3400 ≤ index ∧ index ≤ 0x343F ∧ sub = 1 then
    let h := index - 0x3400
    pick [execHvEnable h, execHvDisable h, execHvClear h] .invalid
  else if 0x3500 ≤ index ∧ index ≤ 0x351F ∧ sub = 1 then
    let z := index - 0x3500
    pick [execZoneStart z, execZoneStop z, execZoneClear z, execZoneSetback z, execZoneResume z] .invalid
  else if 0x3500 ≤ index ∧ index ≤ 0x351F ∧ sub = 12 then some (execFuserRunSetpointWrite (index - 0x3500) v)
  else if 0x3808 ≤ index ∧ index ≤ 0x380F ∧ (sub = 1 ∨ sub = 2) then some (execAuxPllConfigWrite (index - 0x3808) sub v)
  else if 0x3808 ≤ index ∧ index ≤ 0x380F ∧ sub = 13 then some (execOutputEnableWrite (index - 0x3808) v)
  else if 0x3808 ≤ index ∧ index ≤ 0x380F ∧ sub = 14 then some (execDividerCommit (index - 0x3808) v)
  else if index = 0x3908 ∧ sub = 6 then some (execTunnelSend v)
  else if index = 0x4000 ∧ sub = 3 then some (execHazardRelease v)
  else if index = 0x4008 ∧ sub = 1 then some (execSeal v)
  else if index = 0x4018 ∧ sub = 4 then some (execFuseProgram v)
  else if index = 0x4100 ∧ sub = 2 then some (execClearFaultLatch v)
  else if index = 0x4100 ∧ sub = 8 then some (execClearLog v)
  else if index = 0x4108 ∧ sub = 2 then pick [execInjectionArm, execInjectionCancel] .invalid
  else if index = 0x4200 ∧ sub = 1 then some (execStandby v)
  else if index = 0x4300 ∧ sub = 5 then pick [execHostAreaRead, execHostAreaProgram, execHostAreaErase] .invalid
  else if index = 0x4310 ∧ sub = 1 then some (execStoreSettings v)
  else if index = 0x4310 ∧ sub = 2 then some (execRestoreDefaults v)
  else if index = 0x4320 ∧ sub = 5 then pick [execConfirm, execRevert] .invalid
  else if index = 0x4330 ∧ sub = 1 then pick [execTransferBegin, execTransferCancel, execTransferVerify] .invalid
  else if index = 0x4400 ∧ sub = 1 then some (execTraceEnableWrite v)
  else if 0x5000 ≤ index ∧ index ≤ 0x50DF ∧ (sub = 1 ∨ sub = 2) then some (execMfioFunctionWrite (index - 0x5000) sub v)
  else none

/-! Whole objects. -/

/-- Entries of a compare append: 8-byte little-endian values. -/
def wordsOf : List Nat → List Int
  | a :: b :: c :: d :: e :: f :: g :: h :: rest => toSigned 64 (bytesNum [a, b, c, d, e, f, g, h]) :: wordsOf rest
  | _ => []

/-- A DOMAIN of stated length stored as it is. -/
def State.storeDomain (s : State) (index sub : Nat) (bs : List Nat) : Except Abort State := do
  if 0x2540 ≤ index ∧ index ≤ 0x257F then
    need (decide (bs.length ≤ 8192)) .lengthHigh
    need (decide (0x2560 ≤ index) || decide (bs.length % 4 = 0)) .lengthMismatch
    need (!s.imageRead (index % 16)) .state
  else if 0x3500 ≤ index ∧ index ≤ 0x351F then
    need (decide (bs.length = 132)) .lengthMismatch
    need (decide ((s.zone (index - 0x3500)).state = .off)) .state
    need (realsOk bs) .invalid
  else if index = 0x3908 then need (decide (bs.length ≤ 1000)) .lengthHigh
  else if index = 0x4220 then
    need (decide (bs.length = 24)) .lengthMismatch
    need (realsOk bs) .invalid
  else need (decide (1 ≤ bs.length) && decide (bs.length ≤ 256)) .lengthMismatch
  .ok (s.setDomain index sub bs)

/-- A write of a DOMAIN. -/
def State.writeDomain (s : State) (index sub : Nat) (bs : List Nat) : State :=
  if 0x2840 ≤ index ∧ index ≤ 0x285F then execDraftObjectWrite (laneOf (index - 0x2840) (sub - 1)) bs s
  else if index = 0x311D then
    if bs.length % 8 = 0 then execCompareAppend (sub - 1) (wordsOf bs) s else s.refuse .lengthMismatch
  else if index = 0x4330 then execPiece bs s
  else match s.storeDomain index sub bs with
    | .ok s1 => s1.accept index
    | .error a => s.refuse a

/-- A number of an object that no command of its own takes: stored, with what it changes at once. -/
def State.storeNumber (s : State) (o : Obj) (index sub v : Nat) : Except Abort State := do
  need (decide (o.cond = .any) || s.preop) .state
  need (o.valueOk v) .invalid
  s.ownCheck index sub v
  .ok ((s.setCfg index sub v).settleWrite s index sub v)

/-- Objects that the NMT state STOPPED does not shut: the images (R168), the lane command, whose own checks refuse it (R161), and the loop
slots but for their command (R328). -/
def openInStopped (index sub : Nat) : Bool :=
  (decide (0x3200 ≤ index) && decide (index ≤ 0x33FF) && decide (sub ≠ 1)) || (decide (0x2540 ≤ index) && decide (index ≤ 0x257F)) || (decide (index = 0x2500) && decide (sub = 1))

/-- The checks that every write has before its value is judged. -/
def State.writeCheck (s : State) (index sub : Nat) (bs : List Nat) : Except Abort Obj := do
  need (s.served index && indexListed index) .noObject
  need (decide (s.nmt.state ≠ .stopped) || openInStopped index sub) .state
  match findObj index sub with
  | none => .error .noSub
  | some o =>
    need (s.objPresent index sub true) .noSuchUnit
    need (decide (o.access ≠ .ro) && decide (o.access ≠ .const)) .writeOfRo
    need (decide (o.access ≠ .rws) || !s.sealed.on) .isSealed
    need (decide (o.ty = .dom) || decide (bs.length = o.ty.size)) .lengthMismatch
    need (decide (o.ty ≠ .dom) || decide (bs.length ≤ 8320) || (decide (0x2840 ≤ index) && decide (index ≤ 0x285F))) .lengthHigh
    .ok o

/-- A dictionary write by any path (R441). -/
def State.writeObject (s : State) (index sub : Nat) (bs : List Nat) : State :=
  match s.writeCheck index sub bs with
  | .error a => s.refuse a
  | .ok o =>
    if o.ty = .dom then s.writeDomain index sub bs
    else
      let v := bytesNum bs
      match commandOf index sub v with
      | some f => if o.ty = .f32 ∧ realBad v then s.refuse .invalid else f s
      | none =>
        match s.storeNumber o index sub v with
        | .ok s1 => s1.accept index
        | .error a => s.refuse a

end Sys2Proof.Machine
end

