-- ==== Sys2Proof/Machine/Paths.lean ====
section
/-! DEFINITION. The paths to the dictionary (R441, R442): USDO over CAN FD, the mirror in BAR0 (R455, R456), register
writes (R69 to R79, R97), the tunnel (R377), and the PDO, SYNC, TIME and heartbeat services (R443 to R460). -/

namespace Sys2Proof.Machine

/-! One access. -/

/-- Abort code of the last access, 0 where it was accepted. -/
def State.resultCode (s : State) : Nat := match s.resp with
  | some a => a.code
  | none => 0

/-- The dictionary answers: the lead die has left boot. -/
def State.answers (s : State) : Bool := s.nmt.booted

/-! USDO over CAN FD (R441 to R443). -/

/-- A controller carries the USDO server: controller 0, and controller 1 as a service interface. -/
def State.usdoServed (s : State) (ctrl : Nat) : Bool :=
  s.answers && (if ctrl = 0 then decide (s.can.ctrl0 ≠ .busOff)
    else decide (ctrl = 1) && decide (s.cfg 0x2001 6 = 1) && decide (s.can.ctrl1 ≠ .busOff))

/-- The response: abort code, and the bytes read. -/
def State.usdoAnswer (s : State) (ctrl : Nat) (data : List Nat) : State :=
  s.emit .usdo ctrl ((0x580 + s.nmt.node) :: s.resultCode :: data)

/-- A read, served whole. -/
def State.usdoRead (s : State) (ctrl index sub : Nat) : State :=
  let s := s.readObject index sub
  s.usdoAnswer ctrl s.answer

/-- A write on behalf of a path, and whether the flash manager has queued an operation for it: the path is then answered when
that completes (R477, R483, R486). -/
def State.writeFor (s : State) (who : Asker) (index sub : Nat) (bs : List Nat) : State × Bool :=
  let s1 := ({ s with flash := { s.flash with asker := who } }).writeObject index sub bs
  ({ s1 with flash := { s1.flash with asker := .direct } }, decide (s.flash.queue.length < s1.flash.queue.length))

/-- A write, served whole; a lane command is answered when it has completed (R162). -/
def State.usdoWrite (s : State) (ctrl index sub : Nat) (bs : List Nat) : State :=
  let r := s.writeFor (.usdo ctrl) index sub bs
  let s := if index = 0x2500 ∧ r.1.resp = none then r.1.advanceTo r.1.laneCmd.until_ else r.1
  if r.2 then s else s.usdoAnswer ctrl []

/-- USDO_REQUEST (R441). -/
def execUsdoRequest (ctrl index sub : Nat) (op : UsdoOp) (s : State) : State :=
  if s.usdoServed ctrl = false then s
  else match op with
    | .read => s.usdoRead ctrl index sub
    | .write bs => s.usdoWrite ctrl index sub bs
    | .begin bs => { s with usdo := mapSet none s.usdo ctrl (some { index, sub, bytes := bs, lastAt := s.timebase }) }
    | .unknown => (s.refuse .unknownCommand).usdoAnswer ctrl []

/-- USDO_SEGMENT (R442): the last one makes the write take effect. -/
def execUsdoSegment (ctrl : Nat) (bytes : List Nat) (last : Bool) (s : State) : State :=
  if s.usdoServed ctrl = false then s
  else match mapGet none s.usdo ctrl with
    | none => s
    | some u =>
      let all := u.bytes ++ bytes
      if last then ({ s with usdo := mapSet none s.usdo ctrl none }).usdoWrite ctrl u.index u.sub all
      else { s with usdo := mapSet none s.usdo ctrl (some { u with bytes := all, lastAt := s.timebase }) }

/-- USDO_TIMEOUT (R442): the transfer that has waited longest has waited 1 s. -/
def execUsdoTimeout (s : State) : State :=
  let waiting := s.usdo.filterMap fun kv => kv.2.map fun u => (kv.1, u.lastAt)
  match waiting with
  | [] => s
  | x :: xs =>
    let (c, t) := xs.foldl (fun m y => if y.2 < m.2 then y else m) x
    let s := s.advanceTo (t + ticksPerS)
    ({ s with usdo := mapSet none s.usdo c none, resp := some .usdoTimeout }).usdoAnswer c []

/-! The mirror (R455, R456). -/

def State.mirror (s : State) (n : Nat) : Mirror := mapGet {} s.mirrors n

def State.modMirror (s : State) (n : Nat) (f : Mirror → Mirror) : State := { s with mirrors := mapMod {} s.mirrors n f }

/-- Fields of REQUEST (Table 15-7); the reserved bits read 0. -/
def requestWord (index sub op len tag : Nat) : Nat :=
  index % 2 ^ 16 * 2 ^ 48 + sub % 2 ^ 8 * 2 ^ 40 + op % 2 ^ 4 * 2 ^ 36 + len % 2 ^ 14 * 2 ^ 16 + tag % 2 ^ 16

def maskRequest (v : Nat) : Nat := requestWord (bits v 63 48) (bits v 47 40) (bits v 39 36) (bits v 29 16) (bits v 15 0)

/-- An access completes: DATA of a read, STATUS, then the vector. -/
def State.mirrorComplete (s : State) (n : Nat) (data : List Nat) : State :=
  let m := s.mirror n
  let s := s.modMirror n fun m => { m with
    data := mapSetList 0 m.data 0 data, result := s.resultCode, length := data.length, busy := false, tag := m.started % 2 ^ 16 }
  if m.vectorOn then s.sendMsix m.vector else s

/-- Serve the access of a slot; it ends the lead die's recess (R434). -/
def State.mirrorServe (s : State) (n : Nat) : State :=
  let s := s.awake
  let r := (s.mirror n).started
  let index := bits r 63 48
  let sub := bits r 47 40
  match bits r 39 36 with
  | 1 =>
    let s := s.readObject index sub
    s.mirrorComplete n s.answer
  | 2 =>
    let w := s.writeFor (.mirror n) index sub (mapGetList 0 (s.mirror n).data 0 (bits r 29 16))
    if w.2 then w.1 else w.1.mirrorComplete n []
  | _ => (s.refuse .unknownCommand).mirrorComplete n []

/-- A write to the upper bytes of REQUEST starts an access with the value that results; before the lead die has left boot
it waits. -/
def State.mirrorStart (s : State) (n request : Nat) : State :=
  if (s.mirror n).busy then s.modMirror n fun m => { m with discarded := true }
  else
    let s := s.modMirror n fun m => { m with request := maskRequest request, started := maskRequest request, busy := true }
    if s.answers then s.mirrorServe n else { s with mirrorQueue := s.mirrorQueue ++ [n] }

/-- Serve what has waited, in order of arrival. -/
def State.mirrorsWaiting (s : State) : State :=
  s.mirrorQueue.foldl State.mirrorServe { s with mirrorQueue := [] }

/-- A whole start by the host: VECTOR, then REQUEST. A start while BUSY is discarded. -/
def State.mirrorAccess (s : State) (n request : Nat) (irq : Bool) (vector : Nat) : State :=
  if 2048 ≤ n then s
  else if (s.mirror n).busy then s.mirrorStart n request
  else (s.modMirror n fun m => { m with vectorOn := irq, vector := vector % 2048 }).mirrorStart n request

/-- MIRROR_READ (R456). -/
def execMirrorRead (n index sub : Nat) (irq : Bool) (vector tag : Nat) (s : State) : State :=
  s.mirrorAccess n (requestWord index sub 1 0 tag) irq vector

/-- MIRROR_WRITE (R456): the value is what DATA holds. -/
def execMirrorWrite (n index sub len : Nat) (irq : Bool) (vector tag : Nat) (s : State) : State :=
  s.mirrorAccess n (requestWord index sub 2 len tag) irq vector

/-! Register writes (R69 to R79). -/

/-- Bytes `o` on of an image, `size` of them, replaced by `v`. -/
def patchBytes (img o size v : Nat) : Nat :=
  let lo := 2 ^ (8 * o)
  let hi := 2 ^ (8 * (o + size))
  img / hi * hi + v % 2 ^ (8 * size) * lo + img % lo

/-- Bit `k` of a register is among the bytes written, and is written 1. -/
def writesOne (k o size v : Nat) : Bool := decide (8 * o ≤ k) && decide (k < 8 * (o + size)) && bit v (k - 8 * o)

/-- A write within a mirror slot (Table 15-6). -/
def State.mirrorWrite (s : State) (n o size v : Nat) : State :=
  let m := s.mirror n
  if o < 8 then
    let r := patchBytes m.request o size v
    if o + size = 8 then s.mirrorStart n r else s.modMirror n fun m => { m with request := maskRequest r }
  else if o < 16 then
    if writesOne 16 (o - 8) size v then s.modMirror n fun m => { m with discarded := false } else s
  else if o < 24 then
    let w := patchBytes (b2n m.vectorOn * 2 ^ 15 + m.vector) (o - 16) size v
    s.modMirror n fun m => { m with vectorOn := bit w 15, vector := w % 2048 }
  else if o < 64 then s.absent
  else if m.busy then s
  else s.modMirror n fun m => { m with data := mapSetList 0 m.data (o - 64) ((leBytes size v).map (·.toNat)) }

/-- A write of the MSI-X table: a pending vector leaves when its mask goes. -/
def State.msixWrite (s : State) (vec o size v : Nat) : State :=
  let e := s.msixEntry vec
  let w := patchBytes e.image o size v
  let masked := bit w 96
  let goes := e.pending && !masked && s.msixOpen
  let e' : MsixEntry := { addr := w % 2 ^ 64, data := bits w 95 64, masked, pending := e.pending && !goes }
  let s := { s with intake := { s.intake with msix := mapSet {} s.intake.msix vec e' } }
  if goes then s.sendMsix vec else s

/-- An access within the BAR0 control registers addresses a listed register: they lie at 0, 8, 0x10 and 0x18, and an access to the
4 bytes above one of them is to an unlisted offset (Table 3-3, R72). -/
def controlListed (o : Nat) : Bool := decide (o < 0x20) && decide (o % 8 = 0)

/-- A write of the BAR0 control registers (Tables 3-3, 3-4): the RW1C bits of INTAKE_STATUS. -/
def State.controlWrite (s : State) (o size v : Nat) : State :=
  if controlListed o = false then s.absent
  else if o = 8 then
    let one := fun k => writesOne k 0 size v
    { s with intake := { s.intake with
        flrSeen := s.intake.flrSeen && !one 3
        dbError := s.intake.dbError && !one 2
        absentAccess := s.intake.absentAccess && !one 1 } }
  else s

/-- A write of a ring table entry (Table 3-7): RWL fields while ENABLE is 0, then ENABLE. -/
def State.ringWrite (s : State) (q o size v : Nat) : State :=
  if s.ringPresent q = false then s.absent
  else if 16 ≤ o then
    if writesOne 201 o size v then s.modRing q fun r => { r with dbErr := false } else s
  else
    let r := s.ring q
    let img := r.base + r.order * 2 ^ 88 + r.format * 2 ^ 93 + r.channel * 2 ^ 95 + r.vector * 2 ^ 101 + b2n r.enable * 2 ^ 112
    let w := patchBytes img o size v
    let s := if r.enable then s
      else s.modRing q fun r => { r with
        base := w % 2 ^ 64, order := bits w 92 88, format := bits w 94 93, channel := bits w 100 95, vector := bits w 111 101 }
    if bit w 112 then s.enableRing q else s.disableRing q

/-- A write over BAR0. -/
def State.bar0Write (s : State) (o size v : Nat) : State :=
  if o < 0x10000 then s.controlWrite o size v
  else if o < 0x18000 then s.msixWrite ((o - 0x10000) / 16) (o % 16) size v
  else if o < 0x18100 then s
  else if 0x01000000 ≤ o ∧ o < 0x01080000 then
    let q := (o - 0x01000000) / 8
    if o % 8 = 0 then s.writeHostIndex q (v % 2 ^ 32) else if s.ringPresent q then s else s.absent
  else if 0x02000000 ≤ o ∧ o < 0x04000000 then s.mirrorWrite ((o - 0x02000000) / 0x4000) (o % 0x4000) size v
  else s.absent

/-- A write over BAR2 (Table 3-5). -/
def State.bar2Write (s : State) (o size v : Nat) : State :=
  if o < 0x00200000 then s.ringWrite (o / 32) (o % 32) size v
  else if 0x04000000 ≤ o ∧ o < 0x08000000 then execLaneMemoryWrite ((o - 0x04000000) / 0x10000) (o % 0x10000) size v s
  else if 0x08000000 ≤ o ∧ o < 0x0C000000 then execDraftWrite ((o - 0x08000000) / 0x10000) (o % 0x10000) size v s
  else s.absent

/-- A BAR write: 4 or 8 bytes, naturally aligned, or Unsupported Request (R69). -/
def State.barWrite (s : State) (bar o size v : Nat) : State :=
  match bar with
  | 0 => if 0x04000000 ≤ o then s else if barSizeOk o size then s.bar0Write o size v else s.unsupported 0 o size
  | 2 => if 0x40000000 ≤ o then s else if barSizeOk o size then s.bar2Write o size v else s.unsupported 2 o size
  | 4 => execDiagnosticStoreWrite o size v s
  | _ => s

/-! Register reads (R69 to R73). -/

/-- Bytes `o` on of an image, `size` of them. -/
def imageBytes (img o size : Nat) : List Nat := (upTo size).map fun k => img / 256 ^ (o + k) % 256

/-- STATUS of a mirror slot (Table 15-8). -/
def Mirror.status (m : Mirror) : Nat :=
  m.result * 2 ^ 32 + m.length % 2 ^ 14 * 2 ^ 18 + b2n m.busy * 2 ^ 17 + b2n m.discarded * 2 ^ 16 + m.tag % 2 ^ 16

/-- What a read within a mirror slot answers (Table 15-6); none at a reserved offset. -/
def State.mirrorBytes (s : State) (n o size : Nat) : Option (List Nat) :=
  let m := s.mirror n
  if o < 24 then
    some (imageBytes (m.request + m.status * 2 ^ 64 + (b2n m.vectorOn * 2 ^ 15 + m.vector) * 2 ^ 128) o size)
  else if o < 64 then none
  else some (mapGetList 0 m.data (o - 64) size)

/-- What a read of BAR0 answers (Tables 3-2, 3-3); none where it is absent, reserved or unlisted (R72). The upper 4 bytes of an
8-byte read of a control register are 0 (DESIGN CHOICE, log 37). -/
def State.bar0Bytes (s : State) (o size : Nat) : Option (List Nat) :=
  if o < 0x10000 then
    if controlListed o = false then none
    else
      let v := if o = 0 then s.variant.product else if o = 8 then s.intakeStatus else if o = 0x10 then s.intake.badCount else s.intake.eventDrops
      some (imageBytes v 0 size)
  else if o < 0x18000 then some (imageBytes (s.msixEntry ((o - 0x10000) / 16)).image (o % 16) size)
  else if o < 0x18100 then some (imageBytes (s.pendingWord ((o - 0x18000) / 8 * 64)) (o % 8) size)
  else if 0x01000000 ≤ o ∧ o < 0x01080000 then
    let q := (o - 0x01000000) / 8
    if s.ringPresent q then some (imageBytes (s.doorbellImage q) (o % 8) size) else none
  else if 0x02000000 ≤ o ∧ o < 0x04000000 then s.mirrorBytes ((o - 0x02000000) / 0x4000) (o % 0x4000) size
  else none

/-- What a read of BAR2 answers (Table 3-5); none where it is absent or reserved. -/
def State.bar2Bytes (s : State) (o size : Nat) : Option (List Nat) :=
  if o < 0x00200000 then (if s.ringPresent (o / 32) then some (imageBytes (s.ringEntry (o / 32)) (o % 32) size) else none)
  else if 0x04000000 ≤ o ∧ o < 0x08000000 then s.laneWindowBytes ((o - 0x04000000) / 0x10000) (o % 0x10000) size
  else if 0x08000000 ≤ o ∧ o < 0x0C000000 then s.knotWindowBytes ((o - 0x08000000) / 0x10000) (o % 0x10000) size
  else none

/-- The answer to a read: the bytes, or all ones with ABSENT_ACCESS (R72). -/
def State.barAnswer (s : State) (size : Nat) (r : Option (List Nat)) : State :=
  match r with
  | some bs => { s with answer := bs }
  | none => { s.absent with answer := List.replicate size 255 }

/-- A BAR read: 4 or 8 bytes, naturally aligned, or Unsupported Request (R69). -/
def State.barRead (s : State) (bar o size : Nat) : State :=
  match bar with
  | 0 =>
    if 0x04000000 ≤ o then s
    else if barSizeOk o size then s.barAnswer size (s.bar0Bytes o size) else s.unsupported 0 o size
  | 2 =>
    if 0x40000000 ≤ o then s
    else if barSizeOk o size then s.barAnswer size (s.bar2Bytes o size) else s.unsupported 2 o size
  | 4 => execDiagnosticStoreRead o size 0 s
  | _ => s

/-- BAR_ABSENT_ACCESS (R69, R72): a BAR access by its address. An absent, reserved or unlisted address reads all ones or discards
the write, and sets ABSENT_ACCESS. The table has no row for a read of a register that is present, so this row carries it too
(DESIGN CHOICE, log 37). -/
def execBarAbsentAccess (write : Bool) (bar offset size value : Nat) (s : State) : State :=
  if write then s.barWrite bar offset size value else s.barRead bar offset size

/-! The PCIe configuration space (Table 3-1, R97). -/

/-- Max_Payload_Size as the host programs it: 0 to 2 stand for 128, 256 and 512 bytes; at most 512 (R67, R97). -/
def payloadOf (v : Nat) : Nat := if v = 0 then 128 else if v = 1 then 256 else 512

/-- Max_Read_Request_Size: 128 bytes times a power of two, at most 4,096 (Table 3-1). -/
def readRequestOf (v : Nat) : Nat := 128 * 2 ^ min v 5

/-- Pending vectors that nothing masks any more leave (R91). -/
def State.sendPending (s : State) : State :=
  s.intake.msix.foldl (fun s kv =>
    if kv.2.pending && !kv.2.masked && s.msixOpen then
      ({ s with intake := { s.intake with msix := mapSet {} s.intake.msix kv.1 { kv.2 with pending := false } } }).sendMsix kv.1
    else s) s

/-- REGISTER_WRITE (R441). -/
def execRegisterWrite (target : RegTarget) (v : List Nat) (s : State) : State :=
  match target with
  | .object index sub => if s.answers then s.awake.writeObject index sub v else s
  | .bar bar offset size => s.barWrite bar offset size (bytesNum v)
  | .maxPayload => { s with intake := { s.intake with maxPayload := payloadOf (bytesNum v) } }
  | .maxReadRequest => { s with intake := { s.intake with maxReadRequest := readRequestOf (bytesNum v) } }
  | .tenBitTags => { s with intake := { s.intake with tenBitTags := bit (bytesNum v) 0 } }
  | .aspm => { s with intake := { s.intake with aspmL1 := bit (bytesNum v) 1 } }
  | .msixControl =>
    ({ s with intake := { s.intake with msixEnable := bit (bytesNum v) 1, functionMask := bit (bytesNum v) 0 } }).sendPending
  | .aerLog => { s with intake := { s.intake with aer := Nat.xor s.intake.aer (Nat.land s.intake.aer (bytesNum v)) } }

/-! The tunnel served here (R377). -/

def State.tunnelAnswer (s : State) (seat : Nat) (data : List Nat) : State :=
  s.unicast .tunnelRspFrame seat (s.resultCode :: data)

/-- A flash operation has completed: the path that asked for it is answered. -/
def State.answerAsker (s : State) : Asker → State
  | .direct => s
  | .usdo ctrl => if s.usdoServed ctrl then s.usdoAnswer ctrl [] else s
  | .mirror n => s.mirrorComplete n []
  | .tunnel seat => s.tunnelAnswer seat []

/-- TUNNEL_REQ (R377): served as the same access over CAN FD, and answered. -/
def execTunnelReq (port : Nat) (h : Header) (op index sub : Nat) (bytes : List Nat) (s : State) : State :=
  s.onUnicast .tunnelReqFrame port h ([op, index, sub] ++ bytes) fun s =>
    if s.answers = false ∨ s.flash.recovery then s
    else
      match op with
      | 1 =>
        let s1 := s.readObject index sub
        s1.tunnelAnswer h.src (if s1.resp = none then s1.answer else [])
      | 2 =>
        let w := s.writeFor (.tunnel h.src) index sub bytes
        if w.2 then w.1 else w.1.tunnelAnswer h.src []
      | _ => (s.refuse .unknownCommand).tunnelAnswer h.src []

/-! PDOs (R457, R459, R460). -/

/-- The bytes of a TPDO: its mapped values in order. -/
def State.tpdoBytes (s : State) (k : Nat) : List Nat :=
  (s.mapping (0x1A00 + k)).flatMap fun e =>
    match findObj (entryIndex e) (entrySub e) with
    | some o => s.objBytes o (entryIndex e) (entrySub e)
    | none => []

/-- A PDO is valid: bit 31 of its COB-ID is 0 and something is mapped. -/
def State.pdoValid (s : State) (comm map : Nat) : Bool := !bit (s.cfg comm 1) 31 && decide (s.cfg map 0 ≠ 0)

/-- TPDO k may be sent now. -/
def State.tpdoOn (s : State) (k : Nat) : Bool :=
  decide (k < 64) && s.pdoValid (0x1800 + k) (0x1A00 + k) && decide (s.nmt.state = .operational) && decide (s.can.ctrl0 ≠ .busOff)

def State.tpdo (s : State) (k : Nat) : Tpdo := mapGet {} s.can.tpdos k

def State.modTpdo (s : State) (k : Nat) (f : Tpdo → Tpdo) : State :=
  { s with can := { s.can with tpdos := mapMod {} s.can.tpdos k f } }

/-- Send TPDO k. -/
def State.sendTpdo (s : State) (k : Nat) : State :=
  let bs := s.tpdoBytes k
  let s := (s.modTpdo k fun x => { x with lastSent := some s.timebase, lastValue := bs }).emit .can 0
    (s.cfg (0x1800 + k) 1 % 2 ^ 29 :: bs)
  { s with freeCount := s.freeCount + 1 }

/-- TPDO_TRANSMIT (R459): an event-driven TPDO is sent when a mapped value has changed, after the inhibit time, and when
its event timer expires. -/
def execTpdoTransmit (k : Nat) (s : State) : State :=
  let x := s.tpdo k
  let timer := s.cfg (0x1800 + k) 5 * ticksPerMs
  if s.tpdoOn k = false ∨ s.cfg (0x1800 + k) 2 < 254 then s
  else if s.tpdoBytes k ≠ x.lastValue then
    match x.lastSent with
    | some t => (s.advanceTo (t + s.cfg (0x1800 + k) 3 * 100 * ticksPerUs)).sendTpdo k
    | none => s.sendTpdo k
  else match x.lastSent with
    | some t => if timer = 0 then s else (s.advanceTo (t + timer)).sendTpdo k
    | none => s

/-- A synchronous TPDO at a SYNC (R459): type 0 after a change, type n at every n-th SYNC, counted from the SYNC whose
counter is the start value where there is one. -/
def State.syncTpdo (s : State) (counter k : Nat) : State :=
  let n := s.cfg (0x1800 + k) 2
  let x := s.tpdo k
  let start := s.cfg (0x1800 + k) 6
  if s.tpdoOn k = false ∨ 240 < n then s
  else if n = 0 then (if s.tpdoBytes k = x.lastValue then s else s.sendTpdo k)
  else if x.syncCount = 0 ∧ start ≠ 0 ∧ s.cfg 0x1019 0 ≠ 0 ∧ counter ≠ start then s
  else
    let c := if x.syncCount = n then 1 else x.syncCount + 1
    let s := s.modTpdo k fun x => { x with syncCount := c }
    if c = n then s.sendTpdo k else s

/-- One entry of an RPDO as a dictionary write; none where it is refused. -/
def State.rpdoEntry (s : Option State) (e : Nat × List Nat) : Option State :=
  match s with
  | none => none
  | some s =>
    let s1 := s.writeObject (entryIndex e.1) (entrySub e.1) e.2
    if s1.resp = none then some s1 else none

/-- Entries of a mapping with the bytes of each; none where the frame is shorter. -/
def splitPdo : List Nat → List Nat → Option (List (Nat × List Nat))
  | [], _ => some []
  | e :: es, bs =>
    if bs.length < entryBytes e then none
    else (splitPdo es (bs.drop (entryBytes e))).map fun r => (e, bs.take (entryBytes e)) :: r

/-- An RPDO is discarded: counted, CAN cause 3 (R460). -/
def State.discardRpdo (s : State) : State :=
  ({ s with nmt := { s.nmt with rpdosDiscarded := wrapInc 32 s.nmt.rpdosDiscarded } }).raise 0x33 0 0 3

/-- An RPDO applied as one access, or discarded whole (R460). -/
def State.applyRpdo (s : State) (k : Nat) (bs : List Nat) : State :=
  let after := match splitPdo (s.mapping (0x1600 + k)) bs with
    | some es => es.foldl State.rpdoEntry (some s)
    | none => none
  match after with
  | some s1 => s1
  | none => s.discardRpdo

/-- RPDO k may be received now. -/
def State.rpdoOn (s : State) (k : Nat) : Bool :=
  decide (k < 64) && s.pdoValid (0x1400 + k) (0x1600 + k) && decide (s.nmt.state = .operational) && decide (s.can.ctrl0 ≠ .busOff)

/-- RPDO (R459, R460): types 0 to 240 wait for the next SYNC. -/
def execRpdo (k : Nat) (bytes : List Nat) (s : State) : State :=
  if s.rpdoOn k = false then s
  else if splitPdo (s.mapping (0x1600 + k)) bytes = none then s.discardRpdo
  else if s.cfg (0x1400 + k) 2 ≤ 240 then
    { s with can := { s.can with rpdoWaiting := mapSet [] s.can.rpdoWaiting k bytes } }
  else s.applyRpdo k bytes

/-- SYNC and TIME are consumed (Table 15-2). -/
def State.consumes (s : State) : Bool :=
  s.answers && decide (s.nmt.state ≠ .stopped) && decide (s.can.ctrl0 ≠ .busOff) && !s.flash.recovery

/-- SYNC_MESSAGE (R459): synchronous TPDOs take their values, then waiting RPDOs apply. -/
def execSyncMessage (counter : Nat) (s : State) : State :=
  if s.consumes = false then s
  else
    let s := { s with can := { s.can with syncCounter := counter } }
    if s.nmt.state = .operational then
      let s := (upTo 64).foldl (fun s k => s.syncTpdo counter k) s
      let waiting := s.can.rpdoWaiting
      waiting.foldl (fun s kv => if s.rpdoOn kv.1 then s.applyRpdo kv.1 kv.2 else s)
        { s with can := { s.can with rpdoWaiting := [] } }
    else s

/-- TIME_MESSAGE (R458): `t` is the timebase at the frame's start. -/
def execTimeMessage (value t : Nat) (s : State) : State :=
  if s.consumes = false ∨ bit (s.cfg 0x1012 0) 31 = false then s
  else
    let s := s.advanceTo t
    { s with can := { s.can with timeValue := value % 2 ^ 48, timeStamp := t } }

/-! Heartbeat (R443, R446). -/

/-- One heartbeat message, on every controller that carries the producer. -/
def State.sendHeartbeat (s : State) (code : Nat) : State :=
  let frame := [0x700 + s.nmt.node, code]
  let s := if s.can.ctrl0 = .busOff then s else s.emit .can 0 frame
  if s.cfg 0x2001 6 = 1 ∧ s.can.ctrl1 ≠ .busOff then s.emit .can 1 frame else s

/-- HEARTBEAT_SEND (R446); waiting EMCYs go out too once the inhibit time has passed. -/
def execHeartbeatSend (s : State) : State :=
  let s := s.drainEmcy 33
  if s.answers = false ∨ s.cfg 0x1017 0 = 0 then s else s.sendHeartbeat s.nmt.state.code

/-- HEARTBEAT_RECEIVED: consumers of that node hear it (0x1016). -/
def execHeartbeatReceived (node : Nat) (s : State) : State :=
  if s.answers = false ∨ s.can.ctrl0 = .busOff then s
  else
    let heard := (upTo 8).filter fun k => decide (bits (s.cfg 0x1016 (k + 1)) 23 16 = node) && decide (s.cfg 0x1016 (k + 1) % 65536 ≠ 0)
    heard.foldl (fun s k =>
      { s with can := { s.can with consumers := mapSet {} s.can.consumers (k + 1) { lastHeard := some s.timebase } } }) s

end Sys2Proof.Machine
end

