-- ==== Sys2Proof/Machine/Boot.lean ====
section
/-! DEFINITION. What the flash manager's operations do when they complete (R474 to R486), how stored values apply
(R27, R445, R466, R483), and the start of the part (R481, R487 to R494). -/

namespace Sys2Proof.Machine

/-! FLASH_OPERATION_COMPLETE (R474 to R486). -/

/-- The 256 bytes that a host read gives; those of a sector whose erase is suspended are free. -/
def State.hostRead (s : State) (a : Nat) : State :=
  let torn := match s.flash.inFlight with
    | some (.erase b n) => fun x => s.flash.suspended && decide (b ≤ x) && decide (x < b + n)
    | _ => fun _ => false
  ({ s with freeCount := s.freeCount + 256 }).setDomain 0x4300 6
    ((upTo 256).map fun k => if torn (a + k) then Config.freeNat (s.freeCount + k) % 256 else s.flash.byte (a + k))

/-- A device operation finishes with its status: one that is refused does nothing (R475, R476). -/
def State.finishStep (s : State) (x : FlashStep) : State :=
  let st := s.flash.stepStatus x
  if st ≠ 0 then s.setFlashStatus st
  else match x with
    | .read a => (s.hostRead a).setFlashStatus 0
    | x => ({ s with flash := s.flash.apply x }).setFlashStatus 0

/-- The device reports a failure (status 5, flash cause 2); its target is left undefined (log 30). -/
def State.failStep (s : State) (x : FlashStep) : State := ((s.tearStep x).setFlashStatus 5).raise 0x32 0 0 2

/-- An operation is done. After the last piece the part verifies what is staged (R486 step 3). -/
def State.finishFlash (s : State) (op : FlashOp) : State :=
  match op with
  | .begin _ => { s with flash := { s.flash with transfer := .receiving, rejection := 0 } }
  | .cancel => { s with flash := { s.flash with transfer := .empty, rejection := 0 } }
  | .piece _ _ =>
    if s.flash.complete ∧ s.flash.transfer = .receiving then
      { s with flash := { s.flash with transfer := .verifying, queue := { op := .judge } :: s.flash.queue } }
    else s
  | .judge => s.judgeStaged
  | .verify => { s.judgeStaged with resp := if s.judgeStaged.flash.transfer = .staged then none else some .imageVerification }
  | _ => s

/-- The head of the queue leaves it, done or with an abort, and who asked for it is answered. -/
def State.endFlashJob (s : State) (j : FlashJob) (rest : List FlashJob) (why : Option Abort) : State :=
  let s := { s with flash := { s.flash with queue := rest }, resp := why }
  (if why = none then s.finishFlash j.op else s).answerAsker j.asker

/-- What remains of an operation after one of its device operations has ended with the status that stands: the next one, or its end. A
host operation answers its status, any other that fails 0x0800_0022 (log 30). -/
def State.afterStep (s : State) (j : FlashJob) (rest : List FlashJob) (more : List FlashStep) : State :=
  if s.flash.lastStatus ≠ 0 then s.endFlashJob j rest (if j.op.isHost then none else some .state)
  else if more = [] then s.endFlashJob j rest none
  else { s with flash := { s.flash with queue := { j with steps := some more } :: rest } }

/-- FLASH_OPERATION_COMPLETE: the device operation in flight is done. An erase suspended for reads goes on after the last of them
(R474). In the grace period of a thermal shut-down it is the last one (R432, R478). -/
def execFlashOperationComplete (ok : Bool) (s : State) : State :=
  match s.flash.queue with
  | [] => s
  | j :: rest =>
    let s := match s.flash.stepsOf j with
      | .error a => s.endFlashJob j rest (some a)
      | .ok [] => s.endFlashJob j rest none
      | .ok (x :: more) => (if ok then s.finishStep x else s.failStep x).afterStep j rest more
    let s := { s with flash := { s.flash with suspended := s.flash.suspended && !s.flash.leadingReads.isEmpty } }
    if s.power.grace then s.dropFlash.thermalShutdown 5 else s

/-! Stored values (R483). -/

/-- Valid configuration records of the running format that apply: rws objects keep their values while sealed (R449). -/
def State.storedRecords (s : State) (sel : Nat → Bool) : List JRecord :=
  (s.flash.records fun r =>
      decide (r.cls = 1) && decide (r.format = s.flash.format) && sel (r.key / 256) && !(s.sealed.on && rwsKey r.key)).mergeSort fun a b => decide (a.key ≤ b.key)

/-- Station whose printable width and stitch settings a key belongs to (R27). -/
def stationKey (k : Nat) : Option Nat :=
  let i := k / 256
  let j := k % 256
  if 0x2808 ≤ i ∧ i ≤ 0x280F ∧ 1 ≤ j ∧ j ≤ 13 then some (i - 0x2808)
  else if i = 0x2183 ∧ 1 ≤ j ∧ j ≤ 8 then some (j - 1) else none

/-- One stored value applied as a write; none where it would be refused. -/
def State.applyRecord (s : State) (r : JRecord) : Option State :=
  match findObj (r.key / 256) (r.key % 256) with
  | none => none
  | some o =>
    if o.access = .rw ∨ o.access = .rws then
      let s1 := s.writeObject (r.key / 256) (r.key % 256) r.data
      if s1.resp = none then some s1 else none
    else none

/-- A stored number in the range of its object. -/
def recordOk (r : JRecord) : Bool :=
  match findObj (r.key / 256) (r.key % 256) with
  | some o => decide (r.data.length = o.ty.size) && o.valueOk (bytesNum r.data)
  | none => false

/-- With the LEGACY ball at 1, one scanner per station and at most 20,480 pixels (R466). -/
def State.legacyStation (s : State) (st : Nat) : State :=
  let s := s.setCfg (0x2808 + st) 1 1
  if 20480 < s.printable st then s.setCfg 0x2183 (st + 1) 20480 else s

/-- The stored width and stitch settings of a station applied as one set (R27); R107 holds once H_max is lowered (R108). -/
def State.applyStation (s : State) (st : Nat) (rs : List JRecord) : Option State :=
  let s1 := rs.foldl (fun s r => s.setCfg (r.key / 256) (r.key % 256) (bytesNum r.data)) s
  let s1 := if s.straps.legacy then s1.legacyStation st else s1
  if rs.all recordOk && s.present st && s1.stitchOk st (s1.staged st) (s1.printable st) then
    some { s1 with stitches := mapSet {} s1.stitches st (s1.staged st) }
  else none

/-- One item of what is stored: a value, or the set of a station. -/
def State.applyItem (s : State) (rs : List JRecord) : Option State :=
  match rs with
  | [] => some s
  | r :: _ => match stationKey r.key with
    | some st => s.applyStation st rs
    | none => s.applyRecord r

/-- Apply what can be applied, again while that lets more apply; what is left is refused. -/
def State.applyRounds : Nat → State → List (List JRecord) → State × List (List JRecord)
  | 0, s, items => (s, items)
  | n + 1, s, items =>
    let (s1, left) := items.foldl (fun (acc : State × List (List JRecord)) rs =>
      match acc.1.applyItem rs with
      | some s1 => (s1, acc.2)
      | none => (acc.1, acc.2 ++ [rs])) (s, [])
    if left.length = items.length then (s1, left) else State.applyRounds n s1 left

/-- A mapping object of a PDO. -/
def mappingKey (k : Nat) : Bool :=
  let i := k / 256
  (decide (0x1600 ≤ i) && decide (i ≤ 0x163F)) || (decide (0x1A00 ≤ i) && decide (i ≤ 0x1A3F))

/-- The stored mapping of one PDO, entries before their count, while its COB-ID counts as invalid (R459). -/
def State.applyMapping (acc : State × Nat) (index : Nat) (recs : List JRecord) : State × Nat :=
  let mine := recs.filter fun r => decide (r.key / 256 = index)
  let ordered := (mine.filter fun r => decide (r.key % 256 ≠ 0)) ++ mine.filter fun r => decide (r.key % 256 = 0)
  let comm := odKey (index - 0x200) 1
  let s := { acc.1 with od := mapSet none acc.1.od comm (some 0x80000000) }
  let (s, bad) := ordered.foldl (fun (a : State × Nat) r => match a.1.applyRecord r with
    | some s1 => (s1, a.2)
    | none => (a.1, a.2 + 1)) (s, acc.2)
  ({ s with od := mapSet none s.od comm none }, bad)

def traceKey : Nat := odKey 0x4400 1

def heightKey : Nat := odKey 0x2100 8

/-- The stored H_max as it is; legality lowers it afterwards (R108). -/
def State.applyHeight (s : State) (recs : List JRecord) : State :=
  match recs.find? fun r => decide (r.key = heightKey) && recordOk r with
  | some r => s.setCfg 0x2100 8 (bytesNum r.data)
  | none => s

/-- Stored values that LEGACY sets aside (R466). -/
def setAside (r : JRecord) : Bool :=
  (decide (0x2808 ≤ r.key / 256) && decide (r.key / 256 ≤ 0x280F) && decide (r.key % 256 = 1) && decide (bytesNum r.data ≠ 1))
    || (decide (r.key / 256 = 0x2183) && decide (20480 < bytesNum r.data))

/-- Flash cause 3, once for each stored value that does not apply. -/
def State.raiseSkipped (s : State) : Nat → State
  | 0 => s
  | n + 1 => (s.raise 0x32 0 0 3).raiseSkipped n

/-- Apply the stored values of the objects that `sel` takes. No write of it is traced. -/
def State.applyStored (s : State) (sel : Nat → Bool) : State :=
  let recs := s.storedRecords sel
  let trace := s.trace
  let s0 := { s with trace := { trace with on := false } }.applyHeight recs
  let maps := (recs.filter fun r => mappingKey r.key).map (·.key / 256)
  let (s1, bad1) := maps.eraseDups.foldl (fun a i => State.applyMapping a i recs) (s0, 0)
  let single := recs.filter fun r => !mappingKey r.key && decide (r.key ≠ traceKey) && decide (r.key ≠ heightKey) && (stationKey r.key).isNone
  let sets := (upTo 8).map fun st => recs.filter fun r => decide (stationKey r.key = some st)
  let items := (single.map fun r => [r]) ++ sets.filter fun rs => !rs.isEmpty
  let (s2, left) := State.applyRounds items.length s1 items
  let s2 := s2.applyHeight recs
  let aside := if s.straps.legacy then (recs.filter setAside).length else 0
  let on := match recs.find? fun r => decide (r.key = traceKey) with
    | some r => decide (bytesNum r.data ≠ 0)
    | none => true
  let s3 := { s2 with resp := none, trace }
  ((if sel 0x4400 then s3.traceTo on else s3).raiseSkipped (bad1 + left.length + aside))

/-- The stored values a start or a reset applies: none in recovery or where the straps ask for defaults (R490, R494), with tracing
on by its default then. -/
def State.storedValues (s : State) (sel : Nat → Bool) : State :=
  if s.flash.recovery ∨ (s.straps.boot1 ∧ !s.straps.boot0) then (if sel 0x4400 then s.traceTo true else s) else s.applyStored sel

/-- What a start and a reset node do once the stored values stand: LEGACY, legality and the place on the Haling link. -/
def State.settleStart (s : State) : State :=
  let s := if s.straps.legacy then
      s.presentDies.foldl (fun s st =>
        let s := s.legacyStation st
        { s with stitches := mapSet {} s.stitches st { s.stitch st with nc := 1 } }) s
    else s
  let s := s.settleLegality
  s.settleMode

/-- The node ID and the bit rates of 0x2001 take effect (R445). -/
def State.takeNode (s : State) : State :=
  let node := if s.cfg 0x2001 2 = 1 ∧ s.nmt.straps ≠ 0 then s.nmt.straps else s.cfg 0x2001 1
  { s with nmt := { s.nmt with node, nominal := s.cfg 0x2001 4, dataRate := s.cfg 0x2001 5 } }

/-- Boot-up message, then PRE-OPERATIONAL (R446). -/
def State.bootUp (s : State) : State := (s.sendHeartbeat 0).toNmt .preOperational

/-! The start (R481, R489 to R494). -/

/-- Of valid records that share CLASS, KEY and FORMAT, the earlier. -/
def earlierRecords : List JRecord → List JRecord
  | [] => []
  | r :: rs => if rs.any fun x => x.same r then r :: earlierRecords rs else earlierRecords rs

/-- An append-mark by boot ROM, which the manager refuses as any other (R475). -/
def Flash.markDown (f : Flash) (r : JRecord) : Flash :=
  if f.stepStatus (.mark r.addr 0xF8) = 0 then f.apply (.mark r.addr 0xF8) else f

/-- The journal scan: torn records and those with a bad CRC are superseded and counted, and the earlier of two valid ones is
superseded (R481). A record that is superseded already is not counted again (log 31). -/
def State.scanJournal (s : State) : State :=
  let bad := s.flash.journal.filter fun r => decide (r.state ≠ 0xF8) && (decide (r.state = 0xFE) || !r.crcGood)
  let f := bad.foldl Flash.markDown s.flash
  let f := (earlierRecords (f.records fun _ => true)).foldl Flash.markDown f
  let s := { s with flash := { f with torn := bad.length % 2 ^ 16 } }
  if bad = [] then s else s.raise 0x32 0 0 1

/-- The transfer as the transfer sector holds it, verified again once every piece is there (R487, R489). -/
def State.restoreTransfer (s : State) : State :=
  if s.flash.noTransfer then { s with flash := { s.flash with transfer := .empty } }
  else
    let s := { s with flash := { s.flash with transfer := .receiving } }
    if s.flash.complete then s.judgeStaged else s

/-- Install a staged image: COPYING, erase and copy, verify the copy, TRIAL with a count of 0, and the transfer is emptied (R489). -/
def State.installStaged (s : State) : State :=
  if s.flash.transfer ≠ .staged then s
  else
    let img := s.flash.imageAt stagingBase
    let k := if s.flash.boot.slot0 = .confirmed then 1 else 0
    let f := s.flash.setBoot (s.flash.boot.setSlot k .copying)
    let f := (f.wipe (slotBase k) ((imagePieces img + 15) / 16 * blockSize)).write (slotBase k) img
    if s.imageVerifies (f.slotImage k) then
      let f := f.setBoot { f.boot.setSlot k .trial with count := 0, held := false }
      { s with flash := { f.wipe transferSector 4096 with transfer := .empty, rejection := 0, installed := imagePieces img } }
    else { s with flash := f }

/-- Set a slot FAILED and record it. -/
def State.failSlot (s : State) (k cause : Nat) : State :=
  ({ s with flash := s.flash.setBoot (s.flash.boot.setSlot k .failed) }).raise 0x32 0 0 cause

/-- No image runs: recovery (R494). -/
def State.toRecovery (s : State) : State := { s with flash := { s.flash with running := none, recovery := true } }

/-- The image of a slot runs. -/
def State.runSlot (s : State) (k : Nat) : State :=
  { s with flash := { s.flash with running := some k, recovery := false, format := imageFormat (s.flash.bytes (slotBase k) 256) } }

/-- The slot that Table 16-5 chooses, with TRIAL slots counted only where the straps let them run. A count held at 0 stays 0
(R491). -/
def State.chooseSlot (trials : Bool) : Nat → State → State
  | 0, s => (s.raise 0x32 0 0 7).toRecovery
  | n + 1, s =>
    let next (k : Nat) (s1 : State) : State :=
      if s.imageVerifies (s.flash.slotImage k) then s1.runSlot k else State.chooseSlot trials n (s.failSlot k 4)
    match s.flash.slotIn .trial, s.flash.slotIn .confirmed, s.flash.slotIn .previous with
    | some k, c, p =>
      if trials = true then
        let b := s.flash.boot
        if b.count < 3 then next k { s with flash := s.flash.setBoot { b with count := if b.held then 0 else b.count + 1 } }
        else State.chooseSlot trials n (s.failSlot k 6)
      else match c, p with
        | some j, _ => next j s
        | none, some j => next j s
        | none, none => (s.raise 0x32 0 0 7).toRecovery
    | none, some j, _ => next j s
    | none, none, some j => next j s
    | none, none, none => (s.raise 0x32 0 0 7).toRecovery

/-- A TRIAL image that finds no record of its own format converts those of the CONFIRMED image (R492). -/
def State.convertRecords (s : State) : State :=
  match s.flash.runningTrial, s.flash.slotIn .confirmed with
  | some _, some c =>
    let f := s.flash
    if (f.records fun r => decide (r.cls = 1) && decide (r.format = f.format)) ≠ [] then s
    else
      let old := f.records fun r => decide (r.cls = 1) && decide (r.format = imageFormat (f.bytes (slotBase c) 256))
      { s with flash := old.foldl (fun f r => ((({ flash := f } : FlashPlan).put { r with format := f.format }).map (·.flash)).getD f) f }
  | _, _ => s

/-- Nothing runs yet, and the parameter table gives the capacity (R472). -/
def State.readParameters (s : State) : State :=
  { s with flash := { s.flash with
      capacity := s.flash.device.capacity, running := none, recovery := false, installed := 0, reached := false } }

/-- Boot ROM: the parameter table, and with a usable device the journal, the transfer, install and choice. -/
def State.bootImage (s : State) : State :=
  let s := s.readParameters
  if s.flashUsable = false then (((s.raise 0x32 0 0 5).raise 0x32 0 0 7).toRecovery)
  else
    let s := s.scanJournal.restoreTransfer
    let plain := !s.straps.boot0 && !s.straps.boot1
    let s := if plain then s.installStaged else s
    if s.straps.boot0 ∧ s.straps.boot1 then s.toRecovery
    else (State.chooseSlot plain 4 s).convertRecords

/-- Training of the memory channels that are fitted (R98, R99): whether a channel trains is open; density and ranks are read from
the devices. -/
def State.trainChannels (s : State) : State :=
  (upTo s.variant.channels).foldl (fun s c =>
    let ok := Config.channelTrains c s.freeCount
    { s with
      freeCount := s.freeCount + 1
      store := { s.store with channels := mapMod {} s.store.channels c fun x =>
        { x with untrained := !ok, gb := x.deviceGb, ranks := x.deviceRanks } } }) s

/-- Raise a fault that an earlier run left to this start. -/
def State.raiseStart (s : State) (code : Nat) : State := s.raise (codeUnit code) (codeDie code) (codeInst code) (codeCause code)

/-- Fuse fields whose copies disagree: guard rail cause 2 (R394). -/
def State.readFuses (s : State) : State :=
  s.fuses.fields.foldl (fun s kv =>
    if kv.2.copyA = kv.2.copyB then s
    else
      let die := match fuseField (kv.1 / 256) (kv.1 % 256) with
        | some (d, _) => d
        | none => 0
      let s := s.raise 0x02 die (7 * 128) 2
      s.detainUnit 0x02 die (7 * 128) (codeOf 0x02 die (7 * 128) 2)) s

/-- BOOT (R490): once the part is powered and PORn is high. -/
def execBoot (s : State) : State :=
  if s.nmt.booted ∨ s.powered = false then s
  else
    let s := { s with nmt := { s.nmt with booted := true, state := .preOperational, pending := .none } }
    let s := s.trainChannels.bootImage
    let s := s.storedValues fun _ => true
    let s := { s with store := { s.store with rate := s.cfg 0x2300 3 } }
    let s := (s.settleStart.takeNode).bootUp
    let codes := s.power.startCodes
    let s := codes.foldl State.raiseStart { s with power := { s.power with startCodes := [] } }
    s.readFuses.mirrorsWaiting

end Sys2Proof.Machine
end

