-- ==== Sys2Proof/Machine/NmtOps.lean ====
section
/-! DEFINITION. The NMT state machine: requests and their deferral, reset node, reset communication, and what the CAN
errors ask for (R446 to R450, R471). -/

namespace Sys2Proof.Machine

/-! Reset node (R449, R518). -/

/-- Every enabled ring is reset with WITHDRAWN completions (R518). -/
def State.resetRings (s : State) : State := (s.intake.rings.map (·.1)).foldl State.disableRing s

/-- Everything at its power-up state, but for what R449 excepts. -/
def State.clearNode (s : State) : State :=
  let base : State := {}
  { base with
    pending := s.pending
    resp := s.resp
    answer := s.answer
    out := s.out
    freeCount := s.freeCount
    variant := s.variant
    timebase := s.timebase
    od := s.od.filter fun kv => standbyKey kv.1 || (s.sealed.on && rwsKey kv.1)
    web := { s.web with frozen := false }
    record := s.record
    chans := mapEach {} s.chans fun _ x => { a := x.a, b := x.b, position := x.position }
    clocks := s.clocks
    power := s.power
    thermal := s.thermal
    flash := s.flash
    straps := s.straps
    jtag := s.jtag
    intake := { base.intake with
      linkSpeed := s.intake.linkSpeed, linkWidth := s.intake.linkWidth, linkUp := s.intake.linkUp
      maxPayload := s.intake.maxPayload, maxReadRequest := s.intake.maxReadRequest, tenBitTags := s.intake.tenBitTags
      aspmL1 := s.intake.aspmL1, msixEnable := s.intake.msixEnable, functionMask := s.intake.functionMask, aer := s.intake.aer
      msix := s.intake.msix }
    store := { base.store with
      channels := s.store.channels, cells := s.store.cells, rasterIn := s.store.rasterIn, rate := s.store.rate
      mismatches := s.store.mismatches
      corrected := s.store.corrected, uncorrectable := s.store.uncorrectable }
    hazard := s.hazard
    sealed := s.sealed
    fuses := { s.fuses with targetIndex := 0, targetSub := 0, value := 0 }
    faults := { s.faults with detained := s.faults.detained.filter guardDetention }
    dies := s.dies
    nmt := { base.nmt with node := s.nmt.node, straps := s.nmt.straps, nominal := s.nmt.nominal, dataRate := s.nmt.dataRate }
    can := { base.can with errorShown := s.can.errorShown }
    mirrors := s.mirrors
    mirrorQueue := s.mirrorQueue
    trace := { s.trace with readPos := 0, detained := false } }

/-- Every line that is being sent is aborted: its scanner goes to its power-up state. -/
def State.stopOutputs (s : State) : State := (upTo 32).foldl State.abortLine s

/-- NMT reset node (R449): then boot-up and PRE-OPERATIONAL. -/
def State.resetNode (s : State) : State :=
  let s := ((s.stopOutputs.resetRings.clearNode).rebase).storedValues fun _ => true
  ((s.settleStart.takeNode).bootUp).errorReset

/-- NMT reset communication: objects 0x1000 to 0x1FFF return to their stored values, 0x2001 stays (R445, R447, R483). -/
def State.resetCommunication (s : State) : State :=
  let base : Can := {}
  let s := { s with
    od := s.od.filter fun kv => decide (0x2000 ≤ kv.1 / 256)
    can := { base with
      ctrl0 := s.can.ctrl0, ctrl1 := s.can.ctrl1, errorShown := s.can.errorShown
      timeValue := s.can.timeValue, timeStamp := s.can.timeStamp }
    usdo := []
    nmt := { s.nmt with state := .preOperational, pending := .none } }
  let s := s.takeNode
  (s.storedValues fun i => decide (i < 0x2000)).bootUp

/-! Deferral (R447). -/

/-- The job ends for a pending transition: no further commit; committed panels complete, with a restart where one waits;
then as END. A member leaves the phases to the part that drives them. -/
def State.concludeJob (s : State) : State :=
  let none_ := decide (s.slotsWhere SlotState.isCommitted = [])
  if s.leadsPhases = false then s
  else match s.tt.state with
    | .running => s.beginEnding
    | .halting => s.enterTT .ending
    | .reversing =>
      if none_ then
        (({ s with tt := { s.tt with decelerating := true } }).enterTT .ending).webDecelerate
      else s
    | .waiting =>
      if none_ then
        if s.tt.corrective = .moving then
          (({ s with tt := { s.tt with decelerating := true, corrective := .none } }).enterTT .ending).webDecelerate
        else s.enterIdle
      else s
    | _ => s

/-- The timetable is IDLE or STOPPED: a transition is made at once. -/
def State.jobOver (s : State) : Bool := decide (s.tt.state = .idle) || decide (s.tt.state = .stopped)

/-- Make a transition. -/
def State.makeNmt (s : State) (x : NmtPending) : State :=
  let s := { s with nmt := { s.nmt with pending := .none } }
  match x with
  | .none => s
  | .stop => if s.nmt.state = .stopped then s else s.toNmt .stopped
  | .preOperational => if s.nmt.state = .preOperational then s else s.toNmt .preOperational
  | .resetNode => s.resetNode

/-- A stop, enter pre-operational or reset node request: made, or deferred until the job has ended. -/
def State.askNmt (s : State) (x : NmtPending) : State :=
  if s.nmt.booted = false then s
  else if s.jobOver then s.makeNmt x
  else ({ s with nmt := { s.nmt with pending := x } }).concludeJob

/-! The NMT commands. -/

/-- The TRIAL image that runs has reached OPERATIONAL: its count is 0 from now on (R491), by a boot record that joins the queue. -/
def State.trialReached (s : State) : State :=
  if s.flash.runningTrial = none ∨ s.flash.reached then s
  else
    let s := { s with flash := { s.flash with reached := true } }
    if s.flashTakes ∧ !s.flash.boot.held then s.queueFlash .hold else s

/-- NMT_START (R447, R448): refused unsealed or with a fatal fault latched; it cancels a pending transition. -/
def execNmtStart (s : State) : State :=
  if s.nmt.booted = false then s
  else if s.sealed.on = false then { s with nmt := { s.nmt with refusal := 1 } }
  else if s.faults.fatal then { s with nmt := { s.nmt with refusal := 2 } }
  else
    let s := { s with nmt := { s.nmt with pending := .none } }
    if s.nmt.state = .operational then s
    else ({ s with can := { s.can with tpdos := [], rpdoWaiting := [] } }.toNmt .operational).trialReached

/-- NMT_STOP (R447). -/
def execNmtStop (s : State) : State := s.askNmt .stop

/-- NMT_ENTER_PRE_OPERATIONAL (R447). -/
def execNmtEnterPreOperational (s : State) : State := s.askNmt .preOperational

/-- NMT_RESET_NODE (R449). -/
def execNmtResetNode (s : State) : State := s.askNmt .resetNode

/-- NMT_RESET_COMMUNICATION (R445, R447): at once in every state. -/
def execNmtResetCommunication (s : State) : State :=
  if s.nmt.booted = false then s else s.resetCommunication

/-- NMT_DEFERRED_TRANSITION (R447): the timetable has reached IDLE. -/
def execNmtDeferredTransition (s : State) : State :=
  if s.nmt.pending ≠ .none ∧ s.tt.state = .idle then s.makeNmt s.nmt.pending else s

/-! CAN errors (R450, R471). -/

/-- Communication error behaviour (0x1029:1, R450). -/
def State.communicationError (s : State) : State :=
  match s.cfg 0x1029 1 with
  | 0 => if s.nmt.state = .operational then s.askNmt .preOperational else s
  | 2 => if s.nmt.state = .stopped then s else s.askNmt .stop
  | _ => s

/-- Error state of a controller. -/
def State.canState (s : State) (c : Nat) : CanState := if c = 0 then s.can.ctrl0 else s.can.ctrl1

def State.setCan (s : State) (c : Nat) (x : CanState) : State :=
  if c = 0 then { s with can := { s.can with ctrl0 := x } } else { s with can := { s.can with ctrl1 := x } }

/-- The controller runs: controller 0, and controller 1 as a service interface. -/
def State.canRuns (s : State) (c : Nat) : Bool :=
  s.nmt.booted && (decide (c = 0) || (decide (c = 1) && decide (s.cfg 0x2001 6 = 1)))

/-- CAN_BUS_OFF (R450). -/
def execCanBusOff (ctrl : Nat) (s : State) : State :=
  if s.canRuns ctrl = false ∨ s.canState ctrl = .busOff then s
  else
    let s := (s.setCan ctrl .busOff).raise 0x33 0 ctrl 2
    if ctrl = 0 then s.communicationError else s

/-- CAN_ERROR_PASSIVE (R471). -/
def execCanErrorPassive (ctrl : Nat) (s : State) : State :=
  if s.canRuns ctrl = false ∨ s.canState ctrl ≠ .active then s
  else (s.setCan ctrl .passive).raise 0x33 0 ctrl 1

/-- BUS_OFF_RECOVERY (R471): back to error active; waiting EMCYs leave. -/
def execBusOffRecovery (ctrl : Nat) (s : State) : State :=
  if s.canRuns ctrl = false ∨ s.canState ctrl = .active then s
  else (s.setCan ctrl .active).drainEmcy 33

/-- HEARTBEAT_TIMEOUT (R450): consumer k has not heard its node for its time; monitoring begins with a first heartbeat. -/
def execHeartbeatTimeout (k : Nat) (s : State) : State :=
  let x := mapGet {} s.can.consumers k
  let w := s.cfg 0x1016 k
  match x.lastHeard with
  | none => s
  | some t =>
    if s.nmt.booted = false ∨ k = 0 ∨ 8 < k ∨ w % 65536 = 0 ∨ x.timedOut then s
    else
      let s := s.advanceTo (t + w % 65536 * ticksPerMs)
      let s := { s with can := { s.can with consumers := mapSet {} s.can.consumers k { x with timedOut := true } } }
      (s.raise 0x33 0 0 4).communicationError

end Sys2Proof.Machine
end

