-- ==== Sys2Proof/Machine/Balls.lean ====
section
/-! DEFINITION. PORn, RSTn, the straps and the JTAG port (R445, R493, R508, R513). -/

namespace Sys2Proof.Machine

/-! Reset (R513). -/

/-- PORN: the level of PORn; the straps are sampled where it rises. PORn low resets everything outside the standby domain
but what a power cycle clears, and the next start reports reset cause 1. -/
def execPorn (high legacy boot0 boot1 : Bool) (s : State) : State :=
  if high then
    if s.straps.porLow then { s with straps := { legacy, boot0, boot1, porLow := false } } else s
  else if s.straps.porLow then s
  else
    let s := if s.power.seq = .on ∨ s.power.seq = .shutDown then
        let s := (s.lose true).recover true
        { s with power := { s.power with resetCause := 1 } }
      else s
    { s with straps := { s.straps with porLow := true } }

/-- RSTN: a falling edge is one NMT reset node request; PORn low takes precedence. -/
def execRstn (s : State) : State := if s.straps.porLow then s else s.askNmt .resetNode

/-- STRAP_SAMPLE (R445): MFIO216 to MFIO222, 10 microseconds after PORn rises. -/
def execStrapSample (levels : Nat) (s : State) : State :=
  if s.straps.porLow ∨ s.nmt.booted then s else { s with nmt := { s.nmt with straps := levels % 128 } }

/-! JTAG (R508). -/

/-- The state that follows in the IEEE 1149.1 TAP controller. -/
def Tap.next : Tap → Bool → Tap
  | .reset, false => .idle
  | .reset, true => .reset
  | .idle, false => .idle
  | .idle, true => .selectDr
  | .selectDr, false => .captureDr
  | .selectDr, true => .selectIr
  | .captureDr, false => .shiftDr
  | .captureDr, true => .exit1Dr
  | .shiftDr, false => .shiftDr
  | .shiftDr, true => .exit1Dr
  | .exit1Dr, false => .pauseDr
  | .exit1Dr, true => .updateDr
  | .pauseDr, false => .pauseDr
  | .pauseDr, true => .exit2Dr
  | .exit2Dr, false => .shiftDr
  | .exit2Dr, true => .updateDr
  | .updateDr, false => .idle
  | .updateDr, true => .selectDr
  | .selectIr, false => .captureIr
  | .selectIr, true => .reset
  | .captureIr, false => .shiftIr
  | .captureIr, true => .exit1Ir
  | .shiftIr, false => .shiftIr
  | .shiftIr, true => .exit1Ir
  | .exit1Ir, false => .pauseIr
  | .exit1Ir, true => .updateIr
  | .pauseIr, false => .pauseIr
  | .pauseIr, true => .exit2Ir
  | .exit2Ir, false => .shiftIr
  | .exit2Ir, true => .updateIr
  | .updateIr, false => .idle
  | .updateIr, true => .selectDr

/-- IDCODE (R508). -/
def State.idcode (s : State) : Nat :=
  Config.steppingCode % 16 * 2 ^ 28 + (0x5900 + s.variant.dies) * 2 ^ 12 + 0x2A7 * 2 + 1

/-- What the rising edge does in the state that it finds. -/
def State.tapAct (s : State) (tdi : Bool) : Jtag :=
  let j := s.jtag
  match j.tap with
  | .captureDr => match j.instr with
    | .idcode => { j with dr := s.idcode, drLen := 32 }
    | .bypass => { j with dr := 0, drLen := 1 }
    | .other => { j with dr := 0, drLen := 0 }
  | .shiftDr => if j.drLen = 0 then j else { j with dr := j.dr / 2 + b2n tdi * 2 ^ (j.drLen - 1) }
  | .captureIr => { j with ir := [] }
  | .shiftIr => { j with ir := tdi :: j.ir }
  | _ => j

/-- What the state entered does: Test-Logic-Reset selects IDCODE, Update-IR the instruction shifted in. The codes of the
instructions are not given: all ones is BYPASS, any other one of them. -/
def Jtag.enter (j : Jtag) (t : Tap) : Jtag :=
  match t with
  | .reset => { j with tap := t, instr := .idcode }
  | .updateIr => { j with tap := t, instr := if j.ir ≠ [] ∧ j.ir.all id then .bypass else .other }
  | _ => { j with tap := t }

/-- The bit that TDO shows in a shift state: that of the data register of IDCODE or BYPASS, or the capture pattern 01 of
the instruction register; open otherwise. -/
def State.tdoBit (s : State) : Option Nat :=
  match s.jtag.tap with
  | .shiftDr => some (if s.jtag.drLen = 0 then Config.freeNat s.freeCount % 2 else s.jtag.dr % 2)
  | .shiftIr => some (match s.jtag.ir.length with
    | 0 => 1
    | 1 => 0
    | _ => Config.freeNat s.freeCount % 2)
  | _ => none

/-- TCK_EDGE (R508): a rising edge with TMS and TDI, and TDO after the falling edge. No cell of a LASER_EN ball or of an HV
or fuser gate is driven by it. -/
def execTckEdge (tms tdi : Bool) (s : State) : State :=
  if s.power.seq = .standby then s
  else
    let s := { s with jtag := (s.tapAct tdi).enter (s.jtag.tap.next tms) }
    match s.tdoBit with
    | some b => { s.emit .tdo 0 [b] with freeCount := s.freeCount + 1 }
    | none => s

end Sys2Proof.Machine
end

