-- ==== Sys2Proof/Machine/Fetch.lean ====
section
/-! DEFINITION. DESCRIPTOR_FETCH: the descriptor at CONSUMER is read, checked for its ring's kind, and taken, run,
completed or left waiting (R80 to R83, R88, R92, R124, R194, R290). -/

namespace Sys2Proof.Machine

/-- A head descriptor of a kind with a buffer or a command of its own: taken, or DESC_ERROR. -/
def State.takeHead (s : State) (q : Nat) (ok : Bool) : State :=
  if ok then s.beginTransfer q else s.completeHead q 4 0

/-- Judge the head of ring q by the kind of the ring. -/
def State.judgeHead (s : State) (q d : Nat) : State :=
  match s.ringKind q with
  | 1 => s.judgeRaster q
  | 2 => s.takeHead q (s.jobOk q d)
  | 3 => s.takeHead q (knotOk q d)
  | 4 =>
    if s.motionOk q d ∧ descOp d ≠ 0x4B then s.runMotion q d else s.takeHead q (s.motionOk q d)
  | _ => s

/-- DESCRIPTOR_FETCH: `desc` holds the 512 bits read, none where the read failed (DESC_FETCH). A raster descriptor that
waits at the head is judged again; it is not read twice (R80). A ring is served in its turn only (R92). -/
def execDescriptorFetch (q : Nat) (desc : Option Nat) (s : State) : State :=
  if s.fetchable q = false ∨ s.ringTurn q = false then s
  else match (s.ring q).head with
    | some h => if h.moving then s else (s.servedRing q).judgeHead q h.raw
    | none =>
      match desc with
      | none => ((s.servedRing q).logAer 3).completeHead q 10 0
      | some d =>
        let raw := d % 2 ^ 512
        ((s.servedRing q).modRing q fun r => { r with head := some { raw } }).judgeHead q raw

end Sys2Proof.Machine
end

