-- ==== Sys2Proof/Machine/LaneIsa.lean ====
section
/-! DEFINITION. The lane operations of Table 5-13, one definition each. A command names the lane and the fields of
the instruction; it takes effect where the lane's program runs and the word at its PC is that instruction. -/

namespace Sys2Proof.Machine

def execNop (lane : Nat) (s : State) : State := s.laneStep lane 0 1 id

def execAdd (lane sd sa sb : Nat) (s : State) : State := s.scalarOp lane 0x01 sd sa sb 1 (· + ·)

def execSub (lane sd sa sb : Nat) (s : State) : State := s.scalarOp lane 0x02 sd sa sb 1 (· - ·)

def execAnd (lane sd sa sb : Nat) (s : State) : State := s.scalarOp lane 0x03 sd sa sb 1 (· &&& ·)

def execOr (lane sd sa sb : Nat) (s : State) : State := s.scalarOp lane 0x04 sd sa sb 1 (· ||| ·)

/-- The shift count is SB[4:0]. -/
def execShl (lane sd sa sb : Nat) (s : State) : State :=
  s.scalarOp lane 0x05 sd sa sb 1 fun a b => a <<< (b.toNat % 32)

def execShr (lane sd sa sb : Nat) (s : State) : State :=
  s.scalarOp lane 0x06 sd sa sb 1 fun a b => a >>> (b.toNat % 32)

def execMul (lane sd sa sb : Nat) (s : State) : State := s.scalarOp lane 0x07 sd sa sb 2 (· * ·)

/-- IMM is sign-extended. -/
def execAddi (lane sd sa : Nat) (imm : Int) (s : State) : State :=
  s.laneStep lane (wordI 0x08 sd sa (imm18 imm)) 1 fun l => l.setReg sd (l.reg sa + BitVec.ofInt 32 (toSigned 18 (imm18 imm)))

/-- IMM is zero-extended. -/
def execAndi (lane sd sa imm : Nat) (s : State) : State :=
  s.laneStep lane (wordI 0x09 sd sa imm) 1 fun l => l.setReg sd (l.reg sa &&& BitVec.ofNat 32 (imm % 2 ^ 18))

def execOri (lane sd sa imm : Nat) (s : State) : State :=
  s.laneStep lane (wordI 0x0A sd sa imm) 1 fun l => l.setReg sd (l.reg sa ||| BitVec.ofNat 32 (imm % 2 ^ 18))

def execShli (lane sd sa imm : Nat) (s : State) : State :=
  s.laneStep lane (wordI 0x0B sd sa imm) 1 fun l => l.setReg sd (l.reg sa <<< (imm % 2 ^ 18))

def execShri (lane sd sa imm : Nat) (s : State) : State :=
  s.laneStep lane (wordI 0x0C sd sa imm) 1 fun l => l.setReg sd (l.reg sa >>> (imm % 2 ^ 18))

def execLui (lane sd imm : Nat) (s : State) : State :=
  s.laneStep lane (wordI 0x0D sd 0 imm) 1 fun l => l.setReg sd (BitVec.ofNat 32 (imm % 2 ^ 18 * 2 ^ 14))

/-- Address SA + IMM, signed (R153). -/
def Lane.dataAddr (l : Lane) (sa : Nat) (imm : Int) : Int := (l.reg sa).toInt + imm

def execLdw (lane sd sa : Nat) (imm : Int) (s : State) : State :=
  let i := toSigned 18 (imm18 imm)
  let a := (s.lane lane).dataAddr sa i
  let w := wordI 0x0E sd sa (imm18 imm)
  if s.laneAt lane w && !dataOk a 4 then s.programFault lane 4
  else s.laneStep lane w 2 fun l => l.setReg sd (BitVec.ofNat 32 (word4 (l.dataBytes a.toNat 4)))

def execStw (lane sd sa : Nat) (imm : Int) (s : State) : State :=
  let i := toSigned 18 (imm18 imm)
  let a := (s.lane lane).dataAddr sa i
  let w := wordI 0x0F sd sa (imm18 imm)
  if s.laneAt lane w && !dataOk a 4 then s.programFault lane 4
  else s.laneStep lane w 1 fun l => l.setData a.toNat (bytes4 (l.reg sd).toNat)

/-- The cycle count of selector 7 is that before this instruction. -/
def execGets (lane sd sel : Nat) (s : State) : State :=
  s.laneStep lane (wordI 0x10 sd 0 sel) 1 fun l => l.setReg sd (BitVec.ofNat 32 (s.context lane (sel % 2 ^ 18)))

def execJmp (lane target : Nat) (s : State) : State :=
  s.laneJump lane (wordB 0x14 0 0 target) 2 fun l => { l with pc := target % 2048 }

def execBeq (lane sa sb target : Nat) (s : State) : State := s.branchOp lane 0x15 sa sb (target % 2048) fun a b => decide (a = b)

def execBne (lane sa sb target : Nat) (s : State) : State := s.branchOp lane 0x16 sa sb (target % 2048) fun a b => decide (a ≠ b)

def execBlt (lane sa sb target : Nat) (s : State) : State := s.branchOp lane 0x17 sa sb (target % 2048) fun a b => a.slt b

def execBge (lane sa sb target : Nat) (s : State) : State := s.branchOp lane 0x18 sa sb (target % 2048) fun a b => !a.slt b

/-- SA = SA - 1, and a branch where the decremented value is not 0 (R153); one cycle either way. -/
def execLoop (lane sa target : Nat) (s : State) : State :=
  s.laneJump lane (wordB 0x19 sa 0 target) 1 fun l =>
    let v := l.reg sa - 1
    let l := l.setReg sa v
    if v ≠ 0 then { l with pc := target % 2048 } else { l with pc := l.pc + 1 }

/-- Push PC + 1; a full stack is cause 3 (R153). -/
def execCall (lane target : Nat) (s : State) : State :=
  let w := wordB 0x1A 0 0 target
  if s.laneAt lane w && decide (8 ≤ (s.lane lane).stack.length) then s.programFault lane 3
  else s.laneJump lane w 2 fun l => { l with stack := (l.pc + 1) % 2048 :: l.stack, pc := target % 2048 }

/-- Pop the return address; an empty stack is cause 3 (R153). -/
def execRet (lane : Nat) (s : State) : State :=
  let w := wordB 0x1B 0 0 0
  if s.laneAt lane w && decide ((s.lane lane).stack = []) then s.programFault lane 3
  else s.laneJump lane w 2 fun l => { l with stack := l.stack.tail, pc := l.stack.headD 0 }

/-- The line-start commitment of the lane's sweep falls in this SYSCLK cycle or has passed (R139). -/
def State.pastDeadline (s : State) (lane : Nat) : Bool :=
  let g := laneScanner lane
  match (s.scanner g).edge with
  | none => false
  | some e => decide (s.dueSweep g e.wl = some ((s.lane lane).slot, (s.lane lane).n)) && decide ((e.t16 + 6400) / 32 ≤ s.timebase / 2)

/-- The sweep's code line is complete: cycles are recorded and the window bank is free (R137, R146). One in the deadline's own SYSCLK
cycle is late: the program is taken as not ended, and the commitment stops it (R139). -/
def execEndl (lane : Nat) (s : State) : State :=
  if s.pastDeadline lane then s else
  s.laneJump lane (wordB 0x1C 0 0 0) 1 fun l =>
    let c := l.cycles + 1
    let l := { l with
      active := false
      cyclesLast := c
      cyclesPeak := max l.cyclesPeak c
      sweeps := wrapInc 32 l.sweeps }
    let l := if l.bankSel then { l with bank1 := { l.bank1 with busy := false } }
      else { l with bank0 := { l.bank0 with busy := false } }
    if l.bufSel then { l with buf1 := { l.buf1 with ready := true } } else { l with buf0 := { l.buf0 with ready := true } }

/-- Pixel address SA + OFF of formats M and EMIT, signed (R154). -/
def Lane.pixelAddr (l : Lane) (sa : Nat) (off : Int) : Int := (l.reg sa).toInt + off

def execWld (lane v line sa : Nat) (off : Int) (s : State) : State :=
  let x := s.spanOf (laneScanner lane)
  let o := toSigned 15 (ofSigned 15 off)
  s.laneStep lane (wordM 0x20 v sa line off) 2 fun l =>
    l.setVec v ((upTo 32).map fun (e : Nat) =>
      BitVec.ofNat 8 (l.pixel x.1 x.2 (s.slot l.slot).h (line % 4) (l.pixelAddr sa o + e)))

def execEdge (lane v sa : Nat) (off : Int) (s : State) : State :=
  let x := s.spanOf (laneScanner lane)
  let o := toSigned 15 (ofSigned 15 off)
  s.laneStep lane (wordM 0x21 v sa 1 off) 3 fun l =>
    l.setVec v ((upTo 32).map fun (e : Nat) =>
      BitVec.ofNat 8 (l.edgeAt x.1 x.2 (s.slot l.slot).h (l.pixelAddr sa o + e)))

def execVld (lane v sa : Nat) (off : Int) (s : State) : State :=
  let a := (s.lane lane).dataAddr sa (toSigned 15 (ofSigned 15 off))
  let w := wordM 0x22 v sa 0 off
  if s.laneAt lane w && !dataOk a 32 then s.programFault lane 4
  else s.laneStep lane w 2 fun l => l.setVec v ((l.dataBytes a.toNat 32).map (BitVec.ofNat 8))

def execVst (lane v sa : Nat) (off : Int) (s : State) : State :=
  let a := (s.lane lane).dataAddr sa (toSigned 15 (ofSigned 15 off))
  let w := wordM 0x23 v sa 0 off
  if s.laneAt lane w && !dataOk a 32 then s.programFault lane 4
  else s.laneStep lane w 1 fun l => l.setData a.toNat ((upTo 32).map fun e => (l.elem v e).toNat)

def execVadds (lane vd va vb : Nat) (s : State) : State :=
  s.vectorOp lane 0x28 vd va vb fun a b => BitVec.ofNat 8 (min 255 (a.toNat + b.toNat))

def execVsubs (lane vd va vb : Nat) (s : State) : State :=
  s.vectorOp lane 0x29 vd va vb fun a b => BitVec.ofNat 8 (a.toNat - b.toNat)

def execVmin (lane vd va vb : Nat) (s : State) : State :=
  s.vectorOp lane 0x2A vd va vb fun a b => if a.toNat ≤ b.toNat then a else b

def execVmax (lane vd va vb : Nat) (s : State) : State :=
  s.vectorOp lane 0x2B vd va vb fun a b => if a.toNat ≤ b.toNat then b else a

def execVand (lane vd va vb : Nat) (s : State) : State := s.vectorOp lane 0x2C vd va vb (· &&& ·)

def execVor (lane vd va vb : Nat) (s : State) : State := s.vectorOp lane 0x2D vd va vb (· ||| ·)

def execVsplat (lane vd sa : Nat) (s : State) : State :=
  s.laneStep lane (wordV 0x2E vd 0 0 sa 0) 1 fun l =>
    l.setVec vd (List.replicate 32 (BitVec.ofNat 8 ((l.reg sa).toNat % 256)))

def execVshr (lane vd va imm : Nat) (s : State) : State :=
  s.laneStep lane (wordV 0x2F vd va 0 0 imm) 1 fun l => l.setVec vd ((upTo 32).map fun e => l.elem va e >>> (imm % 256))

def execVcmpgt (lane vd va vb : Nat) (s : State) : State :=
  s.vectorOp lane 0x30 vd va vb fun a b => if b.toNat < a.toNat then 255 else 0

/-- VA where VD is not 0, otherwise VB. -/
def execVsel (lane vd va vb : Nat) (s : State) : State :=
  s.laneStep lane (wordV 0x31 vd va vb 0 0) 1 fun l =>
    l.setVec vd ((upTo 32).map fun e => if l.elem vd e ≠ 0 then l.elem va e else l.elem vb e)

def execVlut (lane vd va imm : Nat) (s : State) : State :=
  s.laneStep lane (wordV 0x32 vd va 0 0 imm) 2 fun l =>
    l.setVec vd ((upTo 32).map fun e => BitVec.ofNat 8 (l.dataByte (16 * (imm % 256) + (l.elem va e).toNat % 16)))

/-- WID of the panel's tone entry (R156, R159). -/
def execTwid (lane vd va : Nat) (s : State) : State :=
  s.laneStep lane (wordV 0x33 vd va 0 0 0) 1 fun l =>
    l.setVec vd ((upTo 32).map fun e => BitVec.ofNat 8 (s.toneOf lane ((l.elem va e).toNat % 16) % 64))

def execTstart (lane vd va vb : Nat) (s : State) : State :=
  s.laneStep lane (wordV 0x34 vd va vb 0 0) 1 fun l =>
    l.setVec vd ((upTo 32).map fun (e : Nat) =>
      BitVec.ofNat 8 (toneStart (s.toneOf lane ((l.elem va e).toNat % 16)) (l.elem vb e).toNat))

/-- Codes of the elements inside the span (R158). -/
def emitCodes (m : Map Nat) (lo hi : Nat) (x : Int) : List (Nat × Nat) → Map Nat
  | [] => m
  | (w, st) :: rest =>
    let m := if (lo : Int) ≤ x ∧ x ≤ hi then mapSet 0 m x.toNat (min st 63 * 64 + min w 63) else m
    emitCodes m lo hi (x + 1) rest

def execEmit (lane va vb sa : Nat) (s : State) : State :=
  let x := s.spanOf (laneScanner lane)
  s.laneStep lane (wordV 0x35 0 va vb sa 0) 1 fun l =>
    let es := (upTo 32).map fun e => ((l.elem va e).toNat, (l.elem vb e).toNat)
    let f := fun b : CodeBuf => { b with codes := emitCodes b.codes x.1 x.2 (l.pixelAddr sa 0) es }
    if l.bufSel then { l with buf1 := f l.buf1 } else { l with buf0 := f l.buf0 }

/-- ILLEGAL_INSTRUCTION (R150): the word at the PC is illegal, or execution has run past address 2,047. -/
def execIllegalInstruction (lane : Nat) (s : State) : State :=
  let l := s.lane lane
  if lane < 1024 ∧ l.active ∧ l.state = .running ∧ (2048 ≤ l.pc ∨ laneLegal (mapGet 0 l.prog l.pc) = false) then
    s.programFault lane 2
  else s

end Sys2Proof.Machine
end

