-- ==== Sys2Proof/Machine/Gate.lean ====
section
/-! DEFINITION. What every command shares: it leaves the queue and the variant alone, the timebase counts in 64 bits, it
acts only on a powered part (but for the commands of the standby domain), and the group is told what it changed. -/

namespace Sys2Proof.Machine

/-- What a command answers. -/
abbrev Answer := Host.Outcome State Fault Refusal

/-- A command done on `s` with result `t`: the queue and the variant of Table 0-1 are as before, and the timebase is a
64-bit count (R29). -/
def finish (s t : State) : State :=
  { t with pending := s.pending, variant := s.variant, timebase := t.timebase % 2 ^ 64 }

/-- A command of the standby domain (R417) or of the balls: its own meaning says when it acts. -/
def always (s : State) (f : State → State) : Answer := .next (finish s (f s))

/-- A command of a unit outside the standby domain: nothing happens while the part is not powered (R417, R513). -/
def live (s : State) (f : State → State) : Answer :=
  always s fun s => if s.powered then f s else s

/-- A command after which the group is told of a changed vote, readiness or timetable state (R63, R372, R373). -/
def liveGroup (s : State) (f : State → State) : Answer :=
  live s fun s => (f s).settleGroup

/-- An access that the dictionary answers only once the lead die has left boot (R441), and in recovery only for the
reduced dictionary (R494). It ends the lead die's recess (R434). -/
def serve (index : Nat) (f : State → State) (s : State) : State :=
  let s := s.awake
  if s.nmt.booted = false then s
  else if s.served index = false then s.refuse .noObject
  else f s

/-- A received CAN frame, or an access by a path of its own: the lead die's pair leaves recess first (R434). -/
def waking (f : State → State) (s : State) : State := f s.awake

/-- The level of INTLK or DARKn moves while the part is not powered: the net follows its inputs once it runs again. -/
def levelOff (src : Nat) (high : Bool) (s : State) : State :=
  if src < 9 then (s.setLevel src high).followInputs else s

/-- A change at an input of the hazard net: on a powered part the net's own rules, otherwise the level alone. -/
def liveInput (src : Nat) (high : Bool) (s : State) (f : State → State) : Answer :=
  always s fun s => if s.powered then (f s).settleGroup else levelOff src high s

/-- No command waits: a tick of 625 ps passes on a powered part whose timebase runs (R29, R344). -/
def idle (s : State) : Answer := live s fun s => { s with timebase := s.timebase + b2n s.timebaseRuns }

end Sys2Proof.Machine
end

