-- ==== Sys2Proof/Machine/Rows.lean ====
section
/-! DEFINITION. The meaning of each row of the table of operations and events: the row's effect, given by its family's
file, under what every command shares. -/

namespace Sys2Proof.Machine

/-- MASTER_WEB_ENCODER_WRITE (R18). -/
def rowMasterWebEncoderWrite (v : Nat) (s : State) : Answer :=
  live s (execMasterWebEncoderWrite v)

/-- WEB_SCALE_WRITE (R18). -/
def rowWebScaleWrite (v : Nat) (s : State) : Answer :=
  live s (execWebScaleWrite v)

/-- WEB_DIRECTION_WRITE (R18). -/
def rowWebDirectionWrite (v : Nat) (s : State) : Answer :=
  live s (execWebDirectionWrite v)

/-- WEB_POSITION_PRESET (R20). -/
def rowWebPositionPreset (w : Int) (s : State) : Answer :=
  live s (execWebPositionPreset w)

/-- PRINTABLE_WIDTH_WRITE (R27). -/
def rowPrintableWidthWrite (st v : Nat) (s : State) : Answer :=
  live s (execPrintableWidthWrite st v)

/-- NEXT_ORIGIN_WRITE (R33). -/
def rowNextOriginWrite (w : Int) (s : State) : Answer :=
  live s (execNextOriginWrite w)

/-- DECLARE (R32). -/
def rowDeclare (slot : Nat) (s : State) : Answer :=
  liveGroup s (execDeclare slot)

/-- WITHDRAW (R34). -/
def rowWithdraw (slot : Nat) (s : State) : Answer :=
  liveGroup s (execWithdraw slot)

/-- STORE_GRANT (R36). -/
def rowStoreGrant (slot : Nat) (s : State) : Answer :=
  liveGroup s (execStoreGrant slot)

/-- COMMIT (R38). -/
def rowCommit (slot : Nat) (s : State) : Answer :=
  liveGroup s (execCommit slot)

/-- COMMIT_DEADLINE (R40). -/
def rowCommitDeadline (slot : Nat) (s : State) : Answer :=
  liveGroup s (execCommitDeadline slot)

/-- BELL (R41). -/
def rowBell (slot st : Nat) (s : State) : Answer :=
  liveGroup s (execBell slot st)

/-- DECELERATION_START (R44). -/
def rowDecelerationStart (s : State) : Answer :=
  liveGroup s execDecelerationStart

/-- WEB_AT_REST (R45). -/
def rowWebAtRest (s : State) : Answer :=
  liveGroup s execWebAtRest

/-- REVERSE_COMPLETE (R46). -/
def rowReverseComplete (s : State) : Answer :=
  liveGroup s execReverseComplete

/-- CORRECTIVE_MOVE_DONE (R46). -/
def rowCorrectiveMoveDone (s : State) : Answer :=
  liveGroup s execCorrectiveMoveDone

/-- RESTART (R46). -/
def rowRestart (s : State) : Answer :=
  liveGroup s execRestart

/-- RESTART_SPEED_REACHED (R213). -/
def rowRestartSpeedReached (s : State) : Answer :=
  liveGroup s execRestartSpeedReached

/-- FUSER_NIP_CLOSE_POINT (R47). -/
def rowFuserNipClosePoint (s : State) : Answer :=
  liveGroup s execFuserNipClosePoint

/-- TIMETABLE_RUN (R51). -/
def rowTimetableRun (s : State) : Answer :=
  liveGroup s execTimetableRun

/-- TIMETABLE_HALT (R51). -/
def rowTimetableHalt (s : State) : Answer :=
  liveGroup s execTimetableHalt

/-- TIMETABLE_END (R51). -/
def rowTimetableEnd (s : State) : Answer :=
  liveGroup s execTimetableEnd

/-- BAND_MODE_WRITE (R61). -/
def rowBandModeWrite (st v : Nat) (s : State) : Answer :=
  live s (execBandModeWrite st v)

/-- BAR_ABSENT_ACCESS (R72). -/
def rowBarAbsentAccess (write : Bool) (access : BarAccess) (s : State) : Answer :=
  live s (execBarAbsentAccess write access.bar access.offset access.size access.value)

/-- DIAGNOSTIC_STORE_READ (R74). -/
def rowDiagnosticStoreRead (offset size failure : Nat) (s : State) : Answer :=
  live s (execDiagnosticStoreRead offset size failure)

/-- DIAGNOSTIC_STORE_WRITE (R74). -/
def rowDiagnosticStoreWrite (offset size value : Nat) (s : State) : Answer :=
  live s (execDiagnosticStoreWrite offset size value)

/-- RING_ENABLE (R78). -/
def rowRingEnable (q : Nat) (s : State) : Answer :=
  live s (execRingEnable q)

/-- RING_RESET (R78). -/
def rowRingReset (q : Nat) (s : State) : Answer :=
  live s (execRingReset q)

/-- DOORBELL (R79). -/
def rowDoorbell (q v : Nat) (s : State) : Answer :=
  live s (execDoorbell q v)

/-- EVENT_RING_DOORBELL (R94). -/
def rowEventRingDoorbell (q v : Nat) (s : State) : Answer :=
  live s (execEventRingDoorbell q v)

/-- DESCRIPTOR_FETCH (R82). -/
def rowDescriptorFetch (q : Nat) (desc : Option Nat) (s : State) : Answer :=
  liveGroup s (execDescriptorFetch q desc)

/-- DMA_BEAT (R92). -/
def rowDmaBeat (die : Nat) (s : State) : Answer :=
  liveGroup s (execDmaBeat die)

/-- DMA_READ_COMPLETION (R93). -/
def rowDmaReadCompletion (q : Nat) (status : ReadStatus) (bytes : List Nat) (s : State) : Answer :=
  liveGroup s (execDmaReadCompletion q status bytes)

/-- COMPLETION_TIMEOUT (R93). -/
def rowCompletionTimeout (q : Nat) (s : State) : Answer :=
  liveGroup s (execCompletionTimeout q)

/-- LINE_STORED (R85). -/
def rowLineStored (q : Nat) (s : State) : Answer :=
  liveGroup s (execLineStored q)

/-- DESCRIPTOR_COMPLETE (R87). -/
def rowDescriptorComplete (q : Nat) (s : State) : Answer :=
  liveGroup s (execDescriptorComplete q)

/-- FUNCTION_LEVEL_RESET (R96). -/
def rowFunctionLevelReset (s : State) : Answer :=
  liveGroup s execFunctionLevelReset

/-- HOT_RESET (R96). -/
def rowHotReset (s : State) : Answer :=
  liveGroup s execHotReset

/-- PCIE_LINK_LOSS (R96). -/
def rowPcieLinkLoss (s : State) : Answer :=
  liveGroup s execPcieLinkLoss

/-- PCIE_LINK_TRAINED (R68). -/
def rowPcieLinkTrained (speed width : Nat) (s : State) : Answer :=
  live s (execPcieLinkTrained speed width)

/-- PLAYBACK_LINE_DECODE (R125). -/
def rowPlaybackLineDecode (slot lane y chan : Nat) (failed undecodable : List Nat) (s : State) : Answer :=
  live s (execPlaybackLineDecode slot lane y chan failed undecodable)

/-- CHANNEL_LOST (R103). -/
def rowChannelLost (c : Nat) (s : State) : Answer :=
  liveGroup s (execChannelLost c)

/-- ARBITER_WINDOW_START (R109). -/
def rowArbiterWindowStart (s : State) : Answer :=
  live s execArbiterWindowStart

/-- ARBITER_GRANT (R110). -/
def rowArbiterGrant (port : Nat) (pending : List Nat) (s : State) : Answer :=
  live s (execArbiterGrant port pending)

/-- GRANT_WITHDRAWN (R111). -/
def rowGrantWithdrawn (port : Nat) (s : State) : Answer :=
  live s (execGrantWithdrawn port)

/-- COMPRESSOR_BLOCK_EMIT (R122). -/
def rowCompressorBlockEmit (q : Nat) (block : List Nat) (s : State) : Answer :=
  live s (execCompressorBlockEmit q block)

/-- CODEC_COMPRESS_JOB (R127). -/
def rowCodecCompressJob (q : Nat) (blocks : List (List Nat)) (s : State) : Answer :=
  live s (execCodecCompressJob q blocks)

/-- CODEC_DECOMPRESS_JOB (R127). -/
def rowCodecDecompressJob (q : Nat) (s : State) : Answer :=
  live s (execCodecDecompressJob q)

/-- PROGRAM_START (R137). -/
def rowProgramStart (lane slot n facet : Nat) (s : State) : Answer :=
  live s (execProgramStart lane slot n facet)

/-- LINE_START_COMMITMENT (R217). -/
def rowLineStartCommitment (g : Nat) (s : State) : Answer :=
  liveGroup s (execLineStartCommitment g)

/-- WINDOW_FILL (R144). -/
def rowWindowFill (slot lane y : Nat) (s : State) : Answer :=
  live s (execWindowFill slot lane y)

/-- NOP (R152). -/
def rowNop (lane : Nat) (s : State) : Answer :=
  live s (execNop lane)

/-- ADD (R152). -/
def rowAdd (lane sd sa sb : Nat) (s : State) : Answer :=
  live s (execAdd lane sd sa sb)

/-- SUB (R152). -/
def rowSub (lane sd sa sb : Nat) (s : State) : Answer :=
  live s (execSub lane sd sa sb)

/-- AND (R152). -/
def rowAnd (lane sd sa sb : Nat) (s : State) : Answer :=
  live s (execAnd lane sd sa sb)

/-- OR (R152). -/
def rowOr (lane sd sa sb : Nat) (s : State) : Answer :=
  live s (execOr lane sd sa sb)

/-- SHL (R152). -/
def rowShl (lane sd sa sb : Nat) (s : State) : Answer :=
  live s (execShl lane sd sa sb)

/-- SHR (R152). -/
def rowShr (lane sd sa sb : Nat) (s : State) : Answer :=
  live s (execShr lane sd sa sb)

/-- MUL (R152). -/
def rowMul (lane sd sa sb : Nat) (s : State) : Answer :=
  live s (execMul lane sd sa sb)

/-- ADDI (R152). -/
def rowAddi (lane sd sa : Nat) (imm : Int) (s : State) : Answer :=
  live s (execAddi lane sd sa imm)

/-- ANDI (R152). -/
def rowAndi (lane sd sa imm : Nat) (s : State) : Answer :=
  live s (execAndi lane sd sa imm)

/-- ORI (R152). -/
def rowOri (lane sd sa imm : Nat) (s : State) : Answer :=
  live s (execOri lane sd sa imm)

/-- SHLI (R152). -/
def rowShli (lane sd sa imm : Nat) (s : State) : Answer :=
  live s (execShli lane sd sa imm)

/-- SHRI (R152). -/
def rowShri (lane sd sa imm : Nat) (s : State) : Answer :=
  live s (execShri lane sd sa imm)

/-- LUI (R152). -/
def rowLui (lane sd imm : Nat) (s : State) : Answer :=
  live s (execLui lane sd imm)

/-- LDW (R153). -/
def rowLdw (lane sd sa : Nat) (imm : Int) (s : State) : Answer :=
  live s (execLdw lane sd sa imm)

/-- STW (R153). -/
def rowStw (lane sd sa : Nat) (imm : Int) (s : State) : Answer :=
  live s (execStw lane sd sa imm)

/-- GETS (R151). -/
def rowGets (lane sd sel : Nat) (s : State) : Answer :=
  live s (execGets lane sd sel)

/-- JMP (R152). -/
def rowJmp (lane target : Nat) (s : State) : Answer :=
  live s (execJmp lane target)

/-- BEQ (R152). -/
def rowBeq (lane sa sb target : Nat) (s : State) : Answer :=
  live s (execBeq lane sa sb target)

/-- BNE (R152). -/
def rowBne (lane sa sb target : Nat) (s : State) : Answer :=
  live s (execBne lane sa sb target)

/-- BLT (R152). -/
def rowBlt (lane sa sb target : Nat) (s : State) : Answer :=
  live s (execBlt lane sa sb target)

/-- BGE (R152). -/
def rowBge (lane sa sb target : Nat) (s : State) : Answer :=
  live s (execBge lane sa sb target)

/-- LOOP (R153). -/
def rowLoop (lane sa target : Nat) (s : State) : Answer :=
  live s (execLoop lane sa target)

/-- CALL (R153). -/
def rowCall (lane target : Nat) (s : State) : Answer :=
  live s (execCall lane target)

/-- RET (R153). -/
def rowRet (lane : Nat) (s : State) : Answer :=
  live s (execRet lane)

/-- ENDL (R137). -/
def rowEndl (lane : Nat) (s : State) : Answer :=
  live s (execEndl lane)

/-- WLD (R154). -/
def rowWld (lane v line sa : Nat) (off : Int) (s : State) : Answer :=
  live s (execWld lane v line sa off)

/-- EDGE (R154). -/
def rowEdge (lane v sa : Nat) (off : Int) (s : State) : Answer :=
  live s (execEdge lane v sa off)

/-- VLD (R153). -/
def rowVld (lane v sa : Nat) (off : Int) (s : State) : Answer :=
  live s (execVld lane v sa off)

/-- VST (R153). -/
def rowVst (lane v sa : Nat) (off : Int) (s : State) : Answer :=
  live s (execVst lane v sa off)

/-- VADDS (R152). -/
def rowVadds (lane vd va vb : Nat) (s : State) : Answer :=
  live s (execVadds lane vd va vb)

/-- VSUBS (R152). -/
def rowVsubs (lane vd va vb : Nat) (s : State) : Answer :=
  live s (execVsubs lane vd va vb)

/-- VMIN (R152). -/
def rowVmin (lane vd va vb : Nat) (s : State) : Answer :=
  live s (execVmin lane vd va vb)

/-- VMAX (R152). -/
def rowVmax (lane vd va vb : Nat) (s : State) : Answer :=
  live s (execVmax lane vd va vb)

/-- VAND (R152). -/
def rowVand (lane vd va vb : Nat) (s : State) : Answer :=
  live s (execVand lane vd va vb)

/-- VOR (R152). -/
def rowVor (lane vd va vb : Nat) (s : State) : Answer :=
  live s (execVor lane vd va vb)

/-- VSPLAT (R152). -/
def rowVsplat (lane vd sa : Nat) (s : State) : Answer :=
  live s (execVsplat lane vd sa)

/-- VSHR (R152). -/
def rowVshr (lane vd va imm : Nat) (s : State) : Answer :=
  live s (execVshr lane vd va imm)

/-- VCMPGT (R152). -/
def rowVcmpgt (lane vd va vb : Nat) (s : State) : Answer :=
  live s (execVcmpgt lane vd va vb)

/-- VSEL (R152). -/
def rowVsel (lane vd va vb : Nat) (s : State) : Answer :=
  live s (execVsel lane vd va vb)

/-- VLUT (R152). -/
def rowVlut (lane vd va imm : Nat) (s : State) : Answer :=
  live s (execVlut lane vd va imm)

/-- TWID (R156). -/
def rowTwid (lane vd va : Nat) (s : State) : Answer :=
  live s (execTwid lane vd va)

/-- TSTART (R157). -/
def rowTstart (lane vd va vb : Nat) (s : State) : Answer :=
  live s (execTstart lane vd va vb)

/-- EMIT (R158). -/
def rowEmit (lane va vb sa : Nat) (s : State) : Answer :=
  live s (execEmit lane va vb sa)

/-- ILLEGAL_INSTRUCTION (R150). -/
def rowIllegalInstruction (lane : Nat) (s : State) : Answer :=
  live s (execIllegalInstruction lane)

/-- LANE_MEMORY_WRITE (R147). -/
def rowLaneMemoryWrite (lane offset size value : Nat) (s : State) : Answer :=
  live s (execLaneMemoryWrite lane offset size value)

/-- LANE_LOAD (R163). -/
def rowLaneLoad (image scope l : Nat) (s : State) : Answer :=
  live s (serve 0x2500 (execLaneLoad image scope l))

/-- LANE_START (R163). -/
def rowLaneStart (scope l : Nat) (s : State) : Answer :=
  live s (serve 0x2500 (execLaneStart scope l))

/-- LANE_STOP (R163). -/
def rowLaneStop (scope l : Nat) (s : State) : Answer :=
  live s (serve 0x2500 (execLaneStop scope l))

/-- LANE_RELEASE (R163). -/
def rowLaneRelease (scope l : Nat) (s : State) : Answer :=
  live s (serve 0x2500 (execLaneRelease scope l))

/-- APPLY_TONE_TABLE (R159). -/
def rowApplyToneTable (st v : Nat) (s : State) : Answer :=
  live s (execApplyToneTable st v)

/-- DRAFT_WRITE (R188). -/
def rowDraftWrite (lane offset size value : Nat) (s : State) : Answer :=
  live s (execDraftWrite lane offset size value)

/-- DRAFT_OBJECT_WRITE (R196). -/
def rowDraftObjectWrite (lane : Nat) (bytes : List Nat) (s : State) : Answer :=
  live s (serve 0x2840 (execDraftObjectWrite lane bytes))

/-- FLIP_NEXT_FACET (R191). -/
def rowFlipNextFacet (scope l : Nat) (s : State) : Answer :=
  live s (serve 0x2800 (execFlipNextFacet scope l))

/-- FLIP_NAMED_BELL (R191). -/
def rowFlipNamedBell (seq scope l : Nat) (s : State) : Answer :=
  live s (serve 0x2800 (execFlipNamedBell seq scope l))

/-- FLIP_CANCEL (R193). -/
def rowFlipCancel (scope l : Nat) (s : State) : Answer :=
  live s (serve 0x2800 (execFlipCancel scope l))

/-- DRAFT_COPY_COMPLETE (R192). -/
def rowDraftCopyComplete (lane : Nat) (s : State) : Answer :=
  live s (execDraftCopyComplete lane)

/-- KNOT_WRITE_DESCRIPTOR (R194). -/
def rowKnotWriteDescriptor (q : Nat) (s : State) : Answer :=
  live s (execKnotWriteDescriptor q)

/-- FACET_WRITE_DESCRIPTOR (R194). -/
def rowFacetWriteDescriptor (q : Nat) (s : State) : Answer :=
  live s (execFacetWriteDescriptor q)

/-- FLIP_DESCRIPTOR (R195). -/
def rowFlipDescriptor (q : Nat) (s : State) : Answer :=
  live s (execFlipDescriptor q)

/-- APPLY_STITCH_SETTINGS (R196). -/
def rowApplyStitchSettings (st v : Nat) (s : State) : Answer :=
  live s (execApplyStitchSettings st v)

/-- BD_EDGE (R200). -/
def rowBdEdge (g : Nat) (pulse : BdPulse) (s : State) : Answer :=
  liveGroup s (execBdEdge g pulse.t16 pulse.falling pulse.ns)

/-- BD_MISSING (R201). -/
def rowBdMissing (g : Nat) (s : State) : Answer :=
  liveGroup s (execBdMissing g)

/-- PHASE_SAMPLE (R212). -/
def rowPhaseSample (g : Nat) (s : State) : Answer :=
  liveGroup s (execPhaseSample g)

/-- LINE_START (R218). -/
def rowLineStart (g : Nat) (s : State) : Answer :=
  liveGroup s (execLineStart g)

/-- LINE_END (R137). -/
def rowLineEnd (g : Nat) (s : State) : Answer :=
  liveGroup s (execLineEnd g)

/-- SCANNER_START (R223). -/
def rowScannerStart (g : Nat) (s : State) : Answer :=
  liveGroup s (execScannerStart g)

/-- SCANNER_STOP (R223). -/
def rowScannerStop (g : Nat) (s : State) : Answer :=
  liveGroup s (execScannerStop g)

/-- SCANNER_RELEASE (R223). -/
def rowScannerRelease (g : Nat) (s : State) : Answer :=
  liveGroup s (execScannerRelease g)

/-- SCANNER_RELEARN (R223). -/
def rowScannerRelearn (g : Nat) (s : State) : Answer :=
  liveGroup s (execScannerRelearn g)

/-- SPIN_UP_ELAPSED (R220). -/
def rowSpinUpElapsed (g : Nat) (s : State) : Answer :=
  liveGroup s (execSpinUpElapsed g)

/-- CODE_FRAME_SEND (R240). -/
def rowCodeFrameSend (g : Nat) (s : State) : Answer :=
  live s (execCodeFrameSend g)

/-- TRIM_FRAME_SEND (R236). -/
def rowTrimFrameSend (g : Nat) (s : State) : Answer :=
  live s (execTrimFrameSend g)

/-- TIME_FRAME_SEND (R238). -/
def rowTimeFrameSend (g : Nat) (s : State) : Answer :=
  live s (execTimeFrameSend g)

/-- BACK_CHANNEL_LOCK (R243). -/
def rowBackChannelLock (g : Nat) (s : State) : Answer :=
  live s (execBackChannelLock g)

/-- STATUS_FRAME (R247). -/
def rowStatusFrame (g raw : Nat) (s : State) : Answer :=
  liveGroup s (execStatusFrame g raw)

/-- POWER_FRAME (R254). -/
def rowPowerFrame (g raw : Nat) (s : State) : Answer :=
  live s (execPowerFrame g raw)

/-- IDENT_FRAME (R245). -/
def rowIdentFrame (g raw : Nat) (s : State) : Answer :=
  liveGroup s (execIdentFrame g raw)

/-- BAD_BACK_CHANNEL_FRAME (R243). -/
def rowBadBackChannelFrame (g : Nat) (s : State) : Answer :=
  live s (execBadBackChannelFrame g)

/-- STATUS_TIMEOUT (R245). -/
def rowStatusTimeout (g : Nat) (s : State) : Answer :=
  liveGroup s (execStatusTimeout g)

/-- IDENT_TIMEOUT (R245). -/
def rowIdentTimeout (g : Nat) (s : State) : Answer :=
  liveGroup s (execIdentTimeout g)

/-- RETRAIN_ELAPSED (R245). -/
def rowRetrainElapsed (g : Nat) (s : State) : Answer :=
  liveGroup s (execRetrainElapsed g)

/-- LINK_ENABLE (R246). -/
def rowLinkEnable (g : Nat) (s : State) : Answer :=
  liveGroup s (execLinkEnable g)

/-- LINK_DISABLE (R246). -/
def rowLinkDisable (g : Nat) (s : State) : Answer :=
  liveGroup s (execLinkDisable g)

/-- LINK_CLEAR (R246). -/
def rowLinkClear (g : Nat) (s : State) : Answer :=
  liveGroup s (execLinkClear g)

/-- LASER_EN_READBACK_MISMATCH (R251). -/
def rowLaserEnReadbackMismatch (g : Nat) (s : State) : Answer :=
  liveGroup s (execLaserEnReadbackMismatch g)

/-- BD_WATCHDOG (R253). -/
def rowBdWatchdog (g : Nat) (s : State) : Answer :=
  liveGroup s (execBdWatchdog g)

/-- BD_RETRY_ELAPSED (R253). -/
def rowBdRetryElapsed (g : Nat) (s : State) : Answer :=
  liveGroup s (execBdRetryElapsed g)

/-- COUNT_EDGE (R259). -/
def rowCountEdge (ch : Nat) (a b : Bool) (t : Nat) (s : State) : Answer :=
  liveGroup s (execCountEdge ch a b t)

/-- ENCODER_ALARM (R260). -/
def rowEncoderAlarm (ch : Nat) (s : State) : Answer :=
  liveGroup s (execEncoderAlarm ch)

/-- INDEX_EDGE (R262). -/
def rowIndexEdge (ch t : Nat) (s : State) : Answer :=
  live s (execIndexEdge ch t)

/-- SERIAL_READ_START (R264). -/
def rowSerialReadStart (ch t : Nat) (low : Bool) (s : State) : Answer :=
  liveGroup s (execSerialReadStart ch t low)

/-- SERIAL_WORD (R266). -/
def rowSerialWord (ch word : Nat) (s : State) : Answer :=
  liveGroup s (execSerialWord ch word)

/-- SERIAL_WORD_TIMEOUT (R266). -/
def rowSerialWordTimeout (ch : Nat) (s : State) : Answer :=
  liveGroup s (execSerialWordTimeout ch)

/-- CHANNEL_CLEAR (R267). -/
def rowChannelClear (ch : Nat) (s : State) : Answer :=
  live s (execChannelClear ch)

/-- CHANNEL_ARM (R262). -/
def rowChannelArm (ch : Nat) (s : State) : Answer :=
  live s (execChannelArm ch)

/-- CHANNEL_SET (R294). -/
def rowChannelSet (ch : Nat) (s : State) : Answer :=
  live s (execChannelSet ch)

/-- LATCH_CAPTURE (R268). -/
def rowLatchCapture (n t : Nat) (rising : Bool) (s : State) : Answer :=
  live s (execLatchCapture n t rising)

/-- LATCH_QUEUE_READ (R268). -/
def rowLatchQueueRead (n : Nat) (s : State) : Answer :=
  live s (serve 0x3119 (execLatchQueueRead n))

/-- COMPARE_PULSE_END (R270). -/
def rowComparePulseEnd (n : Nat) (s : State) : Answer :=
  live s (execComparePulseEnd n)

/-- COMPARE_APPEND (R271). -/
def rowCompareAppend (n : Nat) (entries : List Int) (s : State) : Answer :=
  live s (execCompareAppend n entries)

/-- COMPARE_APPEND_DESCRIPTOR (R271). -/
def rowCompareAppendDescriptor (q : Nat) (s : State) : Answer :=
  live s (execCompareAppendDescriptor q)

/-- COMPARE_CONFIG_WRITE (R273). -/
def rowCompareConfigWrite (n v : Nat) (s : State) : Answer :=
  live s (execCompareConfigWrite n v)

/-- AXIS_ENABLE (R274). -/
def rowAxisEnable (a : Nat) (s : State) : Answer :=
  live s (execAxisEnable a)

/-- AXIS_DISABLE (R274). -/
def rowAxisDisable (a : Nat) (s : State) : Answer :=
  live s (execAxisDisable a)

/-- MOVE (R275). -/
def rowMove (a : Nat) (s : State) : Answer :=
  live s (execMove a)

/-- JOG (R275). -/
def rowJog (a : Nat) (s : State) : Answer :=
  live s (execJog a)

/-- GEAR (R284). -/
def rowGear (a : Nat) (s : State) : Answer :=
  live s (execGear a)

/-- AXIS_HALT (R274). -/
def rowAxisHalt (a : Nat) (s : State) : Answer :=
  live s (execAxisHalt a)

/-- AXIS_STOP (R282). -/
def rowAxisStop (a : Nat) (s : State) : Answer :=
  live s (execAxisStop a)

/-- SET_POSITION (R282). -/
def rowSetPosition (a : Nat) (s : State) : Answer :=
  live s (execSetPosition a)

/-- AXIS_CLEAR (R274). -/
def rowAxisClear (a : Nat) (s : State) : Answer :=
  live s (execAxisClear a)

/-- TENSION (R285). -/
def rowTension (a : Nat) (s : State) : Answer :=
  live s (execTension a)

/-- MOVE_COMPLETE (R274). -/
def rowMoveComplete (a : Nat) (s : State) : Answer :=
  liveGroup s (execMoveComplete a)

/-- HALT_COMPLETE (R274). -/
def rowHaltComplete (a : Nat) (s : State) : Answer :=
  liveGroup s (execHaltComplete a)

/-- GEAR_ARM_CROSSING (R284). -/
def rowGearArmCrossing (a : Nat) (s : State) : Answer :=
  live s (execGearArmCrossing a)

/-- HALL_CHANGE (R278). -/
def rowHallChange (a levels : Nat) (s : State) : Answer :=
  liveGroup s (execHallChange a levels)

/-- PWM_PERIOD (R279). -/
def rowPwmPeriod (a : Nat) (s : State) : Answer :=
  liveGroup s (execPwmPeriod a)

/-- STEP_EMIT (R281). -/
def rowStepEmit (a : Nat) (s : State) : Answer :=
  liveGroup s (execStepEmit a)

/-- CONVERSION_COMPLETE (R308). -/
def rowConversionComplete (conv code : Nat) (s : State) : Answer :=
  liveGroup s (execConversionComplete conv code)

/-- LOOP_TRIGGER (R300). -/
def rowLoopTrigger (j : Nat) (s : State) : Answer :=
  liveGroup s (execLoopTrigger j)

/-- LOOP_COMPUTATION (R304). -/
def rowLoopComputation (j : Nat) (s : State) : Answer :=
  liveGroup s (execLoopComputation j)

/-- SLOT_ENABLE (R307). -/
def rowSlotEnable (j : Nat) (s : State) : Answer :=
  live s (execSlotEnable j)

/-- SLOT_DISABLE (R307). -/
def rowSlotDisable (j : Nat) (s : State) : Answer :=
  live s (execSlotDisable j)

/-- SLOT_SELECT_BANK0 (R306). -/
def rowSlotSelectBank0 (j : Nat) (s : State) : Answer :=
  live s (execSlotSelectBank0 j)

/-- SLOT_SELECT_BANK1 (R306). -/
def rowSlotSelectBank1 (j : Nat) (s : State) : Answer :=
  live s (execSlotSelectBank1 j)

/-- SLOT_CLEAR_FLAGS (R307). -/
def rowSlotClearFlags (j : Nat) (s : State) : Answer :=
  live s (execSlotClearFlags j)

/-- DELTA_SIGMA_OUTPUT (R312). -/
def rowDeltaSigmaOutput (i n : Nat) (s : State) : Answer :=
  live s (execDeltaSigmaOutput i n)

/-- FAST_FILTER_OUTPUT (R315). -/
def rowFastFilterOutput (i n : Nat) (s : State) : Answer :=
  live s (execFastFilterOutput i n)

/-- DELTA_SIGMA_INPUT_LOST (R312). -/
def rowDeltaSigmaInputLost (i : Nat) (s : State) : Answer :=
  liveGroup s (execDeltaSigmaInputLost i)

/-- ARC_BLANKING_ELAPSED (R316). -/
def rowArcBlankingElapsed (h : Nat) (s : State) : Answer :=
  live s (execArcBlankingElapsed h)

/-- HV_ENABLE (R318). -/
def rowHvEnable (h : Nat) (s : State) : Answer :=
  live s (execHvEnable h)

/-- HV_DISABLE (R318). -/
def rowHvDisable (h : Nat) (s : State) : Answer :=
  live s (execHvDisable h)

/-- HV_CLEAR (R318). -/
def rowHvClear (h : Nat) (s : State) : Answer :=
  live s (execHvClear h)

/-- ZERO_CROSSING (R319). -/
def rowZeroCrossing (z t : Nat) (rising : Bool) (s : State) : Answer :=
  liveGroup s (execZeroCrossing z t rising)

/-- FIRING_DELAY_ELAPSED (R319). -/
def rowFiringDelayElapsed (z : Nat) (s : State) : Answer :=
  live s (execFiringDelayElapsed z)

/-- ZERO_CROSS_TIMEOUT (R319). -/
def rowZeroCrossTimeout (z : Nat) (s : State) : Answer :=
  liveGroup s (execZeroCrossTimeout z)

/-- FUSER_SAMPLE (R321). -/
def rowFuserSample (z : Nat) (s : State) : Answer :=
  liveGroup s (execFuserSample z)

/-- BAND_HOLD_ELAPSED (R324). -/
def rowBandHoldElapsed (z : Nat) (s : State) : Answer :=
  liveGroup s (execBandHoldElapsed z)

/-- ZONE_START (R323). -/
def rowZoneStart (z : Nat) (s : State) : Answer :=
  liveGroup s (execZoneStart z)

/-- ZONE_STOP (R323). -/
def rowZoneStop (z : Nat) (s : State) : Answer :=
  liveGroup s (execZoneStop z)

/-- ZONE_CLEAR (R323). -/
def rowZoneClear (z : Nat) (s : State) : Answer :=
  liveGroup s (execZoneClear z)

/-- ZONE_SETBACK (R323). -/
def rowZoneSetback (z : Nat) (s : State) : Answer :=
  liveGroup s (execZoneSetback z)

/-- ZONE_RESUME (R323). -/
def rowZoneResume (z : Nat) (s : State) : Answer :=
  liveGroup s (execZoneResume z)

/-- FUSER_RUN_SETPOINT_WRITE (R323). -/
def rowFuserRunSetpointWrite (z v : Nat) (s : State) : Answer :=
  live s (execFuserRunSetpointWrite z v)

/-- NIP_OPEN (R325). -/
def rowNipOpen (s : State) : Answer :=
  liveGroup s execNipOpen

/-- NIP_CLOSE (R325). -/
def rowNipClose (s : State) : Answer :=
  liveGroup s execNipClose

/-- PLL_LOCK (R335). -/
def rowPllLock (die pll : Nat) (s : State) : Answer :=
  liveGroup s (execPllLock die pll)

/-- PLL_LOCK_TIMEOUT (R336). -/
def rowPllLockTimeout (die pll : Nat) (s : State) : Answer :=
  liveGroup s (execPllLockTimeout die pll)

/-- PLL_LOSS_OF_LOCK (R336). -/
def rowPllLossOfLock (die pll : Nat) (s : State) : Answer :=
  liveGroup s (execPllLossOfLock die pll)

/-- REFCLK_LOST (R337). -/
def rowRefclkLost (s : State) : Answer :=
  liveGroup s execRefclkLost

/-- DIVIDER_COMMIT (R340). -/
def rowDividerCommit (die v : Nat) (s : State) : Answer :=
  live s (execDividerCommit die v)

/-- OUTPUT_ENABLE_WRITE (R342). -/
def rowOutputEnableWrite (die v : Nat) (s : State) : Answer :=
  live s (execOutputEnableWrite die v)

/-- AUX_PLL_CONFIG_WRITE (R343). -/
def rowAuxPllConfigWrite (die sub v : Nat) (s : State) : Answer :=
  live s (execAuxPllConfigWrite die sub v)

/-- VOTE (R63). -/
def rowVote (port : Nat) (h : Header) (seq : Nat) (ready : Bool) (origin : Int) (hg : Nat) (restart : Bool) (s : State) : Answer :=
  liveGroup s (execVote port h seq ready origin hg restart)

/-- COMMIT_FRAME (R63). -/
def rowCommitFrame (port : Nat) (h : Header) (seq : Nat) (s : State) : Answer :=
  liveGroup s (execCommitFrame port h seq)

/-- LATE (R64). -/
def rowLate (port : Nat) (h : Header) (seq : Nat) (s : State) : Answer :=
  liveGroup s (execLate port h seq)

/-- PORT_UP (R356). -/
def rowPortUp (port : Nat) (s : State) : Answer :=
  live s (execPortUp port)

/-- PORT_DOWN (R356). -/
def rowPortDown (port : Nat) (s : State) : Answer :=
  liveGroup s (execPortDown port)

/-- BAD_HALING_FRAME (R357). -/
def rowBadHalingFrame (port : Nat) (s : State) : Answer :=
  live s (execBadHalingFrame port)

/-- ROLL (R361). -/
def rowRoll (port : Nat) (h : Header) (r : RollInfo) (s : State) : Answer :=
  liveGroup s (execRoll port h r)

/-- ROLL_SEND (R357). -/
def rowRollSend (s : State) : Answer :=
  live s execRollSend

/-- CENSUS (R362). -/
def rowCensus (port : Nat) (h : Header) (seats : List Nat) (dGroup : Int) (s : State) : Answer :=
  liveGroup s (execCensus port h seats dGroup)

/-- CENSUS_SEND (R362). -/
def rowCensusSend (s : State) : Answer :=
  live s execCensusSend

/-- PART_NOT_HEARD (R364). -/
def rowPartNotHeard (seat : Nat) (s : State) : Answer :=
  liveGroup s (execPartNotHeard seat)

/-- SYNC (R365). -/
def rowSync (port : Nat) (h : Header) (time : Nat) (s : State) : Answer :=
  live s (execSync port h time)

/-- SYNC_SEND (R365). -/
def rowSyncSend (port : Nat) (s : State) : Answer :=
  live s (execSyncSend port)

/-- SYNC_REPLY (R366). -/
def rowSyncReply (port : Nat) (h : Header) (t2 t3 time : Nat) (s : State) : Answer :=
  liveGroup s (execSyncReply port h t2 t3 time)

/-- STATE (R372). -/
def rowState (port : Nat) (h : Header) (x : StateInfo) (s : State) : Answer :=
  liveGroup s (execState port h x)

/-- STATE_SEND (R372). -/
def rowStateSend (s : State) : Answer :=
  live s execStateSend

/-- HALT_REPORT (R371). -/
def rowHaltReport (port : Nat) (h : Header) (wrest : Int) (s : State) : Answer :=
  liveGroup s (execHaltReport port h wrest)

/-- ALIGN (R368). -/
def rowAlign (port : Nat) (h : Header) (w : Int) (s : State) : Answer :=
  liveGroup s (execAlign port h w)

/-- ALIGN_SEND (R368). -/
def rowAlignSend (s : State) : Answer :=
  live s execAlignSend

/-- STITCH (R374). -/
def rowStitch (port : Nat) (h : Header) (station side : Nat) (err : Int) (locked : Bool) (s : State) : Answer :=
  live s (execStitch port h station side err locked)

/-- STITCH_SEND (R374). -/
def rowStitchSend (s : State) : Answer :=
  live s execStitchSend

/-- TUNNEL_REQ (R377). -/
def rowTunnelReq (port : Nat) (h : Header) (op index sub : Nat) (bytes : List Nat) (s : State) : Answer :=
  liveGroup s (waking (execTunnelReq port h op index sub bytes))

/-- TUNNEL_RSP (R377). -/
def rowTunnelRsp (port : Nat) (h : Header) (result : Nat) (bytes : List Nat) (s : State) : Answer :=
  live s (waking (execTunnelRsp port h result bytes))

/-- TUNNEL_SEND (R377). -/
def rowTunnelSend (v : Nat) (s : State) : Answer :=
  live s (execTunnelSend v)

/-- TUNNEL_TIMEOUT (R377). -/
def rowTunnelTimeout (s : State) : Answer :=
  live s execTunnelTimeout

/-- HAZARD_SET (R376). -/
def rowHazardSet (port origin hops : Nat) (s : State) : Answer :=
  liveGroup s (execHazardSet port origin hops)

/-- HAZARD_SET_REPEAT (R375). -/
def rowHazardSetRepeat (s : State) : Answer :=
  live s execHazardSetRepeat

/-- HAZARD_SET_TIMEOUT (R376). -/
def rowHazardSetTimeout (origin : Nat) (s : State) : Answer :=
  live s (execHazardSetTimeout origin)

/-- MINORITY_STOP (R379). -/
def rowMinorityStop (s : State) : Answer :=
  liveGroup s execMinorityStop

/-- HAZARD_DEMAND (R383). -/
def rowHazardDemand (src cause : Nat) (s : State) : Answer :=
  liveInput src (s.demandsHigh src) s (execHazardDemand src cause)

/-- HAZARD_SOURCE_CLEAR (R386). -/
def rowHazardSourceClear (src : Nat) (s : State) : Answer :=
  liveInput src (!s.demandsHigh src) s (execHazardSourceClear src)

/-- AUTOMATIC_RELEASE (R386). -/
def rowAutomaticRelease (src : Nat) (s : State) : Answer :=
  liveGroup s (execAutomaticRelease src)

/-- DISCREPANCY_TIMEOUT (R389). -/
def rowDiscrepancyTimeout (pair : Nat) (s : State) : Answer :=
  liveGroup s (execDiscrepancyTimeout pair)

/-- HAZARD_RELEASE (R387). -/
def rowHazardRelease (v : Nat) (s : State) : Answer :=
  liveGroup s (execHazardRelease v)

/-- FUSE_PROGRAM (R395). -/
def rowFuseProgram (key : Nat) (s : State) : Answer :=
  live s (serve 0x4018 (execFuseProgram key))

/-- FUSE_PROGRAM_DONE (R395). -/
def rowFuseProgramDone (copyA copyB : Nat) (s : State) : Answer :=
  live s (execFuseProgramDone copyA copyB)

/-- SEAL (R396). -/
def rowSeal (key : Nat) (s : State) : Answer :=
  live s (execSeal key)

/-- FAULT_COLLECT (R401). -/
def rowFaultCollect (codes : List Nat) (s : State) : Answer :=
  liveGroup s (execFaultCollect codes)

/-- FAULT_PULSE_END (R404). -/
def rowFaultPulseEnd (s : State) : Answer :=
  live s execFaultPulseEnd

/-- CLEAR_FAULT_LATCH (R404). -/
def rowClearFaultLatch (v : Nat) (s : State) : Answer :=
  live s (execClearFaultLatch v)

/-- FAULTN_EXTERNAL_LOW (R405). -/
def rowFaultnExternalLow (s : State) : Answer :=
  live s execFaultnExternalLow

/-- CLEAR_LOG (R415). -/
def rowClearLog (v : Nat) (s : State) : Answer :=
  live s (execClearLog v)

/-- LOCKSTEP_MISMATCH (R408). -/
def rowLockstepMismatch (die cause : Nat) (s : State) : Answer :=
  liveGroup s (execLockstepMismatch die cause)

/-- SUPERVISOR_WATCHDOG_EXPIRY (R416). -/
def rowSupervisorWatchdogExpiry (die : Nat) (s : State) : Answer :=
  liveGroup s (execSupervisorWatchdogExpiry die)

/-- LEAD_DIE_MOVE (R409). -/
def rowLeadDieMove (s : State) : Answer :=
  live s execLeadDieMove

/-- INJECTION_ARM (R411). -/
def rowInjectionArm (s : State) : Answer :=
  live s execInjectionArm

/-- INJECTION_CANCEL (R411). -/
def rowInjectionCancel (s : State) : Answer :=
  live s execInjectionCancel

/-- GATE_READBACK_MISMATCH (R392). -/
def rowGateReadbackMismatch (n : Nat) (s : State) : Answer :=
  liveGroup s (execGateReadbackMismatch n)

/-- HAZARD_NODE_DISAGREEMENT (R392). -/
def rowHazardNodeDisagreement (die : Nat) (s : State) : Answer :=
  liveGroup s (execHazardNodeDisagreement die)

/-- VSTBY_APPLIED (R418). -/
def rowVstbyApplied (s : State) : Answer :=
  always s execVstbyApplied

/-- VSTBY_LOSS (R417). -/
def rowVstbyLoss (s : State) : Answer :=
  always s execVstbyLoss

/-- ON_DELAY_ELAPSED (R420). -/
def rowOnDelayElapsed (r : Nat) (s : State) : Answer :=
  always s (execOnDelayElapsed r)

/-- POWER_UP_STEP_COMPLETE (R420). -/
def rowPowerUpStepComplete (readings : List Nat) (s : State) : Answer :=
  always s (execPowerUpStepComplete readings)

/-- PG_TIMEOUT (R420). -/
def rowPgTimeout (r : Nat) (readings : List Nat) (s : State) : Answer :=
  always s (execPgTimeout r readings)

/-- SHUTDOWN_STEP_COMPLETE (R421). -/
def rowShutdownStepComplete (readings : List Nat) (s : State) : Answer :=
  always s (execShutdownStepComplete readings)

/-- DISCHARGE_TIMEOUT (R421). -/
def rowDischargeTimeout (r : Nat) (readings : List Nat) (s : State) : Answer :=
  always s (execDischargeTimeout r readings)

/-- RAIL_DEPARTURE (R422). -/
def rowRailDeparture (r : Nat) (readings : List Nat) (s : State) : Answer :=
  always s fun s => if s.powered then (execRailDeparture r readings s).settleGroup
    else if s.straps.porLow then execRailDeparture r readings s else s

/-- THERMAL_MODEL_TICK (R427). -/
def rowThermalModelTick (die power : Nat) (s : State) : Answer :=
  liveGroup s (execThermalModelTick die power)

/-- FLASH_GRACE_EXPIRY (R432). -/
def rowFlashGraceExpiry (s : State) : Answer :=
  liveGroup s execFlashGraceExpiry

/-- HOUSEKEEPING_ROUND (R428). -/
def rowHousekeepingRound (diodes readings : List Nat) (tdcBad clockBad nodeBad : Nat) (s : State) : Answer :=
  liveGroup s (execHousekeepingRound diodes readings tdcBad clockBad nodeBad)

/-- SPEED_REQUEST_TIMER (R431). -/
def rowSpeedRequestTimer (die : Nat) (s : State) : Answer :=
  liveGroup s (execSpeedRequestTimer die)

/-- COOL_DOWN_ELAPSED (R433). -/
def rowCoolDownElapsed (s : State) : Answer :=
  always s execCoolDownElapsed

/-- RECESS_ENTRY (R434). -/
def rowRecessEntry (die : Nat) (s : State) : Answer :=
  live s (execRecessEntry die)

/-- RECESS_EXIT (R434). -/
def rowRecessExit (die : Nat) (s : State) : Answer :=
  live s (execRecessExit die)

/-- STANDBY (R436). -/
def rowStandby (v : Nat) (s : State) : Answer :=
  live s (execStandby v)

/-- WAKE_EDGE (R437). -/
def rowWakeEdge (falling : Bool) (s : State) : Answer :=
  always s (execWakeEdge falling)

/-- RTC_ALARM (R437). -/
def rowRtcAlarm (s : State) : Answer :=
  always s execRtcAlarm

/-- USDO_REQUEST (R441). -/
def rowUsdoRequest (ctrl index sub : Nat) (op : UsdoOp) (s : State) : Answer :=
  liveGroup s (waking (execUsdoRequest ctrl index sub op))

/-- USDO_SEGMENT (R442). -/
def rowUsdoSegment (ctrl : Nat) (bytes : List Nat) (last : Bool) (s : State) : Answer :=
  liveGroup s (waking (execUsdoSegment ctrl bytes last))

/-- USDO_TIMEOUT (R442). -/
def rowUsdoTimeout (s : State) : Answer :=
  live s execUsdoTimeout

/-- MIRROR_READ (R456). -/
def rowMirrorRead (n index sub : Nat) (irq : Bool) (vector tag : Nat) (s : State) : Answer :=
  liveGroup s (waking (execMirrorRead n index sub irq vector tag))

/-- MIRROR_WRITE (R456). -/
def rowMirrorWrite (n index sub len : Nat) (irq : Bool) (vector tag : Nat) (s : State) : Answer :=
  liveGroup s (waking (execMirrorWrite n index sub len irq vector tag))

/-- REGISTER_WRITE (R441). -/
def rowRegisterWrite (target : RegTarget) (v : List Nat) (s : State) : Answer :=
  liveGroup s (execRegisterWrite target v)

/-- NMT_START (R448). -/
def rowNmtStart (s : State) : Answer :=
  liveGroup s (waking execNmtStart)

/-- NMT_STOP (R447). -/
def rowNmtStop (s : State) : Answer :=
  liveGroup s (waking execNmtStop)

/-- NMT_ENTER_PRE_OPERATIONAL (R447). -/
def rowNmtEnterPreOperational (s : State) : Answer :=
  liveGroup s (waking execNmtEnterPreOperational)

/-- NMT_RESET_NODE (R449). -/
def rowNmtResetNode (s : State) : Answer :=
  liveGroup s (waking execNmtResetNode)

/-- NMT_RESET_COMMUNICATION (R447). -/
def rowNmtResetCommunication (s : State) : Answer :=
  liveGroup s (waking execNmtResetCommunication)

/-- NMT_DEFERRED_TRANSITION (R447). -/
def rowNmtDeferredTransition (s : State) : Answer :=
  liveGroup s execNmtDeferredTransition

/-- CAN_BUS_OFF (R450). -/
def rowCanBusOff (ctrl : Nat) (s : State) : Answer :=
  liveGroup s (execCanBusOff ctrl)

/-- CAN_ERROR_PASSIVE (R471). -/
def rowCanErrorPassive (ctrl : Nat) (s : State) : Answer :=
  live s (execCanErrorPassive ctrl)

/-- HEARTBEAT_TIMEOUT (R450). -/
def rowHeartbeatTimeout (k : Nat) (s : State) : Answer :=
  liveGroup s (execHeartbeatTimeout k)

/-- HEARTBEAT_SEND (R446). -/
def rowHeartbeatSend (s : State) : Answer :=
  live s execHeartbeatSend

/-- HEARTBEAT_RECEIVED (R443). -/
def rowHeartbeatReceived (node : Nat) (s : State) : Answer :=
  live s (waking (execHeartbeatReceived node))

/-- BUS_OFF_RECOVERY (R471). -/
def rowBusOffRecovery (ctrl : Nat) (s : State) : Answer :=
  live s (execBusOffRecovery ctrl)

/-- RPDO (R460). -/
def rowRpdo (k : Nat) (bytes : List Nat) (s : State) : Answer :=
  liveGroup s (waking (execRpdo k bytes))

/-- TPDO_TRANSMIT (R459). -/
def rowTpdoTransmit (k : Nat) (s : State) : Answer :=
  live s (execTpdoTransmit k)

/-- SYNC_MESSAGE (R459). -/
def rowSyncMessage (counter : Nat) (s : State) : Answer :=
  liveGroup s (waking (execSyncMessage counter))

/-- TIME_MESSAGE (R458). -/
def rowTimeMessage (value t : Nat) (s : State) : Answer :=
  live s (waking (execTimeMessage value t))

/-- ERROR_LIST_CLEAR (R457). -/
def rowErrorListClear (v : Nat) (s : State) : Answer :=
  live s (execErrorListClear v)

/-- TRACE_READ (R470). -/
def rowTraceRead (s : State) : Answer :=
  live s (serve 0x4402 (execTraceRead))

/-- TRACE_ENABLE_WRITE (R470). -/
def rowTraceEnableWrite (v : Nat) (s : State) : Answer :=
  live s (execTraceEnableWrite v)

/-- HOST_AREA_READ (R477). -/
def rowHostAreaRead (s : State) : Answer :=
  live s execHostAreaRead

/-- HOST_AREA_PROGRAM (R477). -/
def rowHostAreaProgram (s : State) : Answer :=
  live s execHostAreaProgram

/-- HOST_AREA_ERASE (R477). -/
def rowHostAreaErase (s : State) : Answer :=
  live s execHostAreaErase

/-- FLASH_OPERATION_COMPLETE (R476). -/
def rowFlashOperationComplete (ok : Bool) (s : State) : Answer :=
  live s (execFlashOperationComplete ok)

/-- STORE_SETTINGS (R483). -/
def rowStoreSettings (index : Nat) (s : State) : Answer :=
  live s (execStoreSettings index)

/-- RESTORE_DEFAULTS (R483). -/
def rowRestoreDefaults (v : Nat) (s : State) : Answer :=
  live s (execRestoreDefaults v)

/-- TRANSFER_BEGIN (R486). -/
def rowTransferBegin (s : State) : Answer :=
  live s execTransferBegin

/-- TRANSFER_CANCEL (R488). -/
def rowTransferCancel (s : State) : Answer :=
  live s execTransferCancel

/-- TRANSFER_VERIFY (R488). -/
def rowTransferVerify (s : State) : Answer :=
  live s (execTransferVerify)

/-- PIECE (R486). -/
def rowPiece (bytes : List Nat) (s : State) : Answer :=
  live s (execPiece bytes)

/-- CONFIRM (R491). -/
def rowConfirm (s : State) : Answer :=
  live s execConfirm

/-- REVERT (R491). -/
def rowRevert (s : State) : Answer :=
  live s execRevert

/-- BOOT (R490). -/
def rowBoot (s : State) : Answer :=
  always s execBoot

/-- PORN (R513). -/
def rowPorn (high legacy boot0 boot1 : Bool) (s : State) : Answer :=
  always s (execPorn high legacy boot0 boot1)

/-- RSTN (R513). -/
def rowRstn (s : State) : Answer :=
  live s execRstn

/-- STRAP_SAMPLE (R445). -/
def rowStrapSample (levels : Nat) (s : State) : Answer :=
  always s (execStrapSample levels)

/-- MFIO_FUNCTION_WRITE (R506). -/
def rowMfioFunctionWrite (n sub v : Nat) (s : State) : Answer :=
  live s (execMfioFunctionWrite n sub v)

/-- TCK_EDGE (R508). -/
def rowTckEdge (tms tdi : Bool) (s : State) : Answer :=
  always s (execTckEdge tms tdi)

end Sys2Proof.Machine
end

