-- ==== Sys2Proof/Machine/Dispatch.lean ====
section
/-! DEFINITION. One arm per command. -/

namespace Sys2Proof.Machine

def exec (i : Instr) (s : State) : Host.Outcome State Fault Refusal :=
  match i with
  | .masterWebEncoderWrite v => Sys2Proof.Machine.rowMasterWebEncoderWrite v s
  | .webScaleWrite v => Sys2Proof.Machine.rowWebScaleWrite v s
  | .webDirectionWrite v => Sys2Proof.Machine.rowWebDirectionWrite v s
  | .webPositionPreset w => Sys2Proof.Machine.rowWebPositionPreset w s
  | .printableWidthWrite st v => Sys2Proof.Machine.rowPrintableWidthWrite st v s
  | .nextOriginWrite w => Sys2Proof.Machine.rowNextOriginWrite w s
  | .declare slot => Sys2Proof.Machine.rowDeclare slot s
  | .withdraw slot => Sys2Proof.Machine.rowWithdraw slot s
  | .storeGrant slot => Sys2Proof.Machine.rowStoreGrant slot s
  | .commit slot => Sys2Proof.Machine.rowCommit slot s
  | .commitDeadline slot => Sys2Proof.Machine.rowCommitDeadline slot s
  | .bell slot st => Sys2Proof.Machine.rowBell slot st s
  | .decelerationStart => Sys2Proof.Machine.rowDecelerationStart s
  | .webAtRest => Sys2Proof.Machine.rowWebAtRest s
  | .reverseComplete => Sys2Proof.Machine.rowReverseComplete s
  | .correctiveMoveDone => Sys2Proof.Machine.rowCorrectiveMoveDone s
  | .restart => Sys2Proof.Machine.rowRestart s
  | .restartSpeedReached => Sys2Proof.Machine.rowRestartSpeedReached s
  | .fuserNipClosePoint => Sys2Proof.Machine.rowFuserNipClosePoint s
  | .timetableRun => Sys2Proof.Machine.rowTimetableRun s
  | .timetableHalt => Sys2Proof.Machine.rowTimetableHalt s
  | .timetableEnd => Sys2Proof.Machine.rowTimetableEnd s
  | .bandModeWrite st v => Sys2Proof.Machine.rowBandModeWrite st v s
  | .barAbsentAccess write access => Sys2Proof.Machine.rowBarAbsentAccess write access s
  | .diagnosticStoreRead offset size failure => Sys2Proof.Machine.rowDiagnosticStoreRead offset size failure s
  | .diagnosticStoreWrite offset size value => Sys2Proof.Machine.rowDiagnosticStoreWrite offset size value s
  | .ringEnable q => Sys2Proof.Machine.rowRingEnable q s
  | .ringReset q => Sys2Proof.Machine.rowRingReset q s
  | .doorbell q v => Sys2Proof.Machine.rowDoorbell q v s
  | .eventRingDoorbell q v => Sys2Proof.Machine.rowEventRingDoorbell q v s
  | .descriptorFetch q desc => Sys2Proof.Machine.rowDescriptorFetch q desc s
  | .dmaBeat die => Sys2Proof.Machine.rowDmaBeat die s
  | .dmaReadCompletion q status bytes => Sys2Proof.Machine.rowDmaReadCompletion q status bytes s
  | .completionTimeout q => Sys2Proof.Machine.rowCompletionTimeout q s
  | .lineStored q => Sys2Proof.Machine.rowLineStored q s
  | .descriptorComplete q => Sys2Proof.Machine.rowDescriptorComplete q s
  | .functionLevelReset => Sys2Proof.Machine.rowFunctionLevelReset s
  | .hotReset => Sys2Proof.Machine.rowHotReset s
  | .pcieLinkLoss => Sys2Proof.Machine.rowPcieLinkLoss s
  | .pcieLinkTrained speed width => Sys2Proof.Machine.rowPcieLinkTrained speed width s
  | .playbackLineDecode slot lane y chan failed undecodable => Sys2Proof.Machine.rowPlaybackLineDecode slot lane y chan failed undecodable s
  | .channelLost c => Sys2Proof.Machine.rowChannelLost c s
  | .arbiterWindowStart => Sys2Proof.Machine.rowArbiterWindowStart s
  | .arbiterGrant port pending => Sys2Proof.Machine.rowArbiterGrant port pending s
  | .grantWithdrawn port => Sys2Proof.Machine.rowGrantWithdrawn port s
  | .compressorBlockEmit q block => Sys2Proof.Machine.rowCompressorBlockEmit q block s
  | .codecCompressJob q blocks => Sys2Proof.Machine.rowCodecCompressJob q blocks s
  | .codecDecompressJob q => Sys2Proof.Machine.rowCodecDecompressJob q s
  | .programStart lane slot n facet => Sys2Proof.Machine.rowProgramStart lane slot n facet s
  | .lineStartCommitment g => Sys2Proof.Machine.rowLineStartCommitment g s
  | .windowFill slot lane y => Sys2Proof.Machine.rowWindowFill slot lane y s
  | .nop lane => Sys2Proof.Machine.rowNop lane s
  | .add lane sd sa sb => Sys2Proof.Machine.rowAdd lane sd sa sb s
  | .sub lane sd sa sb => Sys2Proof.Machine.rowSub lane sd sa sb s
  | .and_ lane sd sa sb => Sys2Proof.Machine.rowAnd lane sd sa sb s
  | .or_ lane sd sa sb => Sys2Proof.Machine.rowOr lane sd sa sb s
  | .shl lane sd sa sb => Sys2Proof.Machine.rowShl lane sd sa sb s
  | .shr lane sd sa sb => Sys2Proof.Machine.rowShr lane sd sa sb s
  | .mul lane sd sa sb => Sys2Proof.Machine.rowMul lane sd sa sb s
  | .addi lane sd sa imm => Sys2Proof.Machine.rowAddi lane sd sa imm s
  | .andi lane sd sa imm => Sys2Proof.Machine.rowAndi lane sd sa imm s
  | .ori lane sd sa imm => Sys2Proof.Machine.rowOri lane sd sa imm s
  | .shli lane sd sa imm => Sys2Proof.Machine.rowShli lane sd sa imm s
  | .shri lane sd sa imm => Sys2Proof.Machine.rowShri lane sd sa imm s
  | .lui lane sd imm => Sys2Proof.Machine.rowLui lane sd imm s
  | .ldw lane sd sa imm => Sys2Proof.Machine.rowLdw lane sd sa imm s
  | .stw lane sd sa imm => Sys2Proof.Machine.rowStw lane sd sa imm s
  | .gets lane sd sel => Sys2Proof.Machine.rowGets lane sd sel s
  | .jmp lane target => Sys2Proof.Machine.rowJmp lane target s
  | .beq lane sa sb target => Sys2Proof.Machine.rowBeq lane sa sb target s
  | .bne lane sa sb target => Sys2Proof.Machine.rowBne lane sa sb target s
  | .blt lane sa sb target => Sys2Proof.Machine.rowBlt lane sa sb target s
  | .bge lane sa sb target => Sys2Proof.Machine.rowBge lane sa sb target s
  | .loop lane sa target => Sys2Proof.Machine.rowLoop lane sa target s
  | .call lane target => Sys2Proof.Machine.rowCall lane target s
  | .ret lane => Sys2Proof.Machine.rowRet lane s
  | .endl lane => Sys2Proof.Machine.rowEndl lane s
  | .wld lane v line sa off => Sys2Proof.Machine.rowWld lane v line sa off s
  | .edge lane v sa off => Sys2Proof.Machine.rowEdge lane v sa off s
  | .vld lane v sa off => Sys2Proof.Machine.rowVld lane v sa off s
  | .vst lane v sa off => Sys2Proof.Machine.rowVst lane v sa off s
  | .vadds lane vd va vb => Sys2Proof.Machine.rowVadds lane vd va vb s
  | .vsubs lane vd va vb => Sys2Proof.Machine.rowVsubs lane vd va vb s
  | .vmin lane vd va vb => Sys2Proof.Machine.rowVmin lane vd va vb s
  | .vmax lane vd va vb => Sys2Proof.Machine.rowVmax lane vd va vb s
  | .vand lane vd va vb => Sys2Proof.Machine.rowVand lane vd va vb s
  | .vor lane vd va vb => Sys2Proof.Machine.rowVor lane vd va vb s
  | .vsplat lane vd sa => Sys2Proof.Machine.rowVsplat lane vd sa s
  | .vshr lane vd va imm => Sys2Proof.Machine.rowVshr lane vd va imm s
  | .vcmpgt lane vd va vb => Sys2Proof.Machine.rowVcmpgt lane vd va vb s
  | .vsel lane vd va vb => Sys2Proof.Machine.rowVsel lane vd va vb s
  | .vlut lane vd va imm => Sys2Proof.Machine.rowVlut lane vd va imm s
  | .twid lane vd va => Sys2Proof.Machine.rowTwid lane vd va s
  | .tstart lane vd va vb => Sys2Proof.Machine.rowTstart lane vd va vb s
  | .emit lane va vb sa => Sys2Proof.Machine.rowEmit lane va vb sa s
  | .illegalInstruction lane => Sys2Proof.Machine.rowIllegalInstruction lane s
  | .laneMemoryWrite lane offset size value => Sys2Proof.Machine.rowLaneMemoryWrite lane offset size value s
  | .laneLoad image scope l => Sys2Proof.Machine.rowLaneLoad image scope l s
  | .laneStart scope l => Sys2Proof.Machine.rowLaneStart scope l s
  | .laneStop scope l => Sys2Proof.Machine.rowLaneStop scope l s
  | .laneRelease scope l => Sys2Proof.Machine.rowLaneRelease scope l s
  | .applyToneTable st v => Sys2Proof.Machine.rowApplyToneTable st v s
  | .draftWrite lane offset size value => Sys2Proof.Machine.rowDraftWrite lane offset size value s
  | .draftObjectWrite lane bytes => Sys2Proof.Machine.rowDraftObjectWrite lane bytes s
  | .flipNextFacet scope l => Sys2Proof.Machine.rowFlipNextFacet scope l s
  | .flipNamedBell seq scope l => Sys2Proof.Machine.rowFlipNamedBell seq scope l s
  | .flipCancel scope l => Sys2Proof.Machine.rowFlipCancel scope l s
  | .draftCopyComplete lane => Sys2Proof.Machine.rowDraftCopyComplete lane s
  | .knotWriteDescriptor q => Sys2Proof.Machine.rowKnotWriteDescriptor q s
  | .facetWriteDescriptor q => Sys2Proof.Machine.rowFacetWriteDescriptor q s
  | .flipDescriptor q => Sys2Proof.Machine.rowFlipDescriptor q s
  | .applyStitchSettings st v => Sys2Proof.Machine.rowApplyStitchSettings st v s
  | .bdEdge g pulse => Sys2Proof.Machine.rowBdEdge g pulse s
  | .bdMissing g => Sys2Proof.Machine.rowBdMissing g s
  | .phaseSample g => Sys2Proof.Machine.rowPhaseSample g s
  | .lineStart g => Sys2Proof.Machine.rowLineStart g s
  | .lineEnd g => Sys2Proof.Machine.rowLineEnd g s
  | .scannerStart g => Sys2Proof.Machine.rowScannerStart g s
  | .scannerStop g => Sys2Proof.Machine.rowScannerStop g s
  | .scannerRelease g => Sys2Proof.Machine.rowScannerRelease g s
  | .scannerRelearn g => Sys2Proof.Machine.rowScannerRelearn g s
  | .spinUpElapsed g => Sys2Proof.Machine.rowSpinUpElapsed g s
  | .codeFrameSend g => Sys2Proof.Machine.rowCodeFrameSend g s
  | .trimFrameSend g => Sys2Proof.Machine.rowTrimFrameSend g s
  | .timeFrameSend g => Sys2Proof.Machine.rowTimeFrameSend g s
  | .backChannelLock g => Sys2Proof.Machine.rowBackChannelLock g s
  | .statusFrame g raw => Sys2Proof.Machine.rowStatusFrame g raw s
  | .powerFrame g raw => Sys2Proof.Machine.rowPowerFrame g raw s
  | .identFrame g raw => Sys2Proof.Machine.rowIdentFrame g raw s
  | .badBackChannelFrame g => Sys2Proof.Machine.rowBadBackChannelFrame g s
  | .statusTimeout g => Sys2Proof.Machine.rowStatusTimeout g s
  | .identTimeout g => Sys2Proof.Machine.rowIdentTimeout g s
  | .retrainElapsed g => Sys2Proof.Machine.rowRetrainElapsed g s
  | .linkEnable g => Sys2Proof.Machine.rowLinkEnable g s
  | .linkDisable g => Sys2Proof.Machine.rowLinkDisable g s
  | .linkClear g => Sys2Proof.Machine.rowLinkClear g s
  | .laserEnReadbackMismatch g => Sys2Proof.Machine.rowLaserEnReadbackMismatch g s
  | .bdWatchdog g => Sys2Proof.Machine.rowBdWatchdog g s
  | .bdRetryElapsed g => Sys2Proof.Machine.rowBdRetryElapsed g s
  | .countEdge ch a b t => Sys2Proof.Machine.rowCountEdge ch a b t s
  | .encoderAlarm ch => Sys2Proof.Machine.rowEncoderAlarm ch s
  | .indexEdge ch t => Sys2Proof.Machine.rowIndexEdge ch t s
  | .serialReadStart ch t low => Sys2Proof.Machine.rowSerialReadStart ch t low s
  | .serialWord ch word => Sys2Proof.Machine.rowSerialWord ch word s
  | .serialWordTimeout ch => Sys2Proof.Machine.rowSerialWordTimeout ch s
  | .channelClear ch => Sys2Proof.Machine.rowChannelClear ch s
  | .channelArm ch => Sys2Proof.Machine.rowChannelArm ch s
  | .channelSet ch => Sys2Proof.Machine.rowChannelSet ch s
  | .latchCapture n t rising => Sys2Proof.Machine.rowLatchCapture n t rising s
  | .latchQueueRead n => Sys2Proof.Machine.rowLatchQueueRead n s
  | .comparePulseEnd n => Sys2Proof.Machine.rowComparePulseEnd n s
  | .compareAppend n entries => Sys2Proof.Machine.rowCompareAppend n entries s
  | .compareAppendDescriptor q => Sys2Proof.Machine.rowCompareAppendDescriptor q s
  | .compareConfigWrite n v => Sys2Proof.Machine.rowCompareConfigWrite n v s
  | .axisEnable a => Sys2Proof.Machine.rowAxisEnable a s
  | .axisDisable a => Sys2Proof.Machine.rowAxisDisable a s
  | .move a => Sys2Proof.Machine.rowMove a s
  | .jog a => Sys2Proof.Machine.rowJog a s
  | .gear a => Sys2Proof.Machine.rowGear a s
  | .axisHalt a => Sys2Proof.Machine.rowAxisHalt a s
  | .axisStop a => Sys2Proof.Machine.rowAxisStop a s
  | .setPosition a => Sys2Proof.Machine.rowSetPosition a s
  | .axisClear a => Sys2Proof.Machine.rowAxisClear a s
  | .tension a => Sys2Proof.Machine.rowTension a s
  | .moveComplete a => Sys2Proof.Machine.rowMoveComplete a s
  | .haltComplete a => Sys2Proof.Machine.rowHaltComplete a s
  | .gearArmCrossing a => Sys2Proof.Machine.rowGearArmCrossing a s
  | .hallChange a levels => Sys2Proof.Machine.rowHallChange a levels s
  | .pwmPeriod a => Sys2Proof.Machine.rowPwmPeriod a s
  | .stepEmit a => Sys2Proof.Machine.rowStepEmit a s
  | .conversionComplete conv code => Sys2Proof.Machine.rowConversionComplete conv code s
  | .loopTrigger j => Sys2Proof.Machine.rowLoopTrigger j s
  | .loopComputation j => Sys2Proof.Machine.rowLoopComputation j s
  | .slotEnable j => Sys2Proof.Machine.rowSlotEnable j s
  | .slotDisable j => Sys2Proof.Machine.rowSlotDisable j s
  | .slotSelectBank0 j => Sys2Proof.Machine.rowSlotSelectBank0 j s
  | .slotSelectBank1 j => Sys2Proof.Machine.rowSlotSelectBank1 j s
  | .slotClearFlags j => Sys2Proof.Machine.rowSlotClearFlags j s
  | .deltaSigmaOutput m n => Sys2Proof.Machine.rowDeltaSigmaOutput m n s
  | .fastFilterOutput m n => Sys2Proof.Machine.rowFastFilterOutput m n s
  | .deltaSigmaInputLost m => Sys2Proof.Machine.rowDeltaSigmaInputLost m s
  | .arcBlankingElapsed h => Sys2Proof.Machine.rowArcBlankingElapsed h s
  | .hvEnable h => Sys2Proof.Machine.rowHvEnable h s
  | .hvDisable h => Sys2Proof.Machine.rowHvDisable h s
  | .hvClear h => Sys2Proof.Machine.rowHvClear h s
  | .zeroCrossing z t rising => Sys2Proof.Machine.rowZeroCrossing z t rising s
  | .firingDelayElapsed z => Sys2Proof.Machine.rowFiringDelayElapsed z s
  | .zeroCrossTimeout z => Sys2Proof.Machine.rowZeroCrossTimeout z s
  | .fuserSample z => Sys2Proof.Machine.rowFuserSample z s
  | .bandHoldElapsed z => Sys2Proof.Machine.rowBandHoldElapsed z s
  | .zoneStart z => Sys2Proof.Machine.rowZoneStart z s
  | .zoneStop z => Sys2Proof.Machine.rowZoneStop z s
  | .zoneClear z => Sys2Proof.Machine.rowZoneClear z s
  | .zoneSetback z => Sys2Proof.Machine.rowZoneSetback z s
  | .zoneResume z => Sys2Proof.Machine.rowZoneResume z s
  | .fuserRunSetpointWrite z v => Sys2Proof.Machine.rowFuserRunSetpointWrite z v s
  | .nipOpen => Sys2Proof.Machine.rowNipOpen s
  | .nipClose => Sys2Proof.Machine.rowNipClose s
  | .pllLock die pll => Sys2Proof.Machine.rowPllLock die pll s
  | .pllLockTimeout die pll => Sys2Proof.Machine.rowPllLockTimeout die pll s
  | .pllLossOfLock die pll => Sys2Proof.Machine.rowPllLossOfLock die pll s
  | .refclkLost => Sys2Proof.Machine.rowRefclkLost s
  | .dividerCommit die v => Sys2Proof.Machine.rowDividerCommit die v s
  | .outputEnableWrite die v => Sys2Proof.Machine.rowOutputEnableWrite die v s
  | .auxPllConfigWrite die sub v => Sys2Proof.Machine.rowAuxPllConfigWrite die sub v s
  | .vote port h seq ready origin hg restart => Sys2Proof.Machine.rowVote port h seq ready origin hg restart s
  | .commitFrame port h seq => Sys2Proof.Machine.rowCommitFrame port h seq s
  | .late port h seq => Sys2Proof.Machine.rowLate port h seq s
  | .portUp port => Sys2Proof.Machine.rowPortUp port s
  | .portDown port => Sys2Proof.Machine.rowPortDown port s
  | .badHalingFrame port => Sys2Proof.Machine.rowBadHalingFrame port s
  | .roll port h r => Sys2Proof.Machine.rowRoll port h r s
  | .rollSend => Sys2Proof.Machine.rowRollSend s
  | .census port h seats dGroup => Sys2Proof.Machine.rowCensus port h seats dGroup s
  | .censusSend => Sys2Proof.Machine.rowCensusSend s
  | .partNotHeard seat => Sys2Proof.Machine.rowPartNotHeard seat s
  | .sync port h time => Sys2Proof.Machine.rowSync port h time s
  | .syncSend port => Sys2Proof.Machine.rowSyncSend port s
  | .syncReply port h t2 t3 time => Sys2Proof.Machine.rowSyncReply port h t2 t3 time s
  | .state_ port h x => Sys2Proof.Machine.rowState port h x s
  | .stateSend => Sys2Proof.Machine.rowStateSend s
  | .haltReport port h wrest => Sys2Proof.Machine.rowHaltReport port h wrest s
  | .align_ port h w => Sys2Proof.Machine.rowAlign port h w s
  | .alignSend => Sys2Proof.Machine.rowAlignSend s
  | .stitch port h station side err locked => Sys2Proof.Machine.rowStitch port h station side err locked s
  | .stitchSend => Sys2Proof.Machine.rowStitchSend s
  | .tunnelReq port h op index sub bytes => Sys2Proof.Machine.rowTunnelReq port h op index sub bytes s
  | .tunnelRsp port h result bytes => Sys2Proof.Machine.rowTunnelRsp port h result bytes s
  | .tunnelSend v => Sys2Proof.Machine.rowTunnelSend v s
  | .tunnelTimeout => Sys2Proof.Machine.rowTunnelTimeout s
  | .hazardSet port origin hops => Sys2Proof.Machine.rowHazardSet port origin hops s
  | .hazardSetRepeat => Sys2Proof.Machine.rowHazardSetRepeat s
  | .hazardSetTimeout origin => Sys2Proof.Machine.rowHazardSetTimeout origin s
  | .minorityStop => Sys2Proof.Machine.rowMinorityStop s
  | .hazardDemand src cause => Sys2Proof.Machine.rowHazardDemand src cause s
  | .hazardSourceClear src => Sys2Proof.Machine.rowHazardSourceClear src s
  | .automaticRelease src => Sys2Proof.Machine.rowAutomaticRelease src s
  | .discrepancyTimeout pair => Sys2Proof.Machine.rowDiscrepancyTimeout pair s
  | .hazardRelease v => Sys2Proof.Machine.rowHazardRelease v s
  | .fuseProgram key => Sys2Proof.Machine.rowFuseProgram key s
  | .fuseProgramDone copyA copyB => Sys2Proof.Machine.rowFuseProgramDone copyA copyB s
  | .seal_ key => Sys2Proof.Machine.rowSeal key s
  | .faultCollect codes => Sys2Proof.Machine.rowFaultCollect codes s
  | .faultPulseEnd => Sys2Proof.Machine.rowFaultPulseEnd s
  | .clearFaultLatch v => Sys2Proof.Machine.rowClearFaultLatch v s
  | .faultnExternalLow => Sys2Proof.Machine.rowFaultnExternalLow s
  | .clearLog v => Sys2Proof.Machine.rowClearLog v s
  | .lockstepMismatch die cause => Sys2Proof.Machine.rowLockstepMismatch die cause s
  | .supervisorWatchdogExpiry die => Sys2Proof.Machine.rowSupervisorWatchdogExpiry die s
  | .leadDieMove => Sys2Proof.Machine.rowLeadDieMove s
  | .injectionArm => Sys2Proof.Machine.rowInjectionArm s
  | .injectionCancel => Sys2Proof.Machine.rowInjectionCancel s
  | .gateReadbackMismatch n => Sys2Proof.Machine.rowGateReadbackMismatch n s
  | .hazardNodeDisagreement die => Sys2Proof.Machine.rowHazardNodeDisagreement die s
  | .vstbyApplied => Sys2Proof.Machine.rowVstbyApplied s
  | .vstbyLoss => Sys2Proof.Machine.rowVstbyLoss s
  | .onDelayElapsed r => Sys2Proof.Machine.rowOnDelayElapsed r s
  | .powerUpStepComplete readings => Sys2Proof.Machine.rowPowerUpStepComplete readings s
  | .pgTimeout r readings => Sys2Proof.Machine.rowPgTimeout r readings s
  | .shutdownStepComplete readings => Sys2Proof.Machine.rowShutdownStepComplete readings s
  | .dischargeTimeout r readings => Sys2Proof.Machine.rowDischargeTimeout r readings s
  | .railDeparture r readings => Sys2Proof.Machine.rowRailDeparture r readings s
  | .thermalModelTick die power => Sys2Proof.Machine.rowThermalModelTick die power s
  | .flashGraceExpiry => Sys2Proof.Machine.rowFlashGraceExpiry s
  | .housekeepingRound diodes readings tdcBad clockBad nodeBad => Sys2Proof.Machine.rowHousekeepingRound diodes readings tdcBad clockBad nodeBad s
  | .speedRequestTimer die => Sys2Proof.Machine.rowSpeedRequestTimer die s
  | .coolDownElapsed => Sys2Proof.Machine.rowCoolDownElapsed s
  | .recessEntry die => Sys2Proof.Machine.rowRecessEntry die s
  | .recessExit die => Sys2Proof.Machine.rowRecessExit die s
  | .standby v => Sys2Proof.Machine.rowStandby v s
  | .wakeEdge falling => Sys2Proof.Machine.rowWakeEdge falling s
  | .rtcAlarm => Sys2Proof.Machine.rowRtcAlarm s
  | .usdoRequest ctrl index sub op => Sys2Proof.Machine.rowUsdoRequest ctrl index sub op s
  | .usdoSegment ctrl bytes last => Sys2Proof.Machine.rowUsdoSegment ctrl bytes last s
  | .usdoTimeout => Sys2Proof.Machine.rowUsdoTimeout s
  | .mirrorRead n index sub irq vector tag => Sys2Proof.Machine.rowMirrorRead n index sub irq vector tag s
  | .mirrorWrite n index sub len irq vector tag => Sys2Proof.Machine.rowMirrorWrite n index sub len irq vector tag s
  | .registerWrite target v => Sys2Proof.Machine.rowRegisterWrite target v s
  | .nmtStart => Sys2Proof.Machine.rowNmtStart s
  | .nmtStop => Sys2Proof.Machine.rowNmtStop s
  | .nmtEnterPreOperational => Sys2Proof.Machine.rowNmtEnterPreOperational s
  | .nmtResetNode => Sys2Proof.Machine.rowNmtResetNode s
  | .nmtResetCommunication => Sys2Proof.Machine.rowNmtResetCommunication s
  | .nmtDeferredTransition => Sys2Proof.Machine.rowNmtDeferredTransition s
  | .canBusOff ctrl => Sys2Proof.Machine.rowCanBusOff ctrl s
  | .canErrorPassive ctrl => Sys2Proof.Machine.rowCanErrorPassive ctrl s
  | .heartbeatTimeout k => Sys2Proof.Machine.rowHeartbeatTimeout k s
  | .heartbeatSend => Sys2Proof.Machine.rowHeartbeatSend s
  | .heartbeatReceived node => Sys2Proof.Machine.rowHeartbeatReceived node s
  | .busOffRecovery ctrl => Sys2Proof.Machine.rowBusOffRecovery ctrl s
  | .rpdo k bytes => Sys2Proof.Machine.rowRpdo k bytes s
  | .tpdoTransmit k => Sys2Proof.Machine.rowTpdoTransmit k s
  | .syncMessage counter => Sys2Proof.Machine.rowSyncMessage counter s
  | .timeMessage value t => Sys2Proof.Machine.rowTimeMessage value t s
  | .errorListClear v => Sys2Proof.Machine.rowErrorListClear v s
  | .traceRead => Sys2Proof.Machine.rowTraceRead s
  | .traceEnableWrite v => Sys2Proof.Machine.rowTraceEnableWrite v s
  | .hostAreaRead => Sys2Proof.Machine.rowHostAreaRead s
  | .hostAreaProgram => Sys2Proof.Machine.rowHostAreaProgram s
  | .hostAreaErase => Sys2Proof.Machine.rowHostAreaErase s
  | .flashOperationComplete ok => Sys2Proof.Machine.rowFlashOperationComplete ok s
  | .storeSettings index => Sys2Proof.Machine.rowStoreSettings index s
  | .restoreDefaults v => Sys2Proof.Machine.rowRestoreDefaults v s
  | .transferBegin => Sys2Proof.Machine.rowTransferBegin s
  | .transferCancel => Sys2Proof.Machine.rowTransferCancel s
  | .transferVerify => Sys2Proof.Machine.rowTransferVerify s
  | .piece bytes => Sys2Proof.Machine.rowPiece bytes s
  | .confirm => Sys2Proof.Machine.rowConfirm s
  | .revert => Sys2Proof.Machine.rowRevert s
  | .boot => Sys2Proof.Machine.rowBoot s
  | .porn high legacy boot0 boot1 => Sys2Proof.Machine.rowPorn high legacy boot0 boot1 s
  | .rstn => Sys2Proof.Machine.rowRstn s
  | .strapSample levels => Sys2Proof.Machine.rowStrapSample levels s
  | .mfioFunctionWrite n sub v => Sys2Proof.Machine.rowMfioFunctionWrite n sub v s
  | .tckEdge tms tdi => Sys2Proof.Machine.rowTckEdge tms tdi s

end Sys2Proof.Machine
end

