-- ==== Sys2Proof/WellFormed.lean ====
section
/-! DEFINITION. Well-formed commands: every operand lies in the range that its unit's number, its register's width or its
field of an encoding gives it. A command outside its range still has a meaning; a sender that follows the spec sends none. -/

namespace Sys2Proof

/-- Every entry is a byte. -/
def bytesOk (bs : List Nat) : Bool := bs.all fun b => decide (b < 256)

/-- A signed operand of `n` bits. -/
def signedOk (n : Nat) (i : Int) : Bool := decide (-(2 ^ (n - 1)) ≤ i) && decide (i < 2 ^ (n - 1))

/-- Header fields as wide as Table 12-1 gives them. -/
def Header.ok (h : Header) : Bool :=
  decide (h.src < 1024) && decide (h.dest < 1024) && decide (h.hops < 1024) && decide (h.gen < 65536) && decide (h.fseq < 65536)
    && decide (h.stamp < 2 ^ 40)

/-- A USDO request carries bytes. -/
def UsdoOp.ok : UsdoOp → Bool
  | .read => true
  | .write bs => bytesOk bs
  | .begin bs => bytesOk bs
  | .unknown => true

/-- An object has an index and a sub-index; an access to the BARs has a size of 1 to 8 bytes. -/
def RegTarget.ok : RegTarget → Bool
  | .object index sub => decide (index < 65536) && decide (sub < 256)
  | .bar b _ size => decide (b < 6) && decide (1 ≤ size) && decide (size ≤ 8)
  | .maxPayload => true
  | .maxReadRequest => true
  | .tenBitTags => true
  | .aspm => true
  | .msixControl => true
  | .aerLog => true

/-- The command is well formed. -/
def Instr.wf : Instr → Bool
  | .masterWebEncoderWrite v => decide (v < 256)
  | .webScaleWrite v => decide (v < 2 ^ 64)
  | .webDirectionWrite v => decide (v < 256)
  | .webPositionPreset w => signedOk 64 w
  | .printableWidthWrite st v => decide (st < 8) && decide (v < 2 ^ 32)
  | .nextOriginWrite w => signedOk 64 w
  | .declare slot => decide (slot < 32)
  | .withdraw slot => decide (slot < 32)
  | .storeGrant slot => decide (slot < 32)
  | .commit slot => decide (slot < 32)
  | .commitDeadline slot => decide (slot < 32)
  | .bell slot st => decide (slot < 32) && decide (st < 8)
  | .decelerationStart => true
  | .webAtRest => true
  | .reverseComplete => true
  | .correctiveMoveDone => true
  | .restart => true
  | .restartSpeedReached => true
  | .fuserNipClosePoint => true
  | .timetableRun => true
  | .timetableHalt => true
  | .timetableEnd => true
  | .bandModeWrite st v => decide (st < 8) && decide (v < 256)
  | .barAbsentAccess _ a => decide (a.bar < 6) && decide (1 ≤ a.size) && decide (a.size ≤ 8) && decide (a.value < 2 ^ 64)
  | .diagnosticStoreRead offset size failure => decide (offset < 2 ^ 36) && decide (1 ≤ size) && decide (size ≤ 8) && decide (failure < 3)
  | .diagnosticStoreWrite offset size value => decide (offset < 2 ^ 36) && decide (1 ≤ size) && decide (size ≤ 8) && decide (value < 2 ^ 64)
  | .ringEnable q => decide (q < 2 ^ 16)
  | .ringReset q => decide (q < 2 ^ 16)
  | .doorbell q v => decide (q < 2 ^ 16) && decide (v < 2 ^ 32)
  | .eventRingDoorbell q v => decide (q < 2 ^ 16) && decide (v < 2 ^ 32)
  | .descriptorFetch q desc => decide (q < 2 ^ 16) && (desc.all fun d => decide (d < 2 ^ 512))
  | .dmaBeat die => decide (die < 8)
  | .dmaReadCompletion q _ bytes => decide (q < 2 ^ 16) && bytesOk bytes
  | .completionTimeout q => decide (q < 2 ^ 16)
  | .lineStored q => decide (q < 2 ^ 16)
  | .descriptorComplete q => decide (q < 2 ^ 16)
  | .functionLevelReset => true
  | .hotReset => true
  | .pcieLinkLoss => true
  | .pcieLinkTrained speed width => decide (speed < 16) && decide (width < 16)
  | .playbackLineDecode slot lane y chan _ _ => decide (slot < 32) && decide (lane < 1024) && decide (y < 2 ^ 32) && decide (chan < 2)
  | .channelLost c => decide (c < 2)
  | .arbiterWindowStart => true
  | .arbiterGrant port _ => decide (port < 2)
  | .grantWithdrawn port => decide (port < 2)
  | .compressorBlockEmit q block => decide (q < 2 ^ 16) && bytesOk block
  | .codecCompressJob q blocks => decide (q < 2 ^ 16) && blocks.all bytesOk
  | .codecDecompressJob q => decide (q < 2 ^ 16)
  | .programStart lane slot n facet => decide (lane < 1024) && decide (slot < 32) && decide (n < 2 ^ 32) && decide (facet < 64)
  | .lineStartCommitment g => decide (g < 32)
  | .windowFill slot lane y => decide (slot < 32) && decide (lane < 1024) && decide (y < 2 ^ 32)
  | .nop lane => decide (lane < 1024)
  | .add lane sd sa sb => decide (lane < 1024) && decide (sd < 16) && decide (sa < 16) && decide (sb < 16)
  | .sub lane sd sa sb => decide (lane < 1024) && decide (sd < 16) && decide (sa < 16) && decide (sb < 16)
  | .and_ lane sd sa sb => decide (lane < 1024) && decide (sd < 16) && decide (sa < 16) && decide (sb < 16)
  | .or_ lane sd sa sb => decide (lane < 1024) && decide (sd < 16) && decide (sa < 16) && decide (sb < 16)
  | .shl lane sd sa sb => decide (lane < 1024) && decide (sd < 16) && decide (sa < 16) && decide (sb < 16)
  | .shr lane sd sa sb => decide (lane < 1024) && decide (sd < 16) && decide (sa < 16) && decide (sb < 16)
  | .mul lane sd sa sb => decide (lane < 1024) && decide (sd < 16) && decide (sa < 16) && decide (sb < 16)
  | .addi lane sd sa imm => decide (lane < 1024) && decide (sd < 16) && decide (sa < 16) && signedOk 18 imm
  | .andi lane sd sa imm => decide (lane < 1024) && decide (sd < 16) && decide (sa < 16) && decide (imm < 2 ^ 18)
  | .ori lane sd sa imm => decide (lane < 1024) && decide (sd < 16) && decide (sa < 16) && decide (imm < 2 ^ 18)
  | .shli lane sd sa imm => decide (lane < 1024) && decide (sd < 16) && decide (sa < 16) && decide (imm < 32)
  | .shri lane sd sa imm => decide (lane < 1024) && decide (sd < 16) && decide (sa < 16) && decide (imm < 32)
  | .lui lane sd imm => decide (lane < 1024) && decide (sd < 16) && decide (imm < 2 ^ 18)
  | .ldw lane sd sa imm => decide (lane < 1024) && decide (sd < 16) && decide (sa < 16) && signedOk 18 imm
  | .stw lane sd sa imm => decide (lane < 1024) && decide (sd < 16) && decide (sa < 16) && signedOk 18 imm
  | .gets lane sd sel => decide (lane < 1024) && decide (sd < 16) && decide (sel < 12)
  | .jmp lane target => decide (lane < 1024) && decide (target < 2048)
  | .beq lane sa sb target => decide (lane < 1024) && decide (sa < 16) && decide (sb < 16) && decide (target < 2048)
  | .bne lane sa sb target => decide (lane < 1024) && decide (sa < 16) && decide (sb < 16) && decide (target < 2048)
  | .blt lane sa sb target => decide (lane < 1024) && decide (sa < 16) && decide (sb < 16) && decide (target < 2048)
  | .bge lane sa sb target => decide (lane < 1024) && decide (sa < 16) && decide (sb < 16) && decide (target < 2048)
  | .loop lane sa target => decide (lane < 1024) && decide (sa < 16) && decide (target < 2048)
  | .call lane target => decide (lane < 1024) && decide (target < 2048)
  | .ret lane => decide (lane < 1024)
  | .endl lane => decide (lane < 1024)
  | .wld lane v line sa off => decide (lane < 1024) && decide (v < 8) && decide (line < 3) && decide (sa < 16) && signedOk 15 off
  | .edge lane v sa off => decide (lane < 1024) && decide (v < 8) && decide (sa < 16) && signedOk 15 off
  | .vld lane v sa off => decide (lane < 1024) && decide (v < 8) && decide (sa < 16) && signedOk 15 off
  | .vst lane v sa off => decide (lane < 1024) && decide (v < 8) && decide (sa < 16) && signedOk 15 off
  | .vadds lane vd va vb => decide (lane < 1024) && decide (vd < 8) && decide (va < 8) && decide (vb < 8)
  | .vsubs lane vd va vb => decide (lane < 1024) && decide (vd < 8) && decide (va < 8) && decide (vb < 8)
  | .vmin lane vd va vb => decide (lane < 1024) && decide (vd < 8) && decide (va < 8) && decide (vb < 8)
  | .vmax lane vd va vb => decide (lane < 1024) && decide (vd < 8) && decide (va < 8) && decide (vb < 8)
  | .vand lane vd va vb => decide (lane < 1024) && decide (vd < 8) && decide (va < 8) && decide (vb < 8)
  | .vor lane vd va vb => decide (lane < 1024) && decide (vd < 8) && decide (va < 8) && decide (vb < 8)
  | .vsplat lane vd sa => decide (lane < 1024) && decide (vd < 8) && decide (sa < 16)
  | .vshr lane vd va imm => decide (lane < 1024) && decide (vd < 8) && decide (va < 8) && decide (imm < 8)
  | .vcmpgt lane vd va vb => decide (lane < 1024) && decide (vd < 8) && decide (va < 8) && decide (vb < 8)
  | .vsel lane vd va vb => decide (lane < 1024) && decide (vd < 8) && decide (va < 8) && decide (vb < 8)
  | .vlut lane vd va imm => decide (lane < 1024) && decide (vd < 8) && decide (va < 8) && decide (imm < 256)
  | .twid lane vd va => decide (lane < 1024) && decide (vd < 8) && decide (va < 8)
  | .tstart lane vd va vb => decide (lane < 1024) && decide (vd < 8) && decide (va < 8) && decide (vb < 8)
  | .emit lane va vb sa => decide (lane < 1024) && decide (va < 8) && decide (vb < 8) && decide (sa < 16)
  | .illegalInstruction lane => decide (lane < 1024)
  | .laneMemoryWrite lane offset size value => decide (lane < 1024) && decide (offset < 16384) && decide (1 ≤ size) && decide (size ≤ 8) && decide (value < 2 ^ 64)
  | .laneLoad image scope l => decide (image < 16) && decide (scope < 4) && decide (l < 1024)
  | .laneStart scope l => decide (scope < 4) && decide (l < 1024)
  | .laneStop scope l => decide (scope < 4) && decide (l < 1024)
  | .laneRelease scope l => decide (scope < 4) && decide (l < 1024)
  | .applyToneTable st v => decide (st < 8) && decide (v < 2 ^ 32)
  | .draftWrite lane offset size value => decide (lane < 1024) && decide (offset < 8320) && decide (1 ≤ size) && decide (size ≤ 8) && decide (value < 2 ^ 64)
  | .draftObjectWrite lane bytes => decide (lane < 1024) && bytesOk bytes
  | .flipNextFacet scope l => decide (scope < 4) && decide (l < 1024)
  | .flipNamedBell seq scope l => decide (seq < 2 ^ 32) && decide (scope < 4) && decide (l < 1024)
  | .flipCancel scope l => decide (scope < 4) && decide (l < 1024)
  | .draftCopyComplete lane => decide (lane < 1024)
  | .knotWriteDescriptor q => decide (q < 2 ^ 16)
  | .facetWriteDescriptor q => decide (q < 2 ^ 16)
  | .flipDescriptor q => decide (q < 2 ^ 16)
  | .applyStitchSettings st v => decide (st < 8) && decide (v < 256)
  | .bdEdge g p => decide (g < 32) && decide (p.t16 < 2 ^ 68)
  | .bdMissing g => decide (g < 32)
  | .phaseSample g => decide (g < 32)
  | .lineStart g => decide (g < 32)
  | .lineEnd g => decide (g < 32)
  | .scannerStart g => decide (g < 32)
  | .scannerStop g => decide (g < 32)
  | .scannerRelease g => decide (g < 32)
  | .scannerRelearn g => decide (g < 32)
  | .spinUpElapsed g => decide (g < 32)
  | .codeFrameSend g => decide (g < 32)
  | .trimFrameSend g => decide (g < 32)
  | .timeFrameSend g => decide (g < 32)
  | .backChannelLock g => decide (g < 32)
  | .statusFrame g raw => decide (g < 32) && decide (raw < 2 ^ 160)
  | .powerFrame g raw => decide (g < 32) && decide (raw < 2 ^ 576)
  | .identFrame g raw => decide (g < 32) && decide (raw < 2 ^ 160)
  | .badBackChannelFrame g => decide (g < 32)
  | .statusTimeout g => decide (g < 32)
  | .identTimeout g => decide (g < 32)
  | .retrainElapsed g => decide (g < 32)
  | .linkEnable g => decide (g < 32)
  | .linkDisable g => decide (g < 32)
  | .linkClear g => decide (g < 32)
  | .laserEnReadbackMismatch g => decide (g < 32)
  | .bdWatchdog g => decide (g < 32)
  | .bdRetryElapsed g => decide (g < 32)
  | .countEdge ch _ _ t => decide (ch < 24) && decide (t < 2 ^ 64)
  | .encoderAlarm ch => decide (ch < 24)
  | .indexEdge ch t => decide (ch < 24) && decide (t < 2 ^ 64)
  | .serialReadStart ch t _ => decide (ch < 24) && decide (t < 2 ^ 64)
  | .serialWord ch word => decide (ch < 24) && decide (word < 2 ^ 64)
  | .serialWordTimeout ch => decide (ch < 24)
  | .channelClear ch => decide (ch < 24)
  | .channelArm ch => decide (ch < 24)
  | .channelSet ch => decide (ch < 24)
  | .latchCapture n t _ => decide (n < 64) && decide (t < 2 ^ 64)
  | .latchQueueRead n => decide (n < 64)
  | .comparePulseEnd n => decide (n < 64)
  | .compareAppend n _ => decide (n < 64)
  | .compareAppendDescriptor q => decide (q < 2 ^ 16)
  | .compareConfigWrite n v => decide (n < 64) && decide (v < 2 ^ 64)
  | .axisEnable a => decide (a < 64)
  | .axisDisable a => decide (a < 64)
  | .move a => decide (a < 64)
  | .jog a => decide (a < 64)
  | .gear a => decide (a < 64)
  | .axisHalt a => decide (a < 64)
  | .axisStop a => decide (a < 64)
  | .setPosition a => decide (a < 64)
  | .axisClear a => decide (a < 64)
  | .tension a => decide (a < 64)
  | .moveComplete a => decide (a < 64)
  | .haltComplete a => decide (a < 64)
  | .gearArmCrossing a => decide (a < 64)
  | .hallChange a levels => decide (a < 64) && decide (levels < 8)
  | .pwmPeriod a => decide (a < 64)
  | .stepEmit a => decide (a < 64)
  | .conversionComplete conv code => decide (conv < 2) && decide (code < 4096)
  | .loopTrigger j => decide (j < 512)
  | .loopComputation j => decide (j < 512)
  | .slotEnable j => decide (j < 512)
  | .slotDisable j => decide (j < 512)
  | .slotSelectBank0 j => decide (j < 512)
  | .slotSelectBank1 j => decide (j < 512)
  | .slotClearFlags j => decide (j < 512)
  | .deltaSigmaOutput i n => decide (i < 128) && decide (n < 2 ^ 24)
  | .fastFilterOutput i n => decide (i < 128) && decide (n < 2 ^ 24)
  | .deltaSigmaInputLost i => decide (i < 128)
  | .arcBlankingElapsed h => decide (h < 64)
  | .hvEnable h => decide (h < 64)
  | .hvDisable h => decide (h < 64)
  | .hvClear h => decide (h < 64)
  | .zeroCrossing z t _ => decide (z < 32) && decide (t < 2 ^ 64)
  | .firingDelayElapsed z => decide (z < 32)
  | .zeroCrossTimeout z => decide (z < 32)
  | .fuserSample z => decide (z < 32)
  | .bandHoldElapsed z => decide (z < 32)
  | .zoneStart z => decide (z < 32)
  | .zoneStop z => decide (z < 32)
  | .zoneClear z => decide (z < 32)
  | .zoneSetback z => decide (z < 32)
  | .zoneResume z => decide (z < 32)
  | .fuserRunSetpointWrite z v => decide (z < 32) && decide (v < 2 ^ 32)
  | .nipOpen => true
  | .nipClose => true
  | .pllLock die pll => decide (die < 8) && decide (pll < 7)
  | .pllLockTimeout die pll => decide (die < 8) && decide (pll < 7)
  | .pllLossOfLock die pll => decide (die < 8) && decide (pll < 7)
  | .refclkLost => true
  | .dividerCommit die v => decide (die < 8) && decide (v < 2 ^ 32)
  | .outputEnableWrite die v => decide (die < 8) && decide (v < 2 ^ 32)
  | .auxPllConfigWrite die si v => decide (die < 8) && decide (si < 256) && decide (v < 2 ^ 32)
  | .vote port h seq _ origin hg _ => decide (port < 2) && h.ok && decide (seq < 2 ^ 32) && signedOk 64 origin && decide (hg < 2 ^ 33)
  | .commitFrame port h seq => decide (port < 2) && h.ok && decide (seq < 2 ^ 32)
  | .late port h seq => decide (port < 2) && h.ok && decide (seq < 2 ^ 32)
  | .portUp port => decide (port < 2)
  | .portDown port => decide (port < 2)
  | .badHalingFrame port => decide (port < 2)
  | .roll port h _ => decide (port < 2) && h.ok
  | .rollSend => true
  | .census port h seats dGroup => decide (port < 2) && h.ok && (seats.all fun x => decide (x < 1024)) && signedOk 64 dGroup
  | .censusSend => true
  | .partNotHeard seat => decide (seat < 1024)
  | .sync port h time => decide (port < 2) && h.ok && decide (time < 2 ^ 64)
  | .syncSend port => decide (port < 2)
  | .syncReply port h t2 t3 time => decide (port < 2) && h.ok && decide (t2 < 2 ^ 64) && decide (t3 < 2 ^ 64) && decide (time < 2 ^ 64)
  | .state_ port h _ => decide (port < 2) && h.ok
  | .stateSend => true
  | .haltReport port h wrest => decide (port < 2) && h.ok && signedOk 64 wrest
  | .align_ port h w => decide (port < 2) && h.ok && signedOk 64 w
  | .alignSend => true
  | .stitch port h station side err _ => decide (port < 2) && h.ok && decide (station < 8) && decide (side < 2) && signedOk 64 err
  | .stitchSend => true
  | .tunnelReq port h op index si bytes => decide (port < 2) && h.ok && decide (op < 3) && decide (index < 2 ^ 16) && decide (si < 256) && bytesOk bytes
  | .tunnelRsp port h result bytes => decide (port < 2) && h.ok && decide (result < 2 ^ 32) && bytesOk bytes
  | .tunnelSend v => decide (v < 2 ^ 32)
  | .tunnelTimeout => true
  | .hazardSet port origin hops => decide (port < 2) && decide (origin < 1024) && decide (hops < 1024)
  | .hazardSetRepeat => true
  | .hazardSetTimeout origin => decide (origin < 1024)
  | .minorityStop => true
  | .hazardDemand src cause => decide (src < 11) && decide (cause < 2 ^ 32)
  | .hazardSourceClear src => decide (src < 11)
  | .automaticRelease src => decide (src < 11)
  | .discrepancyTimeout pair => decide (pair < 4)
  | .hazardRelease v => decide (v < 2 ^ 32)
  | .fuseProgram key => decide (key < 2 ^ 32)
  | .fuseProgramDone copyA copyB => decide (copyA < 2 ^ 33) && decide (copyB < 2 ^ 33)
  | .seal_ key => decide (key < 2 ^ 32)
  | .faultCollect codes => (codes.all fun c => decide (c < 2 ^ 32))
  | .faultPulseEnd => true
  | .clearFaultLatch v => decide (v < 2 ^ 32)
  | .faultnExternalLow => true
  | .clearLog v => decide (v < 2 ^ 32)
  | .lockstepMismatch die cause => decide (die < 8) && decide (cause < 1024)
  | .supervisorWatchdogExpiry die => decide (die < 8)
  | .leadDieMove => true
  | .injectionArm => true
  | .injectionCancel => true
  | .gateReadbackMismatch n => decide (n < 224)
  | .hazardNodeDisagreement die => decide (die < 8)
  | .vstbyApplied => true
  | .vstbyLoss => true
  | .onDelayElapsed r => decide (r < 8)
  | .powerUpStepComplete readings => decide (readings.length ≤ 8)
  | .pgTimeout r readings => decide (r < 8) && decide (readings.length ≤ 8)
  | .shutdownStepComplete readings => decide (readings.length ≤ 8)
  | .dischargeTimeout r readings => decide (r < 8) && decide (readings.length ≤ 8)
  | .railDeparture r readings => decide (r < 8) && decide (readings.length ≤ 8)
  | .thermalModelTick die power => decide (die < 8) && decide (power < 2 ^ 32)
  | .flashGraceExpiry => true
  | .housekeepingRound diodes readings tdcBad clockBad nodeBad => decide (diodes.length ≤ 8) && decide (readings.length ≤ 8) && decide (tdcBad < 256) && decide (clockBad < 256) && decide (nodeBad < 256)
  | .speedRequestTimer die => decide (die < 8)
  | .coolDownElapsed => true
  | .recessEntry die => decide (die < 8)
  | .recessExit die => decide (die < 8)
  | .standby v => decide (v < 2 ^ 32)
  | .wakeEdge _ => true
  | .rtcAlarm => true
  | .usdoRequest ctrl index si op => decide (ctrl < 2) && decide (index < 2 ^ 16) && decide (si < 256) && op.ok
  | .usdoSegment ctrl bytes _ => decide (ctrl < 2) && bytesOk bytes
  | .usdoTimeout => true
  | .mirrorRead n index si _ vector tag => decide (n < 2048) && decide (index < 2 ^ 16) && decide (si < 256) && decide (vector < 2048) && decide (tag < 2 ^ 16)
  | .mirrorWrite n index si len _ vector tag => decide (n < 2048) && decide (index < 2 ^ 16) && decide (si < 256) && decide (len < 16384) && decide (vector < 2048) && decide (tag < 2 ^ 16)
  | .registerWrite target v => target.ok && bytesOk v
  | .nmtStart => true
  | .nmtStop => true
  | .nmtEnterPreOperational => true
  | .nmtResetNode => true
  | .nmtResetCommunication => true
  | .nmtDeferredTransition => true
  | .canBusOff ctrl => decide (ctrl < 2)
  | .canErrorPassive ctrl => decide (ctrl < 2)
  | .heartbeatTimeout k => decide (k < 9)
  | .heartbeatSend => true
  | .heartbeatReceived node => decide (node < 128)
  | .busOffRecovery ctrl => decide (ctrl < 2)
  | .rpdo k bytes => decide (k < 64) && bytesOk bytes
  | .tpdoTransmit k => decide (k < 64)
  | .syncMessage counter => decide (counter < 256)
  | .timeMessage value t => decide (value < 2 ^ 48) && decide (t < 2 ^ 64)
  | .errorListClear v => decide (v < 2 ^ 32)
  | .traceRead => true
  | .traceEnableWrite v => decide (v < 2 ^ 32)
  | .hostAreaRead => true
  | .hostAreaProgram => true
  | .hostAreaErase => true
  | .flashOperationComplete _ => true
  | .storeSettings index => decide (index < 2 ^ 16)
  | .restoreDefaults v => decide (v < 2 ^ 32)
  | .transferBegin => true
  | .transferCancel => true
  | .transferVerify => true
  | .piece bytes => bytesOk bytes
  | .confirm => true
  | .revert => true
  | .boot => true
  | .porn _ _ _ _ => true
  | .rstn => true
  | .strapSample levels => decide (levels < 128)
  | .mfioFunctionWrite n si v => decide (n < 224) && decide (si < 256) && decide (v < 2 ^ 32)
  | .tckEdge _ _ => true

end Sys2Proof
end

