-- ==== Sys2Proof/Safety.lean ====
section
/-! DEFINITION. What counts as a safe run (no step faults or refuses, the queue holds well-formed commands only, the timebase
is a 64-bit count), and the words that the statements are made in. -/

namespace Sys2Proof

open Sys2Proof.Machine

/-- The step answered a next state. -/
def goesOn : Host.Outcome State Fault Refusal → Bool
  | .next _ => true
  | .fault _ => false
  | .refused _ => false

/-- What the model promises of every state: the timebase counts in 64 bits (R29). -/
def TimeOk (s : State) : Prop := s.timebase < 2 ^ 64

/-- Every command that waits is well formed. -/
def QueueOk (s : State) : Prop := ∀ c ∈ s.pending, c.wf = true

/-- The lead die's supervisor pair is out of recess (R434). -/
def leadAwake (s : State) : Bool := !(s.heat s.dies.lead).recess

/-- A write of the command object `index` reaches the command's own rules: the part is powered, the lead die has left boot,
the dictionary holds the index, and the node is not STOPPED (R417, R441, R494, Table 15-2). The lead die's pair is out of recess; a
write that finds it in recess ends that first (`Obligations.AccessEndsRecess`). -/
def commanded (s : State) (index : Nat) : Bool :=
  s.powered && s.nmt.booted && s.served index && decide (s.nmt.state ≠ .stopped) && leadAwake s

/-- A frame received, or an access of the host by a path of its own: each ends the recess of the pair that serves it (R434). -/
def receivedFrame : Instr → Bool
  | .usdoRequest _ _ _ _ => true
  | .usdoSegment _ _ _ => true
  | .mirrorRead _ _ _ _ _ _ => true
  | .mirrorWrite _ _ _ _ _ _ _ => true
  | .tunnelReq _ _ _ _ _ _ => true
  | .tunnelRsp _ _ _ _ => true
  | .nmtStart => true
  | .nmtStop => true
  | .nmtEnterPreOperational => true
  | .nmtResetNode => true
  | .nmtResetCommunication => true
  | .heartbeatReceived _ => true
  | .rpdo _ _ => true
  | .syncMessage _ => true
  | .timeMessage _ _ => true
  | _ => false

/-- Command c runs on s and leaves t: the queue and the variant stay as they are, and the timebase is t's as a 64-bit
count (R29). -/
def Completes (c : Instr) (s t : State) : Prop := exec c s = .next (finish s t)

/-- Command c runs on s and leaves t, and the group is told of what changed (R63, R372, R373). -/
def CompletesTold (c : Instr) (s t : State) : Prop := exec c s = .next (finish s t.settleGroup)

/-- Commands of the standby domain and of the balls, which act on an unpowered part too: the sequencer's events, a rail that leaves
its window while PORn is low, the wake pin and the RTC, PORn, the straps, the start, the clock of the test port, and the inputs of
the hazard net. -/
def actsUnpowered : Instr → Bool
  | .vstbyApplied => true
  | .vstbyLoss => true
  | .onDelayElapsed _ => true
  | .powerUpStepComplete _ => true
  | .pgTimeout _ _ => true
  | .shutdownStepComplete _ => true
  | .dischargeTimeout _ _ => true
  | .railDeparture _ _ => true
  | .coolDownElapsed => true
  | .wakeEdge _ => true
  | .rtcAlarm => true
  | .porn _ _ _ _ => true
  | .strapSample _ => true
  | .boot => true
  | .tckEdge _ _ => true
  | .hazardDemand _ _ => true
  | .hazardSourceClear _ => true
  | _ => false

/-- A lane command whose program stands at word w: it does f to its lane, counts its cycles, and goes on at the next
address (R149). -/
def LaneSteps (c : Instr) (s : State) (lane w cyc : Nat) (f : Lane → Lane) : Prop :=
  s.powered = true → s.laneAt lane w = true →
    Completes c s (s.modLane lane fun l => { f l with pc := l.pc + 1, cycles := l.cycles + cyc })

/-- A lane command whose program stands at word w and that sets the PC itself. -/
def LaneJumps (c : Instr) (s : State) (lane w cyc : Nat) (f : Lane → Lane) : Prop :=
  s.powered = true → s.laneAt lane w = true →
    Completes c s (s.modLane lane fun l => { f l with cycles := (f l).cycles + cyc })

/-- Words of the lane operations, put together from their fields (Tables 5-6 to 5-11 and 5-13). -/
def laneForm (w : Nat) : Prop :=
  w = wordS 0x00 0 0 0 ∨
  (∃ op sd sa sb, 1 ≤ op ∧ op ≤ 7 ∧ sd < 16 ∧ sa < 16 ∧ sb < 16 ∧ w = wordS op sd sa sb) ∨
  (∃ op sd sa imm, op ∈ [0x08, 0x09, 0x0A, 0x0E, 0x0F] ∧ sd < 16 ∧ sa < 16 ∧ imm < 2 ^ 18 ∧ w = wordI op sd sa imm) ∨
  (∃ op sd sa n, op ∈ [0x0B, 0x0C] ∧ sd < 16 ∧ sa < 16 ∧ n ≤ 31 ∧ w = wordI op sd sa n) ∨
  (∃ sd imm, sd < 16 ∧ imm < 2 ^ 18 ∧ w = wordI 0x0D sd 0 imm) ∨
  (∃ sd sel, sd < 16 ∧ sel ≤ 11 ∧ w = wordI 0x10 sd 0 sel) ∨
  (∃ op target, op ∈ [0x14, 0x1A] ∧ target < 2048 ∧ w = wordB op 0 0 target) ∨
  (∃ op sa sb target, op ∈ [0x15, 0x16, 0x17, 0x18] ∧ sa < 16 ∧ sb < 16 ∧ target < 2048 ∧ w = wordB op sa sb target) ∨
  (∃ sa target, sa < 16 ∧ target < 2048 ∧ w = wordB 0x19 sa 0 target) ∨
  w = wordB 0x1B 0 0 0 ∨ w = wordB 0x1C 0 0 0 ∨
  (∃ (v sa line : Nat) (off : Int), v < 8 ∧ sa < 16 ∧ line ≤ 2 ∧ -16384 ≤ off ∧ off ≤ 16383 ∧ w = wordM 0x20 v sa line off) ∨
  (∃ (v sa : Nat) (off : Int), v < 8 ∧ sa < 16 ∧ -16384 ≤ off ∧ off ≤ 16383 ∧ w = wordM 0x21 v sa 1 off) ∨
  (∃ (op v sa : Nat) (off : Int),
    op ∈ [0x22, 0x23] ∧ v < 8 ∧ sa < 16 ∧ -16384 ≤ off ∧ off ≤ 16383 ∧ w = wordM op v sa 0 off) ∨
  (∃ op vd va vb, op ∈ [0x28, 0x29, 0x2A, 0x2B, 0x2C, 0x2D, 0x30, 0x31, 0x34] ∧ vd < 8 ∧ va < 8 ∧ vb < 8 ∧
    w = wordV op vd va vb 0 0) ∨
  (∃ vd sa, vd < 8 ∧ sa < 16 ∧ w = wordV 0x2E vd 0 0 sa 0) ∨
  (∃ vd va n, vd < 8 ∧ va < 8 ∧ n ≤ 7 ∧ w = wordV 0x2F vd va 0 0 n) ∨
  (∃ vd va imm, vd < 8 ∧ va < 8 ∧ imm < 256 ∧ w = wordV 0x32 vd va 0 0 imm) ∨
  (∃ vd va, vd < 8 ∧ va < 8 ∧ w = wordV 0x33 vd va 0 0 0) ∨
  (∃ va vb sa, va < 8 ∧ vb < 8 ∧ sa < 16 ∧ w = wordV 0x35 0 va vb sa 0)

/-- Object that a command of the host writes (the commands written to an object's sub-index). -/
def writtenObject : Instr → Option Nat
  | .masterWebEncoderWrite _ => some 0x2180
  | .webScaleWrite _ => some 0x2180
  | .webDirectionWrite _ => some 0x2180
  | .webPositionPreset _ => some 0x2180
  | .printableWidthWrite _ _ => some 0x2183
  | .nextOriginWrite _ => some 0x2101
  | .declare slot => some (0x2110 + slot)
  | .withdraw slot => some (0x2110 + slot)
  | .timetableRun => some 0x2100
  | .timetableHalt => some 0x2100
  | .timetableEnd => some 0x2100
  | .bandModeWrite _ _ => some 0x2150
  | .applyToneTable st _ => some (0x2508 + st)
  | .applyStitchSettings st _ => some (0x2808 + st)
  | .scannerStart g => some (0x2900 + g)
  | .scannerStop g => some (0x2900 + g)
  | .scannerRelease g => some (0x2900 + g)
  | .scannerRelearn g => some (0x2900 + g)
  | .linkEnable g => some (0x2A00 + g)
  | .linkDisable g => some (0x2A00 + g)
  | .linkClear g => some (0x2A00 + g)
  | .channelClear ch => some (0x3100 + ch)
  | .channelArm ch => some (0x3100 + ch)
  | .channelSet ch => some (0x3100 + ch)
  | .compareAppend _ _ => some 0x311D
  | .compareConfigWrite _ _ => some 0x311A
  | .axisEnable a => some (0x3000 + a)
  | .axisDisable a => some (0x3000 + a)
  | .move a => some (0x3000 + a)
  | .jog a => some (0x3000 + a)
  | .gear a => some (0x3000 + a)
  | .axisHalt a => some (0x3000 + a)
  | .axisStop a => some (0x3000 + a)
  | .setPosition a => some (0x3000 + a)
  | .axisClear a => some (0x3000 + a)
  | .tension a => some (0x3000 + a)
  | .slotEnable j => some (0x3200 + j)
  | .slotDisable j => some (0x3200 + j)
  | .slotSelectBank0 j => some (0x3200 + j)
  | .slotSelectBank1 j => some (0x3200 + j)
  | .slotClearFlags j => some (0x3200 + j)
  | .hvEnable h => some (0x3400 + h)
  | .hvDisable h => some (0x3400 + h)
  | .hvClear h => some (0x3400 + h)
  | .zoneStart z => some (0x3500 + z)
  | .zoneStop z => some (0x3500 + z)
  | .zoneClear z => some (0x3500 + z)
  | .zoneSetback z => some (0x3500 + z)
  | .zoneResume z => some (0x3500 + z)
  | .fuserRunSetpointWrite z _ => some (0x3500 + z)
  | .nipOpen => some 0x2190
  | .nipClose => some 0x2190
  | .dividerCommit die _ => some (0x3808 + die)
  | .outputEnableWrite die _ => some (0x3808 + die)
  | .auxPllConfigWrite die _ _ => some (0x3808 + die)
  | .tunnelSend _ => some 0x3908
  | .hazardRelease _ => some 0x4000
  | .seal_ _ => some 0x4008
  | .clearFaultLatch _ => some 0x4100
  | .clearLog _ => some 0x4100
  | .injectionArm => some 0x4108
  | .injectionCancel => some 0x4108
  | .standby _ => some 0x4200
  | .errorListClear _ => some 0x1003
  | .traceEnableWrite _ => some 0x4400
  | .hostAreaRead => some 0x4300
  | .hostAreaProgram => some 0x4300
  | .hostAreaErase => some 0x4300
  | .storeSettings _ => some 0x4310
  | .restoreDefaults _ => some 0x4310
  | .transferBegin => some 0x4330
  | .transferCancel => some 0x4330
  | .transferVerify => some 0x4330
  | .piece _ => some 0x4330
  | .confirm => some 0x4320
  | .revert => some 0x4320
  | .mfioFunctionWrite n _ _ => some (0x5000 + n)
  | _ => none

end Sys2Proof
end

