-- ==== Sys2Proof/Certificates/Slice0/Obligations.lean ====
section
/-! DEFINITION. The statements: what every command leaves, whole, in each state that takes it, and what holds of the
machine as a whole. -/

open Sys2Proof Sys2Proof.Machine

/-- A step takes the command at the front of the queue and runs it with the queue's rest. -/
def Obligations.StepRunsFrontCommand : Prop :=
  ∀ (s : State) (c : Instr), step { s with pending := c :: s.pending } = exec c s

/-- The reset state meets the invariant of `Obligations.StepsKeepTheInvariant`. -/
def Obligations.ResetMeetsInvariant : Prop :=
  TimeOk State.reset ∧ QueueOk State.reset ∧ cellsWf State.reset.store.cells = true

/-- From every state that meets the invariant (the timebase is a 64-bit count, R29, and every waiting command is well formed)
each step answers a next state, which meets it too: it takes one command from the queue and leaves the variant of Table 0-1
as it is. No command faults and none is refused by the model. That commands come one by one from a queue, and that an empty
queue lets one tick pass, is the model's choice (log entry 1). -/
def Obligations.StepsKeepTheInvariant : Prop :=
  ∀ s : State, TimeOk s → QueueOk s →
    ∃ t, step s = .next t ∧ TimeOk t ∧ QueueOk t ∧ t.pending = s.pending.tail ∧ t.variant = s.variant

/-- What reset leaves (R17, R20, R148, R245, R449, Tables 2-1, 2-2, 7-3, 9-5, 10-3 and 10-4): every object of the dictionary
at its default, W and W_base 0, the timetable IDLE, every slot FREE, every unit OFF and every link in TRAINING, no fault, PRE-OPERATIONAL and
unsealed. That the state is the one right after boot is the model's choice (log entry 2). -/
def Obligations.ResetLeaves : Prop :=
  ∀ s : State, s = State.reset →
    (∀ index sub, s.cfg index sub = s.odDefault index sub) ∧
    (∀ index sub, s.domain index sub = []) ∧
    s.w = 0 ∧ s.web.base48 = 0 ∧ s.timebase = 0 ∧ s.tt.state = .idle ∧ s.nmt.state = .preOperational ∧ s.sealed.on = false ∧
    s.faults.fatal = false ∧ s.faults.log = [] ∧ s.pending = [] ∧ s.store.cells = [] ∧ s.intake.rings = [] ∧
    (∀ i, (s.slot i).state = .free) ∧
    (∀ g, (s.scanner g).state = .off) ∧
    (∀ g, (s.link g).state = .training) ∧
    (∀ a, (s.axis a).state = .off) ∧
    (∀ ch, (s.chan ch).state = .off) ∧
    (∀ h, (s.hvChan h).state = .off) ∧
    (∀ z, (s.zone z).state = .off) ∧
    (∀ j, (s.loopSlot j).enabled = false) ∧
    (∀ l k, (s.lane l).active = false ∧ (s.lane l).reg k = 0)

/-- While the part is not powered, no command changes anything but those of the standby domain, the balls and the
inputs of the hazard net (R417, R513). The model's choices it rests on: log entry 6. -/
def Obligations.UnpoweredPartFrozen : Prop :=
  ∀ (s : State) (c : Instr), s.powered = false → actsUnpowered c = false → Completes c s s

/-- In NMT STOPPED the dictionary refuses every command of the host with 0x0800_0022 and changes nothing else, but
that the access ends the lead pair's recess (Table 15-2, R434). The model's choices it rests on: log entries 9 and 28.
-/
def Obligations.StoppedRefusesCommands : Prop :=
  ∀ (s : State) (c : Instr) (index : Nat), writtenObject c = some index → s.powered = true → s.nmt.booted = true →
    s.served index = true → s.nmt.state = .stopped →
    Completes c s (s.awake.refuse .state) ∨ CompletesTold c s (s.awake.refuse .state)

/-- The BAR4 window of the panel store (R69, R74): a permitted write of 4 or 8 aligned bytes leaves every other byte
as it was and keeps the list of bytes canonical, and reads back; any other write sets ABSENT_ACCESS; a read above the
installed store answers all ones. The model's choices it rests on: log entry 4. -/
def Obligations.StoreWindow : Prop :=
  ∀ (s : State) (offset size value : Nat), s.powered = true →
    (barSizeOk offset size = true → cellsWf s.store.cells = true →
      s.tt.state = .idle → s.nmt.state = .preOperational → s.cfg 0x2200 8 = 1 →
      s.slotsWhere SlotState.uncommitted = [] → offset + size ≤ s.dataBytes →
      ∃ t, exec (.diagnosticStoreWrite offset size value) s = .next t ∧ cellsWf t.store.cells = true ∧
        (∀ a, a < offset ∨ offset + size ≤ a → cellGet t.store.cells a = cellGet s.store.cells a) ∧
        (∀ k, k < size → cellGet t.store.cells (offset + k) = value / 256 ^ k % 256) ∧
        (s.store.rasterIn = false →
          Completes (.diagnosticStoreRead offset size 0) t
            { t.supervisorBurst (t.channelOf offset) with answer := (upTo size).map fun k => value / 256 ^ k % 256 }) ∧
        (∃ u, exec (.diagnosticStoreRead offset size 0) t = .next u ∧
          u.answer = (upTo size).map fun k => value / 256 ^ k % 256)) ∧
    (barSizeOk offset size = false ∨ s.tt.state ≠ .idle ∨ s.nmt.state ≠ .preOperational ∨ s.cfg 0x2200 8 ≠ 1 ∨
        s.slotsWhere SlotState.uncommitted ≠ [] ∨ s.dataBytes < offset + size →
      Completes (.diagnosticStoreWrite offset size value) s
        { s with intake := { s.intake with absentAccess := true } }) ∧
    (∀ failure, barSizeOk offset size = true → s.dataBytes < offset + size →
      Completes (.diagnosticStoreRead offset size failure) s { s with answer := List.replicate size 255 })

/-- A word is a legal lane instruction exactly when it is put together from the fields of an operation of Table 5-13, every
field in its range and every other bit 0; a program that stands at an illegal word, or past address 2,047, raises lane
fault cause 2 (R150). -/
def Obligations.LaneWordsExact : Prop :=
  (∀ w, w < 2 ^ 32 → (laneLegal w = true ↔ laneForm w)) ∧
  (∀ (s : State) (lane : Nat), s.powered = true → lane < 1024 → (s.lane lane).active = true →
    (s.lane lane).state = .running →
    2048 ≤ (s.lane lane).pc ∨
      (mapGet 0 (s.lane lane).prog (s.lane lane).pc < 2 ^ 32 ∧ ¬ laneForm (mapGet 0 (s.lane lane).prog (s.lane lane).pc)) →
    Completes (.illegalInstruction lane) s
      ((s.modLane lane fun l => { l with faultPc := min l.pc 2047 }).raiseLane lane 2))

/-- NMT start of an unsealed part, or of one with a fatal fault latched, changes only the reason in 0x2008:2 (1 unsealed,
2 fatal fault latched), and no answer is sent (R448); that a received frame ends the lead pair's recess is R434. -/
def Obligations.NmtStartRefused : Prop :=
  ∀ s : State, s.powered = true → s.nmt.booted = true →
    (s.sealed.on = false → s.faults.fatal = false →
      CompletesTold .nmtStart s { s.awake with nmt := { s.nmt with refusal := 1 } }) ∧
    (s.sealed.on = true → s.faults.fatal = true →
      CompletesTold .nmtStart s { s.awake with nmt := { s.nmt with refusal := 2 } }) ∧
    (s.sealed.on = false → s.faults.fatal = true →
      ∃ r, (r = 1 ∨ r = 2) ∧ CompletesTold .nmtStart s { s.awake with nmt := { s.nmt with refusal := r } }) ∧
    (s.served 0x2008 = true → s.nmt.refusal < 256 → (s.readObject 0x2008 2).answer = [s.nmt.refusal])

/-- After a thermal shut-down (cause 5 or 6) the standby domain cools, and until the cool-down time has elapsed neither the
WAKE input nor the alarm starts a power-up or is held (R433). -/
def Obligations.CoolDownIgnoresWake : Prop :=
  ∀ s : State,
    (∀ readings t, s.power.seq = .shutDown → s.power.cause = 5 ∨ s.power.cause = 6 →
      ((s.railsOf s.power.step).all (s.setReadings readings).railDown) = true →
      t = ((s.setReadings readings).standbyTime.putRecord 3 s.power.step id) → t.stepBelow s.power.step = none →
      ∃ u, exec (.shutdownStepComplete readings) s = .next u ∧
        u.power.seq = .standby ∧ u.power.cooling = true ∧ u.power.wakeHeld = false) ∧
    (∀ falling, s.power.seq = .standby → s.power.cooling = true →
      ∃ t, exec (.wakeEdge falling) s = .next t ∧ t.power.seq = .standby ∧ t.power.cooling = true ∧
        t.power.enables = s.power.enables ∧ t.power.wakeHeld = s.power.wakeHeld) ∧
    (s.power.seq = .standby → s.power.cooling = true →
      ∃ t, exec .rtcAlarm s = .next t ∧ t.power.seq = .standby ∧ t.power.cooling = true ∧
        t.power.enables = s.power.enables ∧ t.power.wakeHeld = s.power.wakeHeld) ∧
    (∃ t, exec .coolDownElapsed s = .next t ∧ t.power.cooling = false)

/-- A read of 0x3800:1 answers the eight bytes of the timebase as it stands when the read is served, over CAN FD too
(R346); the access ends the lead pair's recess (R434). -/
def Obligations.TimebaseReads : Prop :=
  ∀ (s : State) (ctrl : Nat) (t : State), s.powered = true → s.usdoServed ctrl = true → s.served 0x3800 = true →
    t = { s.awake with resp := none, answer := numBytes 8 s.timebase } →
    s.readObject 0x3800 1 = { s with resp := none, answer := numBytes 8 s.timebase } ∧
    CompletesTold (.usdoRequest ctrl 0x3800 1 .read) s (t.usdoAnswer ctrl (numBytes 8 s.timebase))

/-- Chapter 1 writes (R18, R20, R27, R33): what each leaves, in a state that takes it. The model's choices it rests
on: log entries 9 and 13. -/
def Obligations.GeometryWrites : Prop :=
  ∀ s : State,
    (∀ v, commanded s 0x2180 = true → s.preop = true → v < 24 → s.chanPresent v = true →
      Completes (.masterWebEncoderWrite v) s
        ({ s.rebasedWrite 1 v with
            web := { (s.rebasedWrite 1 v).web with frozen := decide (((s.rebasedWrite 1 v).chan v).state = ChanState.error) }
            haling := { (s.rebasedWrite 1 v).haling with
              aligned := (s.rebasedWrite 1 v).haling.aligned && !decide (((s.rebasedWrite 1 v).chan v).state = ChanState.error) } }.accept
            0x2180)) ∧
    (∀ v, commanded s 0x2180 = true → s.preop = true → v < 2 ^ 64 →
      Completes (.webScaleWrite v) s ((s.rebasedWrite 2 v).accept 0x2180)) ∧
    (∀ v, commanded s 0x2180 = true → s.preop = true → v ≤ 1 →
      Completes (.webDirectionWrite v) s ((s.rebasedWrite 3 v).accept 0x2180)) ∧
    (∀ w : Int, commanded s 0x2180 = true → s.preop = true → s.tt.state = .idle → s.webQuiet = true →
      -(2 ^ 63) ≤ w → w < 2 ^ 63 →
      Completes (.webPositionPreset w) s ((s.jumpTo w).accept 0x2180)) ∧
    (∀ st v, commanded s 0x2183 = true → st < 8 → s.present st = true → s.preop = true → 1 ≤ v → v ≤ 76800 →
      s.stitchOk st (s.staged st) v = true → s.stitchLegal st (s.staged st) v = true →
      Completes (.printableWidthWrite st v) s ((s.putStitch st (s.staged st) v).accept 0x2183)) ∧
    (∀ w : Int, commanded s 0x2101 = true → s.tt.state = .idle → s.slotsWhere SlotState.uncommitted = [] →
      -(2 ^ 63) ≤ w → w < 2 ^ 63 →
      Completes (.nextOriginWrite w) s
        ({ s with tt := { s.tt with nextOrigin := w, last := none } }.accept 0x2101)) ∧
    (∀ st, commanded s 0x2150 = true → st < 8 → s.present st = true → s.tt.state = .idle →
      ((s.usedScanners st).all fun g => (upTo 32).all fun b => s.beamHealthy g b) = true →
      Completes (.bandModeWrite st 0) s ((s.setPlan st 0 []).settleLegality.accept 0x2150))

/-- Declaration, withdrawal, store grant and commit of a panel, its missed deadline and its bell (Table 2-1, R32, R34,
R36, R38, R40, R41). The model's choices it rests on: log entry 13. -/
def Obligations.PanelCommands : Prop :=
  ∀ (s : State) (i : Nat),
    (commanded s (0x2110 + i) = true → i < 32 → (s.slot i).state.open_ = true →
      ((maskStations (s.cfg (0x2110 + i) 4)).all s.present) = true →
      1 ≤ s.cfg (0x2110 + i) 2 → s.cfg (0x2110 + i) 2 ≤ s.cfg 0x2100 8 →
      (s.cfg (0x2110 + i) 2 + s.cfg (0x2110 + i) 3) % 32 = 0 → s.cfg (0x2110 + i) 3 ≤ 16777216 →
      s.cfg (0x2110 + i) 4 ≠ 0 → (∀ l, s.tt.last = some l → s.cfg (0x2110 + i) 1 = wrapInc 32 l.seq) →
      ((maskStations (s.cfg (0x2110 + i) 4)).all s.stationOpen) = true →
      ∀ origin : Int, origin = (match s.tt.last with
        | some l => l.origin + lu (l.h + l.g)
        | none => s.tt.nextOrigin) →
      CompletesTold (.declare i) s
        ((({ s with
            slots := mapSet {} s.slots i
              { seq := s.cfg (0x2110 + i) 1, h := s.cfg (0x2110 + i) 2, g := s.cfg (0x2110 + i) 3,
                mask := s.cfg (0x2110 + i) 4, state := .declared, origin, order := s.tt.nextOrder, prev := s.tt.last,
                shares := s.sharesOf (s.cfg (0x2110 + i) 4) (s.cfg (0x2110 + i) 2) }
            lines := s.lines.filter fun kv => decide (kv.1 / 2 ^ 34 ≠ i)
            tt := { s.tt with
              last := some { seq := s.cfg (0x2110 + i) 1, origin, h := s.cfg (0x2110 + i) 2, g := s.cfg (0x2110 + i) 3 }
              nextOrder := s.tt.nextOrder + 1 } }).tryGrant i).settleRest.accept (0x2110 + i))) ∧
    (commanded s (0x2110 + i) = true → i < 32 → (s.slot i).state.uncommitted = true →
      CompletesTold (.withdraw i) s
        ((s.withdrawPanels ((s.slotsWhere SlotState.uncommitted).filter fun k =>
          decide ((s.slot i).order ≤ (s.slot k).order))).settleRest.accept (0x2110 + i))) ∧
    (s.powered = true → s.grantable i = true →
      CompletesTold (.storeGrant i) s ((s.modSlot i fun p => { p with granted := true }).wakeRings i)) ∧
    (s.powered = true → s.commitable i = true → CompletesTold (.commit i) s (s.commitPanel i)) ∧
    (s.powered = true → (s.slot i).state.uncommitted = true →
      s.tt.state = .running ∨ s.tt.state = .restarting → s.deadlineAt i ≤ s.w → (s.slot i).late = false →
      CompletesTold (.commitDeadline i) s ((s.modSlot i fun p => { p with late := true }).declareHalt true)) ∧
    (∀ st, s.powered = true → (s.slot i).state = .exposing → st < 8 → bit (s.slot i).mask st = true →
      bit (s.slot i).rung st = false → bit (s.slot i).fencedStations st = false → s.present st = true →
      s.bellAt i st ≤ s.w → s.tt.state ≠ .reversing → s.tt.state ≠ .waiting →
      CompletesTold (.bell i st) s
        ((((((s.modSlot i fun p => { p with rung := setBit p.rung st true }).modStation st fun x =>
          { x with current := some i }).traceEntry 4 (st * 2 ^ 13 + (s.slot i).seq % 2 ^ 13)).postLead 2 (s.slot i).seq st).flipsAtBell (s.slot i).seq st))) ∧
    (∀ st, s.powered = true → (s.slot i).state = .committed → st < 8 → bit (s.slot i).mask st = true →
      bit (s.slot i).rung st = false → bit (s.slot i).fencedStations st = false → s.present st = true →
      s.bellAt i st ≤ s.w → s.tt.state ≠ .reversing → s.tt.state ≠ .waiting →
      CompletesTold (.bell i st) s
        (((((((s.modSlot i fun p => { p with rung := setBit p.rung st true }).firstBellRings i).modStation st fun x =>
          { x with current := some i }).traceEntry 4 (st * 2 ^ 13 + (s.slot i).seq % 2 ^ 13)).postLead 2 (s.slot i).seq st).flipsAtBell (s.slot i).seq st)))

/-- The events of a seamless halt (Tables 2-2 and 2-3, R44 to R47, Table 7-1), on the part that leads the phases. The
model's choices it rests on: log entries 13 and 46. -/
def Obligations.HaltEvents : Prop :=
  ∀ s : State, s.powered = true →
    (s.tt.state = .halting ∨ s.tt.state = .ending → s.tt.decelerating = false → s.tt.wd ≤ s.w →
      CompletesTold .decelerationStart s
        ((((({ s with tt := { s.tt with
              decelerating := true, wfo := if s.tt.nipPending then s.tt.wfo else s.w
              nipPending := true } }.webDecelerate.parkFuser).hvToHalt).replan).settlePolygons).ownRest)) ∧
    (s.tt.state = .halting → s.tt.decelerating = true → s.leadsPhases = true →
      CompletesTold .webAtRest s
        (s.atRest.beginReverse)) ∧
    (s.tt.state = .ending → s.tt.decelerating = true → s.leadsPhases = true →
      CompletesTold .webAtRest s
        (s.atRest.enterIdle)) ∧
    (s.tt.state = .stopped → s.tt.endPending = true →
      CompletesTold .webAtRest s
        (s.atRest.enterIdle)) ∧
    (s.tt.state = .reversing → s.tt.corrective = .none → s.restInBand = true →
      CompletesTold .reverseComplete s
        (((s.atRest.enterTT .waiting).webHold s.tt.wrest))) ∧
    (s.tt.state = .waiting → s.tt.corrective = .moving → s.restInBand = true →
      CompletesTold .correctiveMoveDone s
        ({ s.atRest with tt := { s.atRest.tt with corrective := .none } }.webHold s.tt.wrest)) ∧
    (∀ i, s.nextPanel = some i → s.tt.state = .waiting → s.tt.corrective = .none → s.leadsPhases = true →
      s.restartReady i = true → s.membersReady = true → s.tt.holdHalt = false ∨ s.nmt.pending ≠ .none →
      s.hazard.active = false → CompletesTold .restart s (s.beginRestart i)) ∧
    (s.tt.state = .restarting → s.leadsPhases = true →
      CompletesTold .restartSpeedReached s ({ s with tt := { s.tt with reached := true } }.settlePolygons)) ∧
    (s.tt.nipPending = true →
      s.tt.state = .restarting ∨ s.tt.state = .running ∨ ((s.tt.state = .halting ∨ s.tt.state = .ending) ∧ s.tt.decelerating = false) →
      s.tt.wfo ≤ s.w →
      CompletesTold .fuserNipClosePoint s
        { s.setNip false with tt := { (s.setNip false).tt with nipPending := false } })

/-- RUN, HALT and END (R51) in the states that take them. The model's choices it rests on: log entry 13. -/
def Obligations.TimetableCommands : Prop :=
  ∀ s : State, commanded s 0x2100 = true →
    (s.nmt.state = .operational → s.nmt.pending = .none → s.faults.fatal = false → s.groupReady = true →
      s.tt.state = .idle ∨ s.tt.state = .stopped → s.runOk = true → s.webLoopFits = true → s.isHomeroom = true →
      CompletesTold .timetableRun s
        ({ s with tt := { s.tt with holdHalt := false, holdLink := false, ranIn := true } }.startRun.accept 0x2100)) ∧
    (s.nmt.state = .operational → s.nmt.pending = .none → s.faults.fatal = false → s.groupReady = true →
      s.tt.state = .waiting → s.tt.corrective = .none →
      CompletesTold .timetableRun s
        ({ s with tt := { s.tt with holdHalt := false, holdLink := false, ranIn := true } }.accept 0x2100)) ∧
    (s.tt.state = .running →
      CompletesTold .timetableHalt s
        ({ s.declareHalt false with tt := { (s.declareHalt false).tt with holdHalt := true } }.accept 0x2100)) ∧
    (s.tt.state = .halting ∨ s.tt.state = .reversing ∨ s.tt.state = .waiting →
      CompletesTold .timetableHalt s ({ s with tt := { s.tt with holdHalt := true } }.accept 0x2100)) ∧
    (s.tt.state = .running → CompletesTold .timetableEnd s (s.beginEnding.accept 0x2100)) ∧
    (s.tt.state = .stopped → s.web.moving = false → CompletesTold .timetableEnd s (s.enterIdle.accept 0x2100)) ∧
    (s.tt.state = .stopped → s.web.moving = true →
      CompletesTold .timetableEnd s ({ s with tt := { s.tt with endPending := true } }.accept 0x2100))

/-- BAR accesses (R72, R74), ring enable and reset (R78) and the doorbells (R79, R94). The resets of the PCIe
function, the loss of its link and its training (R68, R96, Table 3-4). The model's choices it rests on: log entry 37.
-/
def Obligations.BarAndRingWrites : Prop :=
  (∀ s : State, s.powered = true →
     (∀ o size value, barSizeOk o size = true →
       0x18100 ≤ o ∧ o < 0x01000000 ∨ 0x01080000 ≤ o ∧ o < 0x02000000 →
       Completes (.barAbsentAccess true ⟨0, o, size, value⟩) s
         { s with intake := { s.intake with absentAccess := true, absentCount := wrapInc 32 s.intake.absentCount } }) ∧
     (∀ o size value, barSizeOk o size = true →
       0x00200000 ≤ o ∧ o < 0x04000000 ∨ 0x0C000000 ≤ o ∧ o < 0x40000000 →
       Completes (.barAbsentAccess true ⟨2, o, size, value⟩) s
         { s with intake := { s.intake with absentAccess := true, absentCount := wrapInc 32 s.intake.absentCount } }) ∧
     (∀ bar o size value, barSizeOk o size = true →
       bar = 0 ∧ o < 0x04000000 ∧ s.bar0Bytes o size = none ∨ bar = 2 ∧ o < 0x40000000 ∧ s.bar2Bytes o size = none →
       Completes (.barAbsentAccess false ⟨bar, o, size, value⟩) s
         { s with
           intake := { s.intake with absentAccess := true, absentCount := wrapInc 32 s.intake.absentCount }
           answer := List.replicate size 255 }) ∧
     (∀ bar o size value bs, barSizeOk o size = true →
       bar = 0 ∧ o < 0x04000000 ∧ s.bar0Bytes o size = some bs ∨ bar = 2 ∧ o < 0x40000000 ∧ s.bar2Bytes o size = some bs →
       Completes (.barAbsentAccess false ⟨bar, o, size, value⟩) s { s with answer := bs }) ∧
     (∀ write bar o size value, barSizeOk o size = false →
       bar = 0 ∧ o < 0x04000000 ∨ bar = 2 ∧ o < 0x40000000 →
       Completes (.barAbsentAccess write ⟨bar, o, size, value⟩) s (s.emit .unsupported bar [o, size])) ∧
     (∀ offset size, barSizeOk offset size = true → offset + size ≤ s.dataBytes → s.store.rasterIn = false →
       Completes (.diagnosticStoreRead offset size 0) s
         { s.supervisorBurst (s.channelOf offset) with
           answer := (upTo size).map fun k => cellGet s.store.cells (offset + k) }) ∧
     (∀ offset size v t, barSizeOk offset size = true → offset + size ≤ s.dataBytes → s.store.rasterIn = true →
       (s.supervisorBurst (s.channelOf offset)).freeNat = (v, t) →
       Completes (.diagnosticStoreRead offset size 0) s
         { t with
           answer := (upTo size).map fun k =>
             if s.store.probed.contains (offset + k) then cellGet s.store.cells (offset + k) else v / 256 ^ k % 256 }) ∧
     (∀ offset size failure, barSizeOk offset size = false →
       Completes (.diagnosticStoreRead offset size failure) s (s.emit .unsupported 4 [offset, size])) ∧
     (∀ offset size value, barSizeOk offset size = true → s.tt.state = .idle → s.nmt.state = .preOperational →
       s.cfg 0x2200 8 = 1 → s.slotsWhere SlotState.uncommitted = [] → offset + size ≤ s.dataBytes →
       ∀ t : State, t = s.supervisorBurst (s.channelOf offset) →
         Completes (.diagnosticStoreWrite offset size value) s
           { t with store := { t.store with
               cells := cellsSet s.store.cells offset ((leBytes size value).map (·.toNat))
               probed := if s.store.rasterIn then ((upTo size).map (offset + ·)) ++ s.store.probed else [] } }) ∧
     (∀ q, s.ringPresent q = true → (s.ring q).enable = false → s.ringEnableOk q = true → s.ringKind q ≠ 5 →
       Completes (.ringEnable q) s
         (s.modRing q fun r =>
           { r with enable := true, producer := 0, consumer := 0, head := none, waiting := false, bad := 0 })) ∧
     (∀ q, s.ringPresent q = true → (s.ring q).enable = true → s.ringKind q ≠ 5 →
       ∀ t : State, t = s.ringReset q →
         Completes (.ringReset q) s
           ({ t with store := { t.store with streams := mapSet {} t.store.streams q {} } }.modRing q fun r =>
             { r with enable := false })) ∧
     (∀ q v, ∀ t : State, t = s.leaveRecess (ringDie q) → t.ringPresent q = true → (t.ring q).enable = true → t.ringKind q ≠ 5 →
       ((v % 2 ^ 32 : Nat) - (t.ring q).producer : Int) % 2 ^ 32 < 2 ^ 31 →
       ((v % 2 ^ 32 : Nat) - (t.ring q).consumer : Int) % 2 ^ 32 ≤ 2 ^ (t.ring q).order →
       Completes (.doorbell q v) s (t.modRing q fun r => { r with producer := v % 2 ^ 32 })) ∧
     (∀ q v, ∀ t : State, t = s.leaveRecess (ringDie q) → t.ringPresent q = true → (t.ring q).enable = true → t.ringKind q = 5 →
       (t.modRing q fun r => { r with consumer := v % 2 ^ 32 }).eventRing (ringDie q) = some q →
       ((v % 2 ^ 32 : Nat) - (t.ring q).consumer : Int) % 2 ^ 32 < 2 ^ 31 →
       ((t.ring q).producer - (v % 2 ^ 32 : Nat) : Int) % 2 ^ 32 ≤ 2 ^ (t.ring q).order →
       Completes (.eventRingDoorbell q v) s
         ((t.modRing q fun r => { r with consumer := v % 2 ^ 32 }).reportDrops (ringDie q) q))) ∧
  (∀ s t : State, s.powered = true → t = s.interfaceReset →
     CompletesTold .functionLevelReset s
       { t with mirrors := mapEach {} t.mirrors fun _ m => { m with vectorOn := false, vector := 0 } } ∧
     CompletesTold .hotReset s
       { t with mirrors := mapEach {} t.mirrors fun _ m => { m with vectorOn := false, vector := 0 } } ∧
     CompletesTold .pcieLinkLoss s
       { t with intake := { t.intake with linkUp := false, linkSpeed := 0, linkWidth := 0 } } ∧
     (∀ speed width, 3 ≤ speed → speed ≤ 5 → width = 1 ∨ width = 2 ∨ width = 4 ∨ width = 8 →
       Completes (.pcieLinkTrained speed width) s
         { s with intake := { s.intake with linkUp := true, linkSpeed := speed, linkWidth := width } }))

/-- What a ring does with its descriptors and their data (R80, R82, R85 to R87, R92, R93). The model's choices it
rests on: log entries 5 and 37. -/
def Obligations.RingTraffic : Prop :=
  ∀ (s : State) (q : Nat), s.powered = true →
    (s.fetchable q = true → s.ringTurn q = true → (s.ring q).head = none →
      CompletesTold (.descriptorFetch q none) s (((s.servedRing q).logAer 3).completeHead q 10 0)) ∧
    (∀ d, s.fetchable q = true → s.ringTurn q = true → (s.ring q).head = none →
      CompletesTold (.descriptorFetch q (some d)) s
        (((s.servedRing q).modRing q fun r => { r with head := some { raw := d % 2 ^ 512 } }).judgeHead q (d % 2 ^ 512))) ∧
    (∀ die, s.present die = true → s.beatWinner die = none → CompletesTold (.dmaBeat die) s (s.countBeat die)) ∧
    (∀ die ch c n, ∀ t : State, s.present die = true → s.beatWinner die = some ch → t = s.countBeat die →
      c = mapGet ({} : DmaChannel) t.intake.channels (64 * die + ch) → n = min 64 c.staged → c.ring = some q →
      CompletesTold (.dmaBeat die) s
        (State.modRing
          { t with intake := { t.intake with
              lastChannel := mapSet 0 t.intake.lastChannel (16 * die + t.channelPriority die ch) ch
              channels := mapSet {} t.intake.channels (64 * die + ch)
                { c with staged := c.staged - n, sinceBoundary := (c.sinceBoundary + n) % 4096 } } }
          q fun r => { r with head := r.head.map fun h => { h with moved := h.moved + n } })) ∧
    (∀ h bytes, (s.ring q).head = some h → h.moving = true →
      ∀ (new : List Nat) (h1 : Head) (t : State),
        new = (bytes.take (min (descLength h.raw - h.buf.length)
          (4096 - (mapGet ({} : DmaChannel) s.intake.channels (s.channelKey q)).staged))).map (· % 256) → h1 = { h with buf := h.buf ++ new } →
        t = (s.modRing q fun r => { r with head := some h1 }) →
        ({ t with intake := { t.intake with
            channels := mapMod {} t.intake.channels (t.channelKey q) fun c => { c with staged := c.staged + new.length } } }
          ).headVerdict q h1 = none →
        CompletesTold (.dmaReadCompletion q .ok bytes) s
          { t with intake := { t.intake with
              channels := mapMod {} t.intake.channels (t.channelKey q) fun c => { c with staged := c.staged + new.length } } }) ∧
    (∀ h, (s.ring q).head = some h → h.moving = true → s.ringKind q ≠ 2 →
      CompletesTold (.completionTimeout q) s ((s.logAer 1).endHead q 2)) ∧
    (∀ h, (s.ring q).head = some h → h.moving = true → s.ringKind q = 2 →
      CompletesTold (.completionTimeout q) s (((s.logAer 1).report h.raw 0 0 0 0).endHead q 2)) ∧
    (∀ h, (s.ring q).head = some h → s.ringKind q = 1 → h.moving = true → h.linesStored < descLines h.raw →
      (s.ring q).format = 2 → s.intakeStalled = false →
      ∀ x, x = s.spanOf (laneScanner (ringLane q)) → (h.linesStored + 1) * lineStride 2 x.1 x.2 ≤ h.buf.length →
        (h.linesStored + 1) * lineStride 2 x.1 x.2 ≤ h.moved →
        CompletesTold (.lineStored q) s
          (s.putLine q h (descFirst h.raw + s.sweepStep (laneStation (ringLane q)) * h.linesStored)
            { stored := true, form := 2, bytes := bufferLine 2 x.1 x.2 h.linesStored h.buf } h)) ∧
    (∀ h, (s.ring q).head = some h → s.ringKind q = 1 → h.moving = true → (s.ring q).format ≠ 1 →
      descLines h.raw ≤ h.linesStored → CompletesTold (.descriptorComplete q) s (s.endHead q 0)) ∧
    (∀ h, (s.ring q).head = some h → s.ringKind q = 1 → h.moving = true → (s.ring q).format = 1 →
      descLength h.raw ≤ h.buf.length → descLines h.raw ≤ h.linesStored → descLength h.raw ≤ h.offset →
      CompletesTold (.descriptorComplete q) s (s.endHead q 0))

/-- The panel store, its arbiter and its codec (R103, R109 to R111, R119, R121 to R124, R127 to R130). The model's
choices it rests on: log entries 4 and 36. -/
def Obligations.StoreCommands : Prop :=
  ∀ s : State, s.powered = true →
    (∀ slot lane y chan, lane < 1024 → (s.slot slot).state.isCommitted = true → s.isStored slot lane y = true →
      s.present (laneStation lane) = true → (s.lane lane).lastPlayed < s.sweepKey slot y →
      ∀ t u : State,
        t = (s.modLane lane fun x => { x with lastPlayed := s.sweepKey slot y }) →
        u = { t with
          store := { t.store with
            prefetch := mapMod 0 t.store.prefetch (laneStation lane)
              (· - ceilDiv (s.lineAt slot lane y).bytes.length 64) }
          lines := mapMod {} t.lines (lineKey slot lane y) fun x => { x with badBlocks := x.badBlocks ++ [] } } →
        Completes (.playbackLineDecode slot lane y chan [] []) s
          { u with played := mapSet [] u.played (lineKey slot lane y) (u.decodeStored slot lane y) }) ∧
    (∀ c, CompletesTold (.channelLost c) s (s.loseChannel c)) ∧
    (Completes .arbiterWindowStart s (((s.advanceTo ((s.timebase + 1599) / 1600 * 1600)).endWindow 0).endWindow 1)) ∧
    (∀ k pending r, s.channelPresent k = true →
      ∀ t : State, t = (s.modPort k fun p => p.decision s.presentDies (s.asking k pending)) →
        t.arbWinner k ((s.asking k pending).filter fun r =>
          s.requesterOk r && !(s.port k).excluded.contains r && (!(s.port k).detained || decide (r % 8 = 3))) = some r →
        Completes (.arbiterGrant k pending) s (t.grantBurst k r)) ∧
    (∀ k r, (s.port k).lastGrant = some r → r % 8 ≠ 3 →
      Completes (.grantWithdrawn k) s
        (s.modPort k fun p =>
          { p with spent := mapMod 0 p.spent r (· - 1), lastGrant := none, excluded := r :: p.excluded })) ∧
    (∀ k r, (s.port k).lastGrant = some r → r % 8 = 3 →
      ∀ t : State, t = (s.modPort k fun p =>
          { p with spent := mapMod 0 p.spent r (· - 1), lastGrant := none, excluded := r :: p.excluded }) →
        Completes (.grantWithdrawn k) s
          { t with store := { t.store with prefetch := mapMod 0 t.store.prefetch (r / 8) (· - 1) } }) ∧
    (∀ q h block, (s.ring q).head = some h → s.ringKind q = 1 → (s.ring q).format = 0 → s.variant.codec = true →
      h.moving = true → h.linesStored < descLines h.raw → s.compressorTurn q = true →
      bit s.store.compressorHeld (ringDie q) = false → s.intakeStalled = false →
      ∀ x n prev prev2, x = s.spanOf (laneScanner (ringLane q)) → n = x.2 + 1 - x.1 → h.blockPixels < n →
        (h.linesStored + 1) * lineStride 0 x.1 x.2 ≤ h.buf.length →
        (h.linesStored + 1) * lineStride 0 x.1 x.2 ≤ h.moved →
        prev = (if 1 ≤ h.linesStored then bufferLine 0 x.1 x.2 (h.linesStored - 1) h.buf else []) →
        prev2 = (if 2 ≤ h.linesStored then bufferLine 0 x.1 x.2 (h.linesStored - 2) h.buf else []) →
        blockHolds block prev prev2 h.blockPixels
          (((bufferLine 0 x.1 x.2 h.linesStored h.buf).drop h.blockPixels).take (min 2048 (n - h.blockPixels))) = true →
        Completes (.compressorBlockEmit q block) s
          (s.modRing q fun r => { r with head := some { h with
            blocks := h.blocks ++ block, blockPixels := h.blockPixels + min 2048 (n - h.blockPixels) } })) ∧
    (∀ q h blocks, s.jobReady q 0x20 = some h → bit s.store.compressorHeld (ringDie q) = true →
      Completes (.codecCompressJob q blocks) s ((s.report h.raw 0 0 0 0).endHead q 33)) ∧
    (∀ q h blocks j, s.jobReady q 0x20 = some h → bit s.store.compressorHeld (ringDie q) = false →
      j = Job.compress (bit h.raw 106) (jobOutLength h.raw)
        (s.cfg 0x2330 1 - mapGet 0 s.store.mismatches (ringDie q)) ((s.jobStart q h).input.length + 1) blocks (s.jobStart q h) →
      j.mismatches = 0 → Completes (.codecCompressJob q blocks) s (s.endJob q h.raw j)) ∧
    (∀ q h, s.jobReady q 0x21 = some h →
      Completes (.codecDecompressJob q) s
        (s.endJob q h.raw
          (Job.decompress (jobOutLength h.raw) ((s.jobStart q h).input.length + 1) (s.jobStart q h) (s.jobStart q h))))

/-- Lane commands without an immediate (Tables 5-7 and 5-13, R148, R149, R153): SD takes the result, S0 discards it. -/
def Obligations.LaneScalarOps : Prop :=
  ∀ (s : State) (lane sd sa sb : Nat),
    LaneSteps (.nop lane) s lane 0 1 id ∧
    LaneSteps (.add lane sd sa sb) s lane (wordS 0x01 sd sa sb) 1 (fun l => l.setReg sd (l.reg sa + l.reg sb)) ∧
    LaneSteps (.sub lane sd sa sb) s lane (wordS 0x02 sd sa sb) 1 (fun l => l.setReg sd (l.reg sa - l.reg sb)) ∧
    LaneSteps (.and_ lane sd sa sb) s lane (wordS 0x03 sd sa sb) 1 (fun l => l.setReg sd (l.reg sa &&& l.reg sb)) ∧
    LaneSteps (.or_ lane sd sa sb) s lane (wordS 0x04 sd sa sb) 1 (fun l => l.setReg sd (l.reg sa ||| l.reg sb)) ∧
    LaneSteps (.shl lane sd sa sb) s lane (wordS 0x05 sd sa sb) 1 (fun l => l.setReg sd (l.reg sa <<< ((l.reg sb).toNat % 32))) ∧
    LaneSteps (.shr lane sd sa sb) s lane (wordS 0x06 sd sa sb) 1 (fun l => l.setReg sd (l.reg sa >>> ((l.reg sb).toNat % 32))) ∧
    LaneSteps (.mul lane sd sa sb) s lane (wordS 0x07 sd sa sb) 2 (fun l => l.setReg sd (l.reg sa * l.reg sb))

/-- Lane commands with an immediate, the context and the data memory (Tables 5-8 and 5-13, R142, R148, R149, R153). -/
def Obligations.LaneImmediateOps : Prop :=
  ∀ (s : State) (lane sd sa imm : Nat) (i : Int),
    LaneSteps (.addi lane sd sa i) s lane (wordI 0x08 sd sa (imm18 i)) 1
      (fun l => l.setReg sd (l.reg sa + BitVec.ofInt 32 (toSigned 18 (imm18 i)))) ∧
    LaneSteps (.andi lane sd sa imm) s lane (wordI 0x09 sd sa imm) 1
      (fun l => l.setReg sd (l.reg sa &&& BitVec.ofNat 32 (imm % 2 ^ 18))) ∧
    LaneSteps (.ori lane sd sa imm) s lane (wordI 0x0A sd sa imm) 1
      (fun l => l.setReg sd (l.reg sa ||| BitVec.ofNat 32 (imm % 2 ^ 18))) ∧
    LaneSteps (.shli lane sd sa imm) s lane (wordI 0x0B sd sa imm) 1 (fun l => l.setReg sd (l.reg sa <<< (imm % 2 ^ 18))) ∧
    LaneSteps (.shri lane sd sa imm) s lane (wordI 0x0C sd sa imm) 1 (fun l => l.setReg sd (l.reg sa >>> (imm % 2 ^ 18))) ∧
    LaneSteps (.lui lane sd imm) s lane (wordI 0x0D sd 0 imm) 1
      (fun l => l.setReg sd (BitVec.ofNat 32 (imm % 2 ^ 18 * 2 ^ 14))) ∧
    LaneSteps (.gets lane sd imm) s lane (wordI 0x10 sd 0 imm) 1
      (fun l => l.setReg sd (BitVec.ofNat 32 (s.context lane (imm % 2 ^ 18)))) ∧
    (∀ a, a = (s.lane lane).dataAddr sa (toSigned 18 (imm18 i)) → dataOk a 4 = true →
      LaneSteps (.ldw lane sd sa i) s lane (wordI 0x0E sd sa (imm18 i)) 2
        (fun l => l.setReg sd (BitVec.ofNat 32 (word4 (l.dataBytes a.toNat 4)))) ∧
      LaneSteps (.stw lane sd sa i) s lane (wordI 0x0F sd sa (imm18 i)) 1
        (fun l => l.setData a.toNat (bytes4 (l.reg sd).toNat)))

/-- Lane commands that set PC (Tables 5-9 and 5-13, R149, R153), and ENDL, which closes the sweep's code line and
frees its window bank (R137, R146). The model's choices it rests on: log entry 35. -/
def Obligations.LaneBranches : Prop :=
  ∀ (s : State) (lane sa sb target : Nat),
    LaneJumps (.jmp lane target) s lane (wordB 0x14 0 0 target) 2 (fun l => { l with pc := target % 2048 }) ∧
    LaneJumps (.beq lane sa sb target) s lane (wordB 0x15 sa sb target) 0
      (fun l => if l.reg sa = l.reg sb then { l with pc := target % 2048, cycles := l.cycles + 2 }
        else { l with pc := l.pc + 1, cycles := l.cycles + 1 }) ∧
    LaneJumps (.bne lane sa sb target) s lane (wordB 0x16 sa sb target) 0
      (fun l => if l.reg sa ≠ l.reg sb then { l with pc := target % 2048, cycles := l.cycles + 2 }
        else { l with pc := l.pc + 1, cycles := l.cycles + 1 }) ∧
    LaneJumps (.blt lane sa sb target) s lane (wordB 0x17 sa sb target) 0
      (fun l => if (l.reg sa).slt (l.reg sb) = true then { l with pc := target % 2048, cycles := l.cycles + 2 }
        else { l with pc := l.pc + 1, cycles := l.cycles + 1 }) ∧
    LaneJumps (.bge lane sa sb target) s lane (wordB 0x18 sa sb target) 0
      (fun l => if (l.reg sa).slt (l.reg sb) = false then { l with pc := target % 2048, cycles := l.cycles + 2 }
        else { l with pc := l.pc + 1, cycles := l.cycles + 1 }) ∧
    LaneJumps (.loop lane sa target) s lane (wordB 0x19 sa 0 target) 1
      (fun l => { l.setReg sa (l.reg sa - 1) with pc := if l.reg sa - 1 ≠ 0 then target % 2048 else l.pc + 1 }) ∧
    ((s.lane lane).stack.length < 8 →
      LaneJumps (.call lane target) s lane (wordB 0x1A 0 0 target) 2
        (fun l => { l with stack := (l.pc + 1) % 2048 :: l.stack, pc := target % 2048 })) ∧
    (∀ a rest, (s.lane lane).stack = a :: rest →
      LaneJumps (.ret lane) s lane (wordB 0x1B 0 0 0) 2 (fun l => { l with stack := l.stack.tail, pc := l.stack.headD 0 })) ∧
    (s.powered = true → s.pastDeadline lane = true → Completes (.endl lane) s s) ∧
    (s.pastDeadline lane = false → LaneJumps (.endl lane) s lane (wordB 0x1C 0 0 0) 1
      (fun l => { l with
        active := false
        cyclesLast := l.cycles + 1
        cyclesPeak := max l.cyclesPeak (l.cycles + 1)
        sweeps := wrapInc 32 l.sweeps
        bank0 := { l.bank0 with busy := l.bank0.busy && l.bankSel }
        bank1 := { l.bank1 with busy := l.bank1.busy && !l.bankSel }
        buf0 := { l.buf0 with ready := l.buf0.ready || !l.bufSel }
        buf1 := { l.buf1 with ready := l.buf1.ready || l.bufSel } }))

/-- Lane commands on vectors (Tables 5-11 and 5-13, R148, R149, R155): every one of the 32 elements of VD. -/
def Obligations.LaneVectorOps : Prop :=
  ∀ (s : State) (lane vd va vb sa imm : Nat),
    LaneSteps (.vadds lane vd va vb) s lane (wordV 0x28 vd va vb 0 0) 1
      (fun l => l.setVec vd ((upTo 32).map fun e => BitVec.ofNat 8 (min 255 ((l.elem va e).toNat + (l.elem vb e).toNat)))) ∧
    LaneSteps (.vsubs lane vd va vb) s lane (wordV 0x29 vd va vb 0 0) 1
      (fun l => l.setVec vd ((upTo 32).map fun e => BitVec.ofNat 8 ((l.elem va e).toNat - (l.elem vb e).toNat))) ∧
    LaneSteps (.vmin lane vd va vb) s lane (wordV 0x2A vd va vb 0 0) 1
      (fun l => l.setVec vd ((upTo 32).map fun e => if (l.elem va e).toNat ≤ (l.elem vb e).toNat then l.elem va e else l.elem vb e)) ∧
    LaneSteps (.vmax lane vd va vb) s lane (wordV 0x2B vd va vb 0 0) 1
      (fun l => l.setVec vd ((upTo 32).map fun e => if (l.elem va e).toNat ≤ (l.elem vb e).toNat then l.elem vb e else l.elem va e)) ∧
    LaneSteps (.vand lane vd va vb) s lane (wordV 0x2C vd va vb 0 0) 1
      (fun l => l.setVec vd ((upTo 32).map fun e => l.elem va e &&& l.elem vb e)) ∧
    LaneSteps (.vor lane vd va vb) s lane (wordV 0x2D vd va vb 0 0) 1
      (fun l => l.setVec vd ((upTo 32).map fun e => l.elem va e ||| l.elem vb e)) ∧
    LaneSteps (.vcmpgt lane vd va vb) s lane (wordV 0x30 vd va vb 0 0) 1
      (fun l => l.setVec vd ((upTo 32).map fun e => if (l.elem vb e).toNat < (l.elem va e).toNat then 255 else 0)) ∧
    LaneSteps (.vsel lane vd va vb) s lane (wordV 0x31 vd va vb 0 0) 1
      (fun l => l.setVec vd ((upTo 32).map fun e => if l.elem vd e ≠ 0 then l.elem va e else l.elem vb e)) ∧
    LaneSteps (.vsplat lane vd sa) s lane (wordV 0x2E vd 0 0 sa 0) 1
      (fun l => l.setVec vd (List.replicate 32 (BitVec.ofNat 8 ((l.reg sa).toNat % 256)))) ∧
    LaneSteps (.vshr lane vd va imm) s lane (wordV 0x2F vd va 0 0 imm) 1
      (fun l => l.setVec vd ((upTo 32).map fun e => l.elem va e >>> (imm % 256)))

/-- Lane commands of the window, the vector memory, the tone table and the code line (R143, R153, R154, R156 to R158).
The model's choices it rests on: log entry 35. -/
def Obligations.LaneWindowAndTone : Prop :=
  ∀ (s : State) (lane vd va vb sa line imm : Nat) (off : Int),
    LaneSteps (.wld lane vd line sa off) s lane (wordM 0x20 vd sa line off) 2
      (fun l => l.setVec vd ((upTo 32).map fun (e : Nat) =>
        BitVec.ofNat 8 (l.pixel (s.spanOf (laneScanner lane)).1 (s.spanOf (laneScanner lane)).2 (s.slot l.slot).h (line % 4)
          (l.pixelAddr sa (toSigned 15 (ofSigned 15 off)) + e)))) ∧
    LaneSteps (.edge lane vd sa off) s lane (wordM 0x21 vd sa 1 off) 3
      (fun l => l.setVec vd ((upTo 32).map fun (e : Nat) =>
        BitVec.ofNat 8 (l.edgeAt (s.spanOf (laneScanner lane)).1 (s.spanOf (laneScanner lane)).2 (s.slot l.slot).h
          (l.pixelAddr sa (toSigned 15 (ofSigned 15 off)) + e)))) ∧
    (∀ a, a = (s.lane lane).dataAddr sa (toSigned 15 (ofSigned 15 off)) → dataOk a 32 = true →
      LaneSteps (.vld lane vd sa off) s lane (wordM 0x22 vd sa 0 off) 2
        (fun l => l.setVec vd ((l.dataBytes a.toNat 32).map (BitVec.ofNat 8))) ∧
      LaneSteps (.vst lane vd sa off) s lane (wordM 0x23 vd sa 0 off) 1
        (fun l => l.setData a.toNat ((upTo 32).map fun e => (l.elem vd e).toNat))) ∧
    LaneSteps (.vlut lane vd va imm) s lane (wordV 0x32 vd va 0 0 imm) 2
      (fun l => l.setVec vd ((upTo 32).map fun e =>
        BitVec.ofNat 8 (l.dataByte (16 * (imm % 256) + (l.elem va e).toNat % 16)))) ∧
    LaneSteps (.twid lane vd va) s lane (wordV 0x33 vd va 0 0 0) 1
      (fun l => l.setVec vd ((upTo 32).map fun e => BitVec.ofNat 8 (s.toneOf lane ((l.elem va e).toNat % 16) % 64))) ∧
    LaneSteps (.emit lane va vb sa) s lane (wordV 0x35 0 va vb sa 0) 1
      (fun l =>
        let x := s.spanOf (laneScanner lane)
        let es := (upTo 32).map fun e => ((l.elem va e).toNat, (l.elem vb e).toNat)
        if l.bufSel then { l with buf1 := { l.buf1 with codes := emitCodes l.buf1.codes x.1 x.2 (l.pixelAddr sa 0) es } }
        else { l with buf0 := { l.buf0 with codes := emitCodes l.buf0.codes x.1 x.2 (l.pixelAddr sa 0) es } })

/-- TSTART (R157), every one of the 32 elements: the width is VB[e], at most 63, the alignment is that of the tone entry
VA[e][3:0], and the start is 0 for width 0 or ALIGN 0, half of what the width leaves for ALIGN 1, and all of it for
ALIGN 2. -/
def Obligations.ToneStart : Prop :=
  ∀ (s : State) (lane vd va vb : Nat) (w al : Nat → Nat),
    (∀ e, w e = min ((s.lane lane).elem vb e).toNat 63) →
    (∀ e, al e = s.toneOf lane (((s.lane lane).elem va e).toNat % 16) / 64 % 4) →
    (∀ e, e < 32 → al e ≤ 2) →
    LaneSteps (.tstart lane vd va vb) s lane (wordV 0x34 vd va vb 0 0) 1
      (fun l => l.setVec vd ((upTo 32).map fun e => BitVec.ofNat 8
        (if w e = 0 ∨ al e = 0 then 0 else if al e = 1 then (63 - w e) / 2 else 63 - w e)))

/-- Where a lane's program stops (R142, R150, R153, R167): an illegal word, a full or empty stack, a data address out
of range or not aligned. FAULT_PC takes the address and the lane's detention follows. The model's choices it rests on:
log entry 35. -/
def Obligations.LaneProgramFaults : Prop :=
  ∀ (s : State) (lane : Nat), s.powered = true →
    (lane < 1024 → (s.lane lane).active = true → (s.lane lane).state = .running →
      2048 ≤ (s.lane lane).pc ∨ laneLegal (mapGet 0 (s.lane lane).prog (s.lane lane).pc) = false →
      Completes (.illegalInstruction lane) s
        ((s.modLane lane fun l => { l with faultPc := min l.pc 2047 }).raiseLane lane 2)) ∧
    (∀ target, s.laneAt lane (wordB 0x1A 0 0 target) = true → 8 ≤ (s.lane lane).stack.length →
      Completes (.call lane target) s ((s.modLane lane fun l => { l with faultPc := min l.pc 2047 }).raiseLane lane 3)) ∧
    (s.laneAt lane (wordB 0x1B 0 0 0) = true → (s.lane lane).stack = [] →
      Completes (.ret lane) s ((s.modLane lane fun l => { l with faultPc := min l.pc 2047 }).raiseLane lane 3)) ∧
    (∀ sd sa i, s.laneAt lane (wordI 0x0E sd sa (imm18 i)) = true →
      dataOk ((s.lane lane).dataAddr sa (toSigned 18 (imm18 i))) 4 = false →
      Completes (.ldw lane sd sa i) s ((s.modLane lane fun l => { l with faultPc := min l.pc 2047 }).raiseLane lane 4)) ∧
    (∀ sd sa i, s.laneAt lane (wordI 0x0F sd sa (imm18 i)) = true →
      dataOk ((s.lane lane).dataAddr sa (toSigned 18 (imm18 i))) 4 = false →
      Completes (.stw lane sd sa i) s ((s.modLane lane fun l => { l with faultPc := min l.pc 2047 }).raiseLane lane 4)) ∧
    (∀ v sa off, s.laneAt lane (wordM 0x22 v sa 0 off) = true →
      dataOk ((s.lane lane).dataAddr sa (toSigned 15 (ofSigned 15 off))) 32 = false →
      Completes (.vld lane v sa off) s ((s.modLane lane fun l => { l with faultPc := min l.pc 2047 }).raiseLane lane 4)) ∧
    (∀ v sa off, s.laneAt lane (wordM 0x23 v sa 0 off) = true →
      dataOk ((s.lane lane).dataAddr sa (toSigned 15 (ofSigned 15 off))) 32 = false →
      Completes (.vst lane v sa off) s ((s.modLane lane fun l => { l with faultPc := min l.pc 2047 }).raiseLane lane 4))

/-- The lane window and the lane commands (R146, R147, R159 to R163), and what feeds a lane's program: its start, the
fill of its window, and the commitment of a line to a sweep (R137, R138, R144, R225). The model's choices it rests on:
log entry 35. -/
def Obligations.LaneCommands : Prop :=
  ∀ s : State, s.powered = true →
    (∀ lane offset value, offset % 4 = 0 → lane < 1024 → s.present (laneStation lane) = true → offset < 0x2000 →
      (s.lane lane).state = .stopped → s.laneLoading lane = false →
      Completes (.laneMemoryWrite lane offset 4 value) s
        (s.modLane lane fun l => { l with prog := mapSetList 0 l.prog (offset / 4) [value % 2 ^ 32], hostWritten := true })) ∧
    (∀ lane offset value, offset % 4 = 0 → lane < 1024 → s.present (laneStation lane) = true → offset < 0x4000 →
      (s.lane lane).state ≠ .stopped ∨ s.laneLoading lane = true →
      Completes (.laneMemoryWrite lane offset 4 value) s (s.modLane lane fun l => { l with wrRefused := true })) ∧
    (∀ image scope l, s.nmt.booted = true → leadAwake s = true → s.served 0x2500 = true →
      s.laneCheck image scope l true (· = .stopped) = .ok () →
      Completes (.laneLoad image scope l) s
        (State.laneAccepted ((s.scopeLanes scope l).foldl (fun t k =>
            t.modLane k fun x => x.load image (s.domain (0x2540 + image) 0) (s.domain (0x2560 + image) 0)) s)
          image scope l true)) ∧
    (∀ scope l, s.nmt.booted = true → leadAwake s = true → s.served 0x2500 = true → s.laneCheck 0 scope l false (· = .stopped) = .ok () →
      Completes (.laneStart scope l) s
        (State.laneAccepted ((s.scopeLanes scope l).foldl (fun t k =>
            t.modLane k fun x => { x.clearRegs.clearBuffers with
              cyclesPeak := 0, cyclesLast := 0, sweeps := 0,
              state := if decide ((t.station (laneStation k)).band = 1) && (t.beamFirst (laneScanner k) (k % 32)).isNone
                then .bandDark else .running }) s) 0 scope l false)) ∧
    (∀ scope l, s.nmt.booted = true → leadAwake s = true → s.served 0x2500 = true →
      s.laneCheck 0 scope l false (fun x => x = .running || x = .bandDark) = .ok () →
      Completes (.laneStop scope l) s
        (State.laneAccepted ((s.scopeLanes scope l).foldl (fun t k =>
            t.modLane k fun x => { x.clearBuffers with state := .stopped }) s) 0 scope l false)) ∧
    (∀ scope l, s.nmt.booted = true → leadAwake s = true → s.served 0x2500 = true → s.laneCheck 0 scope l false (· = .detained) = .ok () →
      Completes (.laneRelease scope l) s
        (State.errorReset (State.laneAccepted ((s.scopeLanes scope l).foldl (fun t k =>
            (t.undetain 0x10 (laneStation k) (k % 128)).modLane k fun x =>
              { x.clearRegs.clearBuffers with state := .stopped }) s) 0 scope l false))) ∧
    (∀ st, commanded s (0x2508 + st) = true → st < 8 → s.present st = true →
      ((upTo 32).any fun i => (s.slot i).state.isCommitted && bit (s.slot i).mask st &&
        decide ((s.slot i).toneGen.getD st 0 ≠ (s.tone st).gen)) = false →
      Completes (.applyToneTable st 1) s
        ({ s with tones := mapSet {} s.tones st {
            current := (upTo 16).map fun k => s.cfg (0x2508 + st) (k + 1), gen := (s.tone st).gen + 1 } }.accept (0x2508 + st))) ∧
    (∀ lane slot n facet f, s.beamFirst (laneScanner lane) (lane % 32) = some f → lane < 1024 →
      s.present (laneStation lane) = true → (s.lane lane).state = .running → (s.lane lane).active = false →
      (s.slot slot).state.isCommitted = true → bit (s.slot slot).mask (laneStation lane) = true →
      s.scannerUsed (laneScanner lane) = true →
      ∀ y, y = f + s.sweepStep (laneStation lane) * n → y < (s.slot slot).h → (s.lane lane).lastRun < s.sweepKey slot y →
        s.previousRan lane slot n f = true →
        (s.lane lane).bufSel = false → (s.lane lane).buf1.busy = false →
        (s.lane lane).bank0.busy = true → (s.lane lane).bank0.slot = slot → (s.lane lane).bank0.y = y →
        (s.lane lane).bank0.full (s.slot slot).h = true →
        Completes (.programStart lane slot n facet) s
          { s with lanes := mapSet {} s.lanes lane { (s.lane lane) with
                active := true, pc := 0, stack := [], cycles := 0, slot, y, n,
                facet := s.sweepFacet (laneScanner lane) slot n facet, lastRun := s.sweepKey slot y,
                bankSel := false, buf1 := { slot, n, busy := true }, bufSel := true } })

/-- The commitment of a line to the sweep due, or to none (R216, R225, R227). A decoded line enters the window of
every lane of its scanner that holds or will hold it, and no other lane changes (R144). The model's choices it rests
on: log entry 35. -/
def Obligations.SweepWork : Prop :=
  (∀ s : State, s.powered = true →
     (∀ g e i n, (s.scanner g).edge = some e → s.scannerPresent g = true →
       ∀ t : State, t = ((s.advanceTo ((e.t16 + 6400) / 16)).modScanner g fun x => { x with edge := none }) →
         t.webForwards = true → t.dueSweep g e.wl = some (i, n) → (t.deadlines g i n).webForwards = true →
         e.locked = true → e.numbered = true → ((t.deadlines g i n).scanner g).laser = true →
         (t.deadlines g i n).hazard.active = false → (t.deadlines g i n).scannerDark i g = false →
         CompletesTold (.lineStartCommitment g) s ((t.deadlines g i n).exposeLine g i n e)) ∧
     (∀ g e, (s.scanner g).edge = some e → s.scannerPresent g = true →
       ∀ t : State, t = ((s.advanceTo ((e.t16 + 6400) / 16)).modScanner g fun x => { x with edge := none }) →
         t.dueSweep g e.wl = none → CompletesTold (.lineStartCommitment g) s (t.darkHeader g e.facet e.t16)) ∧
     (∀ g e i n, (s.scanner g).edge = some e → s.scannerPresent g = true →
       ∀ t : State, t = ((s.advanceTo ((e.t16 + 6400) / 16)).modScanner g fun x => { x with edge := none }) →
         t.webForwards = false → t.dueSweep g e.wl = some (i, n) →
         CompletesTold (.lineStartCommitment g) s
           (((t.modScanner g fun x => { x with carry := [], carryFor := none }).darkHeader g e.facet e.t16).darkDue g e.wl))) ∧
  (∀ (s : State) (slot lane y : Nat) (px : List Nat), s.powered = true → mapWf {} s.lanes = true →
     mapGet [] s.played (lineKey slot lane y) = px → px ≠ [] →
     ∃ lanes, Completes (.windowFill slot lane y) s { s with played := mapSet [] s.played (lineKey slot lane y) [], lanes } ∧
       (∀ b f, b < 32 → s.beamFirst (laneScanner lane) b = some f →
         (s.lane (laneOf (laneScanner lane) b)).state = .running →
         mapGet {} lanes (laneOf (laneScanner lane) b) =
           (upTo 3).foldl (fun l j =>
             if j ≤ y + 1 ∧ y + 1 - j < (s.slot slot).h ∧ f ≤ y + 1 - j ∧
                 (y + 1 - j - f) % s.sweepStep (laneStation lane) = 0 then
               l.putWindow slot (y + 1 - j) (s.sweepKey slot (y + 1 - j)) j px
             else l) (s.lane (laneOf (laneScanner lane) b))) ∧
       (∀ k, (∀ b f, b < 32 → s.beamFirst (laneScanner lane) b = some f → k ≠ laneOf (laneScanner lane) b) →
         mapGet {} lanes k = s.lane k))

/-- LINE_START_COMMITMENT and WINDOW_FILL complete (R144, R216, R217): with an accepted edge and no sweep due, the
LINE frame with EXPOSE 0 is sent; with a sweep due, the web forward, the scanner locked and numbered, no hazard, a
beam to expose and the code line of every running lane that has a line ready, the exposed line is; a decoded line
leaves the playback buffer for the windows, and where none is decoded nothing changes. The model's choices it rests
on: log entries 35 and 39. -/
def Obligations.CommitmentAndFillComplete : Prop :=
  ∀ s : State, s.powered = true →
    (∀ g e, (s.scanner g).edge = some e → s.scannerPresent g = true → (s.scanner g).state ≠ .off →
      s.dueSweep g e.wl = none →
      exec (.lineStartCommitment g) s =
        .next (finish s (State.settleGroup
          (((s.advanceTo ((e.t16 + 6400) / 16)).modScanner g fun x => { x with edge := none }).darkHeader g e.facet e.t16)))) ∧
    (∀ g e i n, (s.scanner g).edge = some e → s.scannerPresent g = true → s.dueSweep g e.wl = some (i, n) →
      s.webForwards = true → e.locked = true → e.numbered = true → (s.scanner g).laser = true → s.hazard.active = false →
      s.scannerDark i g = false →
      (∀ b f, b < 32 → s.beamFirst g b = some f → f + s.sweepStep (scannerStation g) * n < (s.slot i).h →
        (s.lane (laneOf g b)).state = .running ∧ ((s.lane (laneOf g b)).codeLine i n).isSome = true) →
      exec (.lineStartCommitment g) s =
        .next (finish s (State.settleGroup
          (((s.advanceTo ((e.t16 + 6400) / 16)).modScanner g fun x => { x with edge := none }).exposeLine g i n e)))) ∧
    (∀ slot lane y, mapGet [] s.played (lineKey slot lane y) = [] →
      exec (.windowFill slot lane y) s = .next (finish s s)) ∧
    (∀ slot lane y, mapGet [] s.played (lineKey slot lane y) ≠ [] →
      ∃ lanes, exec (.windowFill slot lane y) s =
        .next (finish s { s with played := mapSet [] s.played (lineKey slot lane y) [], lanes }))

/-- Drafts, knot rings and stitch settings (R169, R170, R177, R187, R188, R192, R194, R196). The model's choices it
rests on: log entry 38. -/
def Obligations.DraftsAndStitches : Prop :=
  ∀ s : State, s.powered = true →
    (∀ lane offset value, offset % 8 = 0 → offset < 0x2000 → lane < 1024 → s.present (laneStation lane) = true →
      (s.lane lane).draftState = .ready →
      Completes (.draftWrite lane offset 8 value) s
        (s.modLane lane fun x => { x with
          draft := x.draft.setKnot (offset / 8)
            (knotOf (patchWord (knotWord ((s.lane lane).draft.knot (offset / 8))) offset 8 value)) })) ∧
    (∀ lane offset value, offset % 8 = 0 → 0x2000 ≤ offset → offset < 0x2080 → lane < 1024 →
      s.present (laneStation lane) = true → (s.lane lane).draftState = .ready →
      Completes (.draftWrite lane offset 8 value) s
        (s.modLane lane fun x => { x with
          draft := x.draft.setFacet ((offset - 0x2000) / 8)
            (facetOf (patchWord (facetWord ((s.lane lane).draft.facet ((offset - 0x2000) / 8))) offset 8 value)) })) ∧
    (∀ lane offset value, offset % 8 = 0 → offset < 0x2080 → lane < 1024 → s.present (laneStation lane) = true →
      (s.lane lane).draftState ≠ .ready →
      Completes (.draftWrite lane offset 8 value) s (s.modLane lane fun x => { x with meshRefused := true })) ∧
    (∀ lane bytes, s.nmt.booted = true → leadAwake s = true → s.served 0x2840 = true → s.nmt.state ≠ .stopped → lane < 1024 →
      s.present (laneStation lane) = true → bytes.length = 8320 → (s.lane lane).draftState = .ready →
      meshWordsOk (words8 bytes) = true →
      Completes (.draftObjectWrite lane bytes) s
        ((s.modLane lane fun x => { x with draft := Mesh.ofWords (words8 bytes) }).accept (0x2840 + laneScanner lane))) ∧
    (∀ lane, (s.lane lane).draftState = .copying → s.formerDone lane = true →
      Completes (.draftCopyComplete lane) s
        (s.modLane lane fun x => { x with draft := x.slate, draftState := .ready, newFrom := none })) ∧
    (∀ q h, (s.ring q).head = some h → s.ringKind q = 3 → h.moving = true → descOp h.raw = 0x30 →
      descLength h.raw ≤ h.buf.length → descLength h.raw ≤ h.moved → (s.lane (knotLane h.raw)).draftState = .ready →
      Completes (.knotWriteDescriptor q) s
        ((s.modLane (knotLane h.raw) fun x => { x with
          draft := (words8 h.buf).zipIdx.foldl (fun m p => m.setKnot (knotFirst h.raw + p.2) (knotOf p.1)) x.draft }).endHead
            q 0)) ∧
    (∀ q h, (s.ring q).head = some h → s.ringKind q = 3 → h.moving = true → descOp h.raw = 0x31 →
      descLength h.raw ≤ h.buf.length → descLength h.raw ≤ h.moved → (s.lane (knotLane h.raw)).draftState = .ready →
      Completes (.facetWriteDescriptor q) s
        ((s.modLane (knotLane h.raw) fun x => { x with
          draft := (words8 h.buf).zipIdx.foldl (fun m p => m.setFacet (knotFirst h.raw + p.2) (facetOf p.1)) x.draft }).endHead
            q 0)) ∧
    (∀ st, commanded s (0x2808 + st) = true → st < 8 → s.present st = true → s.preop = true →
      s.stitchOk st (s.staged st) (s.printable st) = true → s.stitchLegal st (s.staged st) (s.printable st) = true →
      Completes (.applyStitchSettings st 1) s ((s.putStitch st (s.staged st) (s.printable st)).accept (0x2808 + st)))

/-- Flip requests that pass their checks (R189 to R193, R195): a request takes the next number and its lanes wait. The
model's choices it rests on: log entry 38. -/
def Obligations.FlipCommands : Prop :=
  ∀ s : State, s.powered = true →
    (∀ seq scope l, s.nmt.booted = true → leadAwake s = true → s.served 0x2800 = true → s.nmt.state ≠ .stopped →
      s.flipCheck 1 seq scope l = .ok () →
      ∀ t : State,
        t = (s.scopeLanes scope l).foldl (fun t k => t.modLane k fun x =>
              { x with draftState := .pending, flipReq := s.flips.next })
            { s with flips := { s.flips with
                next := s.flips.next + 1,
                requests := mapSet {} s.flips.requests s.flips.next { when_ := 1, scope, seq, acceptedAt := s.timebase } } } →
        Completes (.flipNamedBell seq scope l) s (State.accept { t with flips := { t.flips with result := 0 } } 0x2800)) ∧
    (∀ scope l, s.nmt.booted = true → leadAwake s = true → s.served 0x2800 = true → s.nmt.state ≠ .stopped →
      s.flipCheck 0 0 scope l = .ok () →
      ∀ t : State,
        t = (s.scopeLanes scope l).foldl (fun t k => t.modLane k fun x =>
              { x with draftState := .pending, flipReq := s.flips.next })
            { s with flips := { s.flips with
                next := s.flips.next + 1,
                requests := mapSet {} s.flips.requests s.flips.next { when_ := 0, scope, seq := 0, acceptedAt := s.timebase } } } →
        ∀ u : State,
          u = ((t.scopeLanes scope l).map laneScanner).eraseDups.foldl (fun u g =>
                if (u.scanner g).laser then u else u.flipScanner s.flips.next g) t →
          Completes (.flipNextFacet scope l) s (State.accept { u with flips := { u.flips with result := 0 } } 0x2800)) ∧
    (∀ scope l, s.nmt.booted = true → leadAwake s = true → s.served 0x2800 = true → s.nmt.state ≠ .stopped →
      s.flipCheck 2 0 scope l = .ok () →
      (∀ k, k ∈ s.scopeLanes scope l → (s.lane k).draftState ≠ .pending) →
      Completes (.flipCancel scope l) s (State.accept { s with flips := { s.flips with result := 0 } } 0x2800)) ∧
    (∀ k, s.nmt.booted = true → leadAwake s = true → s.served 0x2800 = true → s.nmt.state ≠ .stopped →
      s.flipCheck 2 0 0 k = .ok () → (s.lane k).draftState = .pending → (s.flipReq (s.lane k).flipReq).scope < 2 →
      Completes (.flipCancel 0 k) s
        (State.accept { s with
          lanes := mapEach {} s.lanes fun i x =>
            if x.flipReq = (s.lane k).flipReq ∧ x.draftState = .pending ∧ [k].contains i then
              { x with draftState := .ready, flipReq := 0 }
            else x
          flips := { s.flips with cancelled := wrapInc 32 s.flips.cancelled, result := 0 } } 0x2800)) ∧
    (∀ q h, (s.ring q).head = some h → s.ringKind q = 3 → descOp h.raw = 0x32 → h.moving = true →
      bits h.raw 199 198 = 3 → s.flipCheck (bits h.raw 197 196) (bits h.raw 255 224) 3 0 = .ok () →
      ∀ t : State, t = s.requestFlip (bits h.raw 197 196) (bits h.raw 255 224) 3 0 →
        Completes (.flipDescriptor q) s (State.endHead { t with flips := { t.flips with result := 0 } } q 0)) ∧
    (∀ q h, (s.ring q).head = some h → s.ringKind q = 3 → descOp h.raw = 0x32 → h.moving = true →
      bits h.raw 199 198 ≠ 3 →
      s.flipCheck (bits h.raw 197 196) (bits h.raw 255 224) (bits h.raw 199 198) (knotLane h.raw) = .ok () →
      ∀ t : State, t = s.requestFlip (bits h.raw 197 196) (bits h.raw 255 224) (bits h.raw 199 198) (knotLane h.raw) →
        Completes (.flipDescriptor q) s (State.endHead { t with flips := { t.flips with result := 0 } } q 0))

/-- Edges and samples of a scanner (R200, R201, R209, R210, R214, R218, R220, R235), the edge watchdog and its retry
(R245). The model's choices it rests on: log entries 7, 39 and 55. -/
def Obligations.ScannerEvents : Prop :=
  ∀ (s : State) (g : Nat), s.powered = true → s.scannerPresent g = true →
    (∀ t16 falling ns, falling = decide (s.cfg (0x2900 + g) 6 = 1) → 10 ≤ ns →
      (s.scanner g).state.lit = true → (s.scanner g).laser = true → (s.scanner g).firstEdge = true →
      CompletesTold (.bdEdge g ⟨t16, falling, ns⟩) s ((s.advanceTo (t16 / 16)).acceptEdge g t16)) ∧
    (∀ t16 falling ns, falling ≠ decide (s.cfg (0x2900 + g) 6 = 1) ∨ ns < 10 →
      CompletesTold (.bdEdge g ⟨t16, falling, ns⟩) s s) ∧
    (∀ t16 falling ns t, falling = decide (s.cfg (0x2900 + g) 6 = 1) → 10 ≤ ns →
      (s.scanner g).state.lit = true → (s.scanner g).laser = true → (s.scanner g).firstEdge = false →
      t = s.advanceTo (t16 / 16) →
      (((t16 : Int) - ((t.scanner g).lastEdge.getD 0 : Nat) : Int) : Rat) <
        t.period16 g * (t.cfg (0x2900 + g) 12 : Rat) / 256 →
      CompletesTold (.bdEdge g ⟨t16, falling, ns⟩) s (t.modScanner g fun x => { x with spurious := wrapInc 32 x.spurious })) ∧
    (∀ last, (s.scanner g).lastEdge = some last → (s.scanner g).state.lit = true → (s.scanner g).laser = true →
      (s.scanner g).firstEdge = false →
      CompletesTold (.bdMissing g) s
        ((s.advanceTo ((last + (ratFloor (s.period16 g * (1 + (s.cfg (0x2900 + g) 13 : Rat) / 256))).toNat) / 16)).missEdge
          g)) ∧
    (∀ ph t, (s.scanner g).phase = some ph → (s.scanner g).state.lit = true → (s.scanner g).state.phased = false →
      (s.scanner g).intervals ≠ [] →
      t = (s.modScanner g fun x => { x with
        phase := none, err := s.phaseError g ph.wbd, errs := (s.phaseError g ph.wbd :: x.errs).take 64,
        wPrev := some (ph.wbd, ph.t16) }) → t.facetPeriod g ≠ 0 →
      CompletesTold (.phaseSample g) s
        (t.sampleLoop g ph.t16 ((s.scanner g).hold.at_ t.timebase) ((s.scanner g).hold.at_ t.timebase)
          ((ticksPerS : Rat) / t.facetPeriod g) ((s.scanner g).wPrev.map fun b => ph.t16 - b.2))) ∧
    (∀ l, (s.scanner g).line = some l → l.started = false → l.aborted = false →
      CompletesTold (.lineStart g) s
        ((s.advanceTo (l.tls16 / 16)).modScanner g fun x => { x with line := some { l with started := true } })) ∧
    (∀ l, (s.scanner g).line = some l → CompletesTold (.lineEnd g) s
      (((s.advanceTo (l.end16 / 16)).finishFrames g).dropLine g true)) ∧
    (∀ t, (s.scanner g).state = .spinUp →
      t = s.advanceTo ((s.scanner g).since + s.cfg (0x2900 + g) 22 * ticksPerMs) → t.laserPermitted g = true →
      CompletesTold (.spinUpElapsed g) s (t.enterSearch g)) ∧
    (∀ t, (s.scanner g).state = .spinUp →
      t = s.advanceTo ((s.scanner g).since + s.cfg (0x2900 + g) 22 * ticksPerMs) → t.laserPermitted g = false →
      CompletesTold (.spinUpElapsed g) s ((t.beginSearch g false).enterCoast g)) ∧
    (∀ last t, (s.scanner g).laser = true → (s.scanner g).state.lit = true → (s.scanner g).state ≠ .search →
      (s.scanner g).lastAccepted = some last →
      t = ((s.advanceTo ((last + (ratFloor (2 * s.period16 g)).toNat + 15) / 16)).modLink g fun k =>
        { k with bdTrips := wrapInc 32 k.bdTrips }) →
      CompletesTold (.bdWatchdog g) s
        (((t.modLink g fun k => { k with bdTrip := true, bdTripAt := t.timebase }).raiseLink g 4).relaser g)) ∧
    ((s.link g).bdTrip = true →
      CompletesTold (.bdRetryElapsed g) s
        (((s.advanceTo ((s.link g).bdTripAt + s.cfg (0x2A00 + g) 5 * ticksPerMs)).modLink g fun k =>
          { k with bdTrip := false }).settleLaser g))

/-- The scanner commands START, STOP, RELEASE and RELEARN (R223): what an accepted one leaves (Table 7-3; STOP has no effect
in OFF), which states it is refused in, and that any other value is refused. That START also needs its output free and assigned
and its PLL locked, and is refused with 0x0609_0030 where the enabled slots no longer fit the engine, is read from R301, R342 and
R506 (log entries 15 and 39). -/
def Obligations.ScannerCommands : Prop :=
  ∀ (s : State) (g j : Nat), commanded s (0x2900 + g) = true → s.scannerPresent g = true →
    j = 64 * scannerStation g + g % 4 →
    (∀ t : State, (s.scanner g).state = .off → s.assigned 15 g 0 = true →
      bit (s.dieClock (scannerStation g)).lock 6 = true → s.faults.fatal = false →
      t = ((s.modScanner g fun x => { x with
            state := .spinUp, since := s.timebase, laser := false, phaseLock := false
            hold := { start := s.holdGoal g, since := s.timebase, goal := s.holdGoal g,
                      rate := s.cfgReal (0x2900 + g) 20 } }).modLoop j fun l => l.start false) →
      (t.ratesOk (scannerStation g) = true →
        CompletesTold (.scannerStart g) s
          (((t.setRef g ((s.cfg (0x2900 + g) 8 : Rat) * s.holdGoal g)).settlePolygon g).accept (0x2900 + g))) ∧
      (t.ratesOk (scannerStation g) = false → CompletesTold (.scannerStart g) s (s.refuse .invalid))) ∧
    ((s.scanner g).state ≠ .off → CompletesTold (.scannerStart g) s (s.refuse .state)) ∧
    ((s.scanner g).state ≠ .off →
      ((upTo 32).any fun i => (s.slot i).state.isCommitted && bit (s.slot i).mask (scannerStation g)) = false →
      CompletesTold (.scannerStop g) s
        ((((((((s.abortLine g).modScanner g fun x => { x with
            state := .off, laser := false, clock := false, line := none, phase := none, numbered := false,
            searchDue := false, indexSeen := false, rev := [], signature := [], distinct := true, learnSum := [], learnRevs := 0, slipRots := [],
            lastEdge := none, lastAccepted := none, freshLock := false, lockRun := 0,
            phaseLock := false }).flipsDark g).undetain 0x11 (scannerStation g) (g % 4)).setOutput (scannerStation g) (g % 4) false).modLoop j LoopSlot.stop).undetainNamed (some j)).errorReset.accept (0x2900 + g))) ∧
    ((s.scanner g).state = .off →
      ((upTo 32).any fun i => (s.slot i).state.isCommitted && bit (s.slot i).mask (scannerStation g)) = false →
      CompletesTold (.scannerStop g) s (s.accept (0x2900 + g))) ∧
    (((upTo 32).any fun i => (s.slot i).state.isCommitted && bit (s.slot i).mask (scannerStation g)) = true →
      CompletesTold (.scannerStop g) s (s.refuse .state)) ∧
    ((s.scanner g).state = .detained →
      CompletesTold (.scannerRelease g) s
        ((((((s.undetain 0x11 (scannerStation g) (g % 4)).modScanner g fun x => { x with state := .coast }).undetain 0x20
          (scannerStation g) j).modLoop j fun l => if l.enabled then l else l.start false).settleLaser g).errorReset.accept
            (0x2900 + g))) ∧
    ((s.scanner g).state ≠ .detained → CompletesTold (.scannerRelease g) s (s.refuse .state)) ∧
    ((s.scanner g).state = .speedHold →
      CompletesTold (.scannerRelearn g) s
        ((s.modScanner g fun x => { x with
          state := .learning, signature := [], distinct := true, rev := [],
          numbered := decide (s.identityMode g ≠ 0) && x.numbered, learnSum := [], learnRevs := 0, slipRots := [] }).accept (0x2900 + g))) ∧
    ((s.scanner g).state ≠ .speedHold → CompletesTold (.scannerRelearn g) s (s.refuse .state)) ∧
    (∀ v, g < 32 → v < 256 → v ∉ [1, 2, 3, 4] →
      CompletesTold (.registerWrite (.object (0x2900 + g) 1) [v]) s (s.refuse .invalid))

/-- Frames of a Pulse link (R230 to R238, R246, Tables 8-2 to 8-8). The model's choices it rests on: log entry 40. -/
def Obligations.LinkFrames : Prop :=
  ∀ (s : State) (g : Nat), s.powered = true →
    (∀ l, (s.scanner g).line = some l → l.aborted = false → 16 * l.codesSent < l.cells → l.trimsReady l.codesSent = true →
      l.codesSent < l.endedFrames s.timebase + 64 → (s.link g).state ≠ .disabled →
      ∀ t : State,
        t = ((s.sendFrame g .codeFrame 0x4B (16 * l.codesSent) ((upTo 16).flatMap fun i =>
              cellBlocks (l.codes.map fun m => mapGet 0 m (16 * l.codesSent + i)))).modScanner g fun x =>
            { x with line := some { l with codesSent := l.codesSent + 1 } }) →
        (dwellStep (64 * t.cfg (0x2A00 + g) 4) l l.codesSent (t.link g).runs).2 = false →
        Completes (.codeFrameSend g) s
          (t.modLink g fun x => { x with runs := (dwellStep (64 * t.cfg (0x2A00 + g) 4) l l.codesSent (t.link g).runs).1 })) ∧
    (∀ l, (s.scanner g).line = some l → l.aborted = false → l.trimsSent < 1024 → (s.link g).state ≠ .disabled →
      Completes (.trimFrameSend g) s
        ((s.sendFrame g .trimFrame 0x33 l.trimsSent (cellBlocks (l.slates.map fun m =>
          trimOf m l.dir (s.fuse 0x4010 (scannerStation g + 1)) l.trimsSent))).modScanner g fun x =>
            { x with line := some { l with trimsSent := l.trimsSent + 1 } })) ∧
    (s.scannerPresent g = true → (s.link g).state ≠ .disabled → Completes (.timeFrameSend g) s (s.sendTime g)) ∧
    (s.scannerPresent g = true → (s.link g).state ≠ .disabled →
      Completes (.backChannelLock g) s (s.modLink g fun k => { k with symbolLock := true })) ∧
    (∀ raw, s.scannerPresent g = true → (s.link g).symbolLock = true → bits raw 7 0 = 1 → (s.link g).state = .training →
      bits raw 18 16 = 2 ∨ bits raw 18 16 = 3 →
      CompletesTold (.statusFrame g raw) s
        ((s.healBeams g (bits raw 63 32)).modLink g fun k =>
          { k with state := .ident, since := s.timebase, lastStatus := s.timebase })) ∧
    (∀ raw, s.scannerPresent g = true → (s.link g).symbolLock = true → bits raw 7 0 = 1 → (s.link g).state = .run →
      bits raw 18 16 = 2 ∨ bits raw 18 16 = 3 → bit raw 26 = false → bit raw 24 = false → bit raw 27 = false →
      CompletesTold (.statusFrame g raw) s
        ((s.modLink g fun k => { k with lastStatus := s.timebase }).failedReport g (bits raw 63 32))) ∧
    (∀ raw rs t, s.scannerPresent g = true → bits raw 7 0 = 2 →
      rs = ((upTo 32).map fun b => bits raw (16 * b + 47) (16 * b + 32)) →
      t = (s.modLink g fun k => { k with ratios := rs.zipIdx.foldl (fun m p => mapSet 0xFFFF m p.2 p.1) k.ratios }) →
      (rs.any fun r => decide (r ≠ 0xFFFF) && decide (16384 + t.cfg (0x2A00 + g) 6 < r)) = false →
      Completes (.powerFrame g raw) s t) ∧
    (∀ raw, s.scannerPresent g = true → (s.link g).state = .ident → bits raw 7 0 = 3 → bits raw 23 16 = 1 →
      bits raw 31 24 = 32 → 2 * s.cfg (0x2900 + g) 11 ≤ bits raw 63 32 →
      CompletesTold (.identFrame g raw) s
        ((s.modLink g fun k => { k with
          state := .run, since := s.timebase, lastStatus := s.timebase, lines := 0, timeSent := false, tags := [],
          reports := [], driverId := bits raw 95 64, latency := bits raw 111 96, maxRate := bits raw 63 32 }).settleLaser g)) ∧
    (∀ raw, s.scannerPresent g = true → (s.link g).state = .ident → bits raw 7 0 = 3 → bits raw 31 24 ≠ 32 →
      CompletesTold (.identFrame g raw) s ((s.modLink g fun k => { k with since := s.timebase }).raiseLink g 7))

/-- Commands and timers of a Pulse link (R230, R236, R246, R248, Table 8-9). The model's choices it rests on: log
entries 7 and 40. -/
def Obligations.LinkCommands : Prop :=
  ∀ (s : State) (g : Nat), s.scannerPresent g = true →
    (s.powered = true →
      Completes (.badBackChannelFrame g) s (s.modLink g fun k => { k with errors := wrapInc 32 k.errors })) ∧
    (s.powered = true → (s.link g).state = .run →
      CompletesTold (.statusTimeout g) s ((s.advanceTo ((s.link g).lastStatus + 100 * ticksPerUs)).leaveRun g 2)) ∧
    (s.powered = true → (s.link g).state = .ident →
      CompletesTold (.identTimeout g) s ((s.advanceTo ((s.link g).since + 100 * ticksPerMs)).retrain g)) ∧
    (∀ t, s.powered = true → (s.link g).state = .retrain → t = s.advanceTo ((s.link g).since + ticksPerMs) →
      CompletesTold (.retrainElapsed g) s
        (t.modLink g fun k => { k with state := .training, since := t.timebase, retrains := wrapInc 32 k.retrains })) ∧
    (commanded s (0x2A00 + g) = true → s.faults.fatal = false → (s.link g).state = .disabled →
      CompletesTold (.linkEnable g) s
        ((s.modLink g fun k => { k with state := .training, since := s.timebase, symbolLock := false, timeSent := false }).accept
          (0x2A00 + g))) ∧
    (commanded s (0x2A00 + g) = true →
      ((upTo 32).any fun i => (s.slot i).state.isCommitted && bit (s.slot i).mask (scannerStation g)) = false →
      CompletesTold (.linkDisable g) s
        ((((s.abortLine g).modLink g fun k =>
          { k with state := .disabled, symbolLock := false, timeSent := false }).relaser g).accept (0x2A00 + g))) ∧
    (commanded s (0x2A00 + g) = true →
      CompletesTold (.linkClear g) s
        (((s.modLink g fun k => { k with dwellTrip := false, powerTrip := false, clearMask := k.failedMarks }).settleLaser g).accept
          (0x2A00 + g))) ∧
    (s.powered = true → (s.scanner g).laser = false → CompletesTold (.laserEnReadbackMismatch g) s (s.raiseLink g 9))

/-- Edges and words of the feedback channels (R255 to R257, R262, R264 to R266, R269). The model's choices it rests
on: log entries 7 and 41. -/
def Obligations.FeedbackEvents : Prop :=
  ∀ (s : State) (ch : Nat), s.powered = true → s.chanPresent ch = true →
    (∀ a b t, ch < 16 → (s.chan ch).state = .run → ((s.chan ch).a = a ↔ (s.chan ch).b ≠ b) → (s.chan ch).counted = false →
      bit (s.chanCfg ch) 62 = false →
      CompletesTold (.countEdge ch a b t) s
        ((s.modChan ch fun c => { c with a, b }).channelMoved ch t
          ((s.chan ch).position + quadStep (s.chan ch).a (s.chan ch).b a b))) ∧
    (∀ a b t, ch < 16 → (s.chan ch).state = .run → (s.chan ch).a ≠ a → (s.chan ch).b ≠ b →
      CompletesTold (.countEdge ch a b t) s
        ((((s.modChan ch fun c => { c with a, b }).advanceTo t).modChan ch fun c =>
          { c with errors := wrapInc 32 c.errors }).channelError ch 1)) ∧
    (ch < 16 → (s.chan ch).state = .run → bit (s.chanCfg ch) 57 = true →
      CompletesTold (.encoderAlarm ch) s (s.channelError ch 2)) ∧
    (∀ t, ch < 16 → (s.chan ch).state = .run → bits (s.chanCfg ch) 59 58 = 2 * b2n (s.chan ch).b + b2n (s.chan ch).a →
      bits (s.chanCfg ch) 61 60 ≠ 1 →
      Completes (.indexEdge ch t) s ((s.advanceTo t).modChan ch fun c => { c with capture := c.position })) ∧
    (∀ t, ch < 16 → (s.chan ch).state = .run → bits (s.chanCfg ch) 59 58 = 2 * b2n (s.chan ch).b + b2n (s.chan ch).a →
      bits (s.chanCfg ch) 61 60 = 1 → (s.chan ch).armed = true →
      ∀ u : State, u = ((s.advanceTo t).modChan ch fun c => { c with capture := c.position }) →
        (u.chan ch).armed = true →
        Completes (.indexEdge ch t) s
          (((u.modChan ch fun c => { c with armed := false }).setChannel ch (u.cfgI64 (0x3100 + ch) 4)).homed ch)) ∧
    (∀ t, 16 ≤ ch → (s.chan ch).state = .run → (s.chan ch).reading = none → (s.chan ch).readyAt ≤ t →
      CompletesTold (.serialReadStart ch t false) s
        (((s.advanceTo t).modChan ch fun c => { c with reading := some t }).emit .serialClock ch [t])) ∧
    (∀ t t0, 16 ≤ ch → (s.chan ch).state = .run → (s.chan ch).reading = some t0 →
      ∀ low, CompletesTold (.serialReadStart ch t low) s
        ((s.advanceTo t).modChan ch fun c => { c with skipped := wrapInc 32 c.skipped })) ∧
    (∀ w word p n t0 t, 16 ≤ ch → (s.chan ch).state = .run → (s.chan ch).reading = some t0 → w = s.chanCfg ch →
      n = bits w 57 52 + 1 → p = bits w 51 46 + 1 → bits w 45 41 = 0 → bit w 59 = false → bit w 61 = false →
      bit w 62 = false → (s.chan ch).lastWord = none →
      t = (s.modChan ch fun c => { c with reading := none, readyAt := s.timebase + s.recovery ch }) →
      CompletesTold (.serialWord ch word) s
        ((t.modChan ch fun c => { c with lastWord := some (word % 2 ^ n / 2 ^ (n - p)), bad := 0 }).channelMoved ch
          (t0 - 64 * bits w 9 2) (0 + toSigned p (word % 2 ^ n / 2 ^ (n - p) + 2 ^ p - 0)))) ∧
    (∀ w word p n t0 t l, 16 ≤ ch → (s.chan ch).state = .run → (s.chan ch).reading = some t0 → w = s.chanCfg ch →
      n = bits w 57 52 + 1 → p = bits w 51 46 + 1 → bits w 45 41 = 0 → bit w 59 = false → bit w 61 = false →
      bit w 62 = false → (s.chan ch).lastWord = some l →
      t = (s.modChan ch fun c => { c with reading := none, readyAt := s.timebase + s.recovery ch }) →
      CompletesTold (.serialWord ch word) s
        ((t.modChan ch fun c => { c with lastWord := some (word % 2 ^ n / 2 ^ (n - p)), bad := 0 }).channelMoved ch
          (t0 - 64 * bits w 9 2) ((s.chan ch).position + toSigned p (word % 2 ^ n / 2 ^ (n - p) + 2 ^ p - l)))) ∧
    (∀ t0, 16 ≤ ch → (s.chan ch).state = .run → (s.chan ch).reading = some t0 → bit (s.chanCfg ch) 60 = true →
      CompletesTold (.serialWordTimeout ch) s
        ((s.advanceTo (t0 + 160 * bits (s.chanCfg ch) 33 24)).badWord ch 5))

/-- CLEAR, ARM and SET of a channel, the latches and the compare outputs (R259 to R263, R267, R268, R270 to R273). The
model's choices it rests on: log entries 12 and 41. -/
def Obligations.ChannelsLatchesCompares : Prop :=
  ∀ s : State,
    (∀ ch, commanded s (0x3100 + ch) = true → s.chanPresent ch = true → (s.chan ch).state ≠ .error →
      Completes (.channelClear ch) s (s.accept (0x3100 + ch))) ∧
    (∀ ch, commanded s (0x3100 + ch) = true → s.chanPresent ch = true → (s.chan ch).state = .error →
      s.cfg 0x2180 1 ≠ ch →
      ∀ t : State, t = (s.modChan ch fun c => { c with state := .run, bad := 0, counted := false }) →
        Completes (.channelClear ch) s
          ((if (s.chan ch).lastCause = 1 then
              ((upTo 64).filter fun a => decide (t.cfg (0x3000 + a) 12 = ch)).foldl
                (fun v a => v.modAxis a fun x => { x with lost := true }) t
            else t).accept (0x3100 + ch))) ∧
    (∀ ch, commanded s (0x3100 + ch) = true → s.chanPresent ch = true →
      Completes (.channelArm ch) s ((s.modChan ch fun c => { c with armed := true }).accept (0x3100 + ch))) ∧
    (∀ ch, commanded s (0x3100 + ch) = true → s.chanPresent ch = true →
      Completes (.channelSet ch) s ((s.setChannel ch (s.cfgI64 (0x3100 + ch) 4)).accept (0x3100 + ch))) ∧
    (∀ n t rising, s.powered = true → s.latchPresent n = true → s.latchWired n = true → bit (s.cfg 0x3118 (n + 1)) 31 = true →
      bits (s.cfg 0x3118 (n + 1)) 30 29 = 2 ∨ bits (s.cfg 0x3118 (n + 1)) 30 29 = (if rising then 0 else 1) →
      (∀ l, (s.latch n).lastAt = some l → l + 160 ≤ t) →
      ∀ (pos : Int) (cap : Capture) (u v : State),
        pos = (if bits (s.cfg 0x3118 (n + 1)) 28 24 < 24 then (s.chan (bits (s.cfg 0x3118 (n + 1)) 28 24)).position else 0) →
        cap = { stamp := t, w := (s.advanceTo t).w, position := pos } →
        u = ((s.advanceTo t).modLatch n fun x =>
          if x.queue.length < 16 then { x with queue := x.queue ++ [cap], lastAt := some t }
          else { x with dropped := wrapInc 32 x.dropped, lastAt := some t }) →
        v = (if bit (s.cfg 0x3118 (n + 1)) 15 then
          u.postEvent (n / 8) 0x0202 n (ofSigned 64 cap.w + ofSigned 64 cap.position * 2 ^ 64) else u) →
        bit (v.cfg 0x2100 10) 7 = false →
        Completes (.latchCapture n t rising) s
          { v with scanners := mapEach {} v.scanners fun g y =>
            if v.cfg (0x2900 + g) 4 = 1 ∧ v.cfg (0x2900 + g) 5 = n then { y with indexSeen := true } else y }) ∧
    (∀ n, s.powered = true → s.nmt.booted = true → leadAwake s = true → s.served 0x3119 = true → s.latchPresent n = true →
      Completes (.latchQueueRead n) s
        { (s.modLatch n fun x => { x with queue := [] }) with
          answer := (s.latch n).queue.flatMap Capture.bytes, resp := none }) ∧
    (∀ n t, s.powered = true → (s.cmpOut n).pulseEnd = some t →
      Completes (.comparePulseEnd n) s ((s.advanceTo t).modCmp n fun x => { x with active := false, pulseEnd := none })) ∧
    (∀ n es, commanded s 0x311D = true → n < 64 → s.present (n / 8) = true → es ≠ [] →
      s.appendOrdered n es = true → (s.cmpOut n).list.length + es.length ≤ 4096 →
      Completes (.compareAppend n es) s ((s.cmpAppend n es).accept 0x311D)) ∧
    (∀ q h n es, s.powered = true → (s.ring q).head = some h → s.ringKind q = 4 → descOp h.raw = 0x4B → h.moving = true →
      descLength h.raw ≤ h.buf.length → descLength h.raw ≤ h.moved → n = motionUnit h.raw → es = (words8 h.buf).map (toSigned 64) →
      s.appendOrdered n es = true →
      (s.cmpOut n).list.length + es.length ≤ 4096 →
      Completes (.compareAppendDescriptor q) s ((s.cmpAppend n es).endHead q 0)) ∧
    (∀ n v, commanded s 0x311A = true → n < 64 → s.present (n / 8) = true → cmpCfgOk v = true → s.cmpNames v = true →
      bit v 63 = true → bit (s.cmpCfg n) 63 = false → cmpMode v ≠ 1 → s.assigned 11 n 0 = true →
      Completes (.compareConfigWrite n v) s
        (((s.setCfg 0x311A (n + 1) v).modCmp n fun x => { x with next := 0 }).accept 0x311A)) ∧
    (∀ n v, commanded s 0x311A = true → n < 64 → s.present (n / 8) = true → cmpCfgOk v = true → s.cmpNames v = true →
      bit v 63 = false →
      Completes (.compareConfigWrite n v) s
        (((s.setCfg 0x311A (n + 1) v).modCmp n fun x =>
          { x with
            list := [], lastAppended := none, next := 0, pulseEnd := none
            active := if x.pulseEnd.isSome then false else x.active }).accept 0x311A))

/-- The axis commands of Table 9-10 in the states that take them (R274, R275, R282, R284, R285, R289). The model's
choices it rests on: log entry 42. -/
def Obligations.AxisCommands : Prop :=
  ∀ (s : State) (a : Nat), commanded s (0x3000 + a) = true → s.axisPresent a = true →
    (s.axisFree a = true → (s.axis a).state = .off ∨ (s.axis a).state = .stopped → s.axisWired a = true →
      s.axisHeld a = false → (s.enableAxis a).ratesOk (axisDie a) = true →
      Completes (.axisEnable a) s ((s.enableAxis a).accept (0x3000 + a))) ∧
    (s.axisFree a = true → (s.axis a).state = .hold ∨ (s.axis a).state = .stopped →
      Completes (.axisDisable a) s
        (((s.modAxis a fun x =>
          { x with state := .off, braked := false, vel := {}, target := none, armed := none }).axisSlotsStop a).accept
            (0x3000 + a))) ∧
    (s.axisFree a = true → (s.axis a).state = .hold ∨ (s.axis a).state = .moving →
      Completes (.move a) s
        ((s.startProfile a (ratAbs (s.cfgReal (0x3000 + a) 5)) (s.cfgReal (0x3000 + a) 6)
          (some (s.cfgI64 (0x3000 + a) 3))).accept (0x3000 + a))) ∧
    (s.axisFree a = true → (s.axis a).state = .hold ∨ (s.axis a).state = .moving →
      Completes (.jog a) s
        ((s.startProfile a (s.cfgReal (0x3000 + a) 5) (s.cfgReal (0x3000 + a) 6) none).accept (0x3000 + a))) ∧
    (∀ t, s.axisFree a = true → (s.axis a).state = .hold ∨ (s.axis a).state = .geared →
      s.gearAxis a (s.cfgI64 (0x3000 + a) 3) (s.cfgI64 (0x3000 + a) 4) = some t →
      Completes (.gear a) s (t.accept (0x3000 + a))) ∧
    (s.axisFree a = true → (s.axis a).state = .moving ∨ (s.axis a).state = .geared ∨ (s.axis a).state = .tension →
      Completes (.axisHalt a) s ((s.beginAxisHalt a 0).accept (0x3000 + a))) ∧
    ((s.axis a).state ≠ .off → (s.axis a).state ≠ .detained → s.webGone a = false →
      Completes (.axisStop a) s ((s.toStopped a 0 false).accept (0x3000 + a))) ∧
    (s.axisFree a = true → Completes (.setPosition a) s ((s.placeAxis a (s.cfgI64 (0x3000 + a) 3)).accept (0x3000 + a))) ∧
    (s.axisFree a = true → (s.axis a).state = .detained → (∀ k, k < 4 → s.axisSlot a k = none) →
      Completes (.axisClear a) s
        (((s.undetain 0x19 (axisDie a) a).modAxis a fun x => { x with state := .off, braked := false }).errorReset.accept
          (0x3000 + a))) ∧
    (s.axisFree a = true → (s.axis a).state = .hold ∨ (s.axis a).state = .moving ∨ (s.axis a).state = .geared →
      Completes (.tension a) s ((s.tensionAxis a).accept (0x3000 + a)))

/-- What an axis does of itself (R275, R278 to R280, R283, R284, Table 9-8). The model's choices it rests on: log
entries 7 and 42. -/
def Obligations.AxisEvents : Prop :=
  ∀ (s : State) (a : Nat), s.powered = true → s.axisPresent a = true →
    (∀ t u, (s.axis a).target = some t → (s.axis a).state = .moving →
      u = (s.advanceTo (s.axis a).vel.endAt).catchUp a →
      CompletesTold (.moveComplete a) s
        ((((u.modAxis a fun x => { x with
          state := .hold, vel := {}, target := none, intAt := u.timebase
          micro := if a < 16 then x.micro else x.micro + (t - ratFloor x.commanded)
          acc := if a < 16 then x.acc else 0 }).commandTo a
          (t : Rat)).postEvent (axisDie a) 0x0200 a (ofSigned 64 t)).nipReached a)) ∧
    ((s.axis a).state = .moving → (s.axis a).halting = true →
      CompletesTold (.haltComplete a) s
        (((s.advanceTo (s.axis a).vel.endAt).integrateAxis a).modAxis a fun x =>
          if x.state = .moving then { x with state := .hold, vel := {}, halting := false, target := none } else x)) ∧
    (∀ r wc, (s.axis a).armed = some (r, wc) → (s.axis a).state = .geared → wc ≤ s.w →
      Completes (.gearArmCrossing a) s
        ((s.modAxis a fun x => { x with
          ratio := r, wg := wc, armed := none
          pg := (s.axis a).pg +
            ((s.axis a).ratio : Rat) / (2 ^ 32 : Nat) * (((wc - (s.axis a).wg : Int) : Rat) / 65536) }).gearFollow a)) ∧
    (∀ levels k o, a < 16 → bit (s.cfg (0x3000 + a) 17) 23 = false →
      hallSector (Nat.xor (levels % 8) (bits (s.cfg (0x3000 + a) 17) 19 17)) = some k → (s.axis a).hall = some o →
      (k + bits (s.cfg (0x3000 + a) 17) 22 20) % 6 = (o + 1) % 6 →
      CompletesTold (.hallChange a levels) s
        ((s.modAxis a fun x => { x with hall := some ((o + 1) % 6) }).modAxis a fun x =>
          { x with halls := x.halls + 1 })) ∧
    (∀ levels k o, a < 16 → bit (s.cfg (0x3000 + a) 17) 23 = false →
      hallSector (Nat.xor (levels % 8) (bits (s.cfg (0x3000 + a) 17) 19 17)) = some k → (s.axis a).hall = some o →
      o = ((k + bits (s.cfg (0x3000 + a) 17) 22 20) % 6 + 1) % 6 →
      CompletesTold (.hallChange a levels) s
        ((s.modAxis a fun x => { x with hall := some ((k + bits (s.cfg (0x3000 + a) 17) 22 20) % 6) }).modAxis a fun x =>
          { x with halls := x.halls - 1 })) ∧
    (∀ levels, a < 16 → bit (s.cfg (0x3000 + a) 17) 23 = false →
      hallSector (Nat.xor (levels % 8) (bits (s.cfg (0x3000 + a) 17) 19 17)) = none → (s.axis a).state ≠ .off →
      (s.axis a).state ≠ .detained → CompletesTold (.hallChange a levels) s (s.raiseAxis a 1)) ∧
    (∀ t, 16 ≤ a → (s.axis a).state ≠ .off → (s.axis a).state ≠ .detained → bit (s.cfg (0x3000 + a) 17) 47 = true →
      t = ((s.advanceTo ((s.axis a).intAt + 16000000 / max 1 (bits (s.cfg (0x3000 + a) 17) 63 48))).integrateAxis a) →
      CompletesTold (.pwmPeriod a) s
        ((t.request (.supply a) (bits (s.cfg (0x3000 + a) 17) 39 36)).pwmDue a)) ∧
    (∀ u inc n setup t, 16 ≤ a → (s.axis a).state = .moving → u = s.catchUp a → 0 < u.axisVelocity a →
      inc = (ratFloor (ratAbs (u.axisVelocity a) * (2 ^ 48 : Nat) / 100000000)).toNat → inc ≠ 0 →
      n = (2 ^ 48 - (u.axis a).acc + inc - 1) / inc →
      setup = (if (!bit (u.cfg (0x3000 + a) 17) 47 && decide (true ≠ (u.axis a).forward)) = true then
        bits (u.cfg (0x3000 + a) 17) 23 12 else 0) →
      t = u.advanceTo (u.timebase + 16 * max n setup) →
      CompletesTold (.stepEmit a) s
        (((t.modAxis a fun x => { x with
          acc := (n * inc - (2 ^ 48 - (u.axis a).acc)) % 2 ^ 48, forward := true, micro := x.micro + 1
          intAt := u.timebase + 16 * n }).emit .step a [1]).commandTo a ((u.axis a).commanded + 1))) ∧
    (∀ u inc n setup t, 16 ≤ a → (s.axis a).state = .moving → u = s.catchUp a → u.axisVelocity a < 0 →
      inc = (ratFloor (ratAbs (u.axisVelocity a) * (2 ^ 48 : Nat) / 100000000)).toNat → inc ≠ 0 →
      n = ((u.axis a).acc + 1 + inc - 1) / inc →
      setup = (if (!bit (u.cfg (0x3000 + a) 17) 47 && decide (false ≠ (u.axis a).forward)) = true then
        bits (u.cfg (0x3000 + a) 17) 23 12 else 0) →
      t = u.advanceTo (u.timebase + 16 * max n setup) →
      CompletesTold (.stepEmit a) s
        (((t.modAxis a fun x => { x with
          acc := 2 ^ 48 - 1 - (n * inc - ((u.axis a).acc + 1)) % 2 ^ 48, forward := false, micro := x.micro - 1
          intAt := u.timebase + 16 * n }).emit .step a [0]).commandTo a ((u.axis a).commanded - 1)))

/-- The loop slots of a die (R300, R302, R304, R305, R308, Table 10-1). The model's choices it rests on: log entries 7
and 15. -/
def Obligations.LoopCommands : Prop :=
  ∀ (s : State) (j : Nat),
    (∀ u n rest c, s.powered = true → (s.conv c).running = (u, n) :: rest → c < 2 → s.present c = true →
      ∀ code, CompletesTold (.conversionComplete c code) s
        (((s.advanceTo (2 * (s.conv c).cycle + 320 * ((s.conv c).finished + 1))).setConv c
          { (s.conv c) with running := rest, finished := (s.conv c).finished + 1 }).distribute (code % 4096) u)) ∧
    (s.powered = true → s.slotPresent j = true → (s.loopSlot j).enabled = true → bits (s.trigWord j) 31 28 = 2 →
      (s.loopSlot j).due = true → CompletesTold (.loopTrigger j) s (s.triggerSlot j)) ∧
    (∀ t, s.powered = true → s.slotPresent j = true → (s.loopSlot j).enabled = true → bits (s.trigWord j) 31 28 = 1 →
      (s.loopSlot j).trigger = some t →
      CompletesTold (.loopTrigger j) s ((s.advanceTo (t + bits (s.trigWord j) 27 0 * 16)).triggerSlot j)) ∧
    (∀ t, s.powered = true → s.slotPresent j = true → (s.loopSlot j).enabled = true → bits (s.trigWord j) 31 28 = 1 →
      (s.loopSlot j).trigger = none → (s.loopSlot j).trigPrev = some t →
      CompletesTold (.loopTrigger j) s ((s.advanceTo (t + bits (s.trigWord j) 27 0 * 16)).triggerSlot j)) ∧
    (∀ t u y, s.powered = true → s.slotPresent j = true → s.engineRuns j = true → (s.loopSlot j).trigger = some t →
      u = s.advanceTo (t + 160) → rMul (realOr0 (realOf (u.slotInput j))) (u.cfgReal (0x3200 + j) 9) = some y →
      CompletesTold (.loopComputation j) s
        ((u.stepTime j t).2.applyLaw j t ((u.stepTime j t).2.lawIn j (u.stepTime j t).1 y))) ∧
    (∀ t u, s.powered = true → s.slotPresent j = true → s.engineRuns j = true → (s.loopSlot j).trigger = some t →
      u = s.advanceTo (t + 160) → rMul (realOr0 (realOf (u.slotInput j))) (u.cfgReal (0x3200 + j) 9) = none →
      CompletesTold (.loopComputation j) s ((u.modLoop j fun l => { l with trigger := none }).raiseSlot j 2))

/-- The commands of a host slot (R307): ENABLE starts the slot with i = 0 and u_prev = 0, DISABLE stops it and holds its
output, the two hand-overs select a bank, and clear flags clears MISSED; a slot that a unit owns takes none of them. -/
def Obligations.LoopSlotCommands : Prop :=
  ∀ (s : State) (j : Nat), commanded s (0x3200 + j) = true → s.slotPresent j = true →
    (∀ t, (s.slotOwner j).1 = .host →
      t = ((s.undetain 0x20 (slotDie j) j).modLoop j fun l => { l with
        enabled := true, first := true, i := 0, u := 0, d := 0, handover := false, trigPrev := none,
        trigger := none, waiting := false, outputs := 0 }) →
      t.ratesOk (slotDie j) = true → Completes (.slotEnable j) s (t.errorReset.accept (0x3200 + j))) ∧
    ((s.slotOwner j).1 = .host →
      Completes (.slotDisable j) s
        (((s.undetain 0x20 (slotDie j) j).modLoop j fun l => { l with
          enabled := false, trigger := none, waiting := false }).errorReset.accept (0x3200 + j))) ∧
    ((s.slotOwner j).1 = .host →
      Completes (.slotSelectBank0 j) s
        ((s.modLoop j fun l => { l with bank := false, handover := true, clamped := false }).accept (0x3200 + j))) ∧
    ((s.slotOwner j).1 = .host →
      Completes (.slotSelectBank1 j) s
        ((s.modLoop j fun l => { l with bank := true, handover := true, clamped := false }).accept (0x3200 + j))) ∧
    ((s.slotOwner j).1 = .host →
      Completes (.slotClearFlags j) s ((s.modLoop j fun l => { l with missed := false }).accept (0x3200 + j))) ∧
    ((s.slotOwner j).1 ≠ .host →
      Completes (.slotEnable j) s (s.refuse .state) ∧ Completes (.slotDisable j) s (s.refuse .state) ∧
      Completes (.slotSelectBank0 j) s (s.refuse .state) ∧ Completes (.slotSelectBank1 j) s (s.refuse .state) ∧
      Completes (.slotClearFlags j) s (s.refuse .state))

/-- The delta-sigma inputs and the HV channels (R311, R312, R315 to R317, Table 10-3). The model's choices it rests
on: log entries 12 and 43. -/
def Obligations.HighVoltageCommands : Prop :=
  ∀ s : State,
    (∀ i n h r density v t, s.powered = true → h = dsChannel i → s.hvPresent h = true → r = s.cfg (0x3400 + h) 16 →
      density = ((min n (r ^ 3) : Nat) : Rat) / ((max 1 (r ^ 3) : Nat) : Rat) → v = (2 * density - 1) * s.dsFull i →
      t = ((s.modDs i fun d => { d with main := v, density, lost := false }).dsDue i) →
      i % 2 = 1 ∨ (t.hvChan h).state.live = false ∨ ratAbs v ≤ t.cfgReal (0x3400 + h) 17 →
      Completes (.deltaSigmaOutput i n) s t) ∧
    (∀ i n h r density v t, s.powered = true → h = dsChannel i → s.hvPresent h = true → r = s.cfg (0x3400 + h) 16 →
      density = ((min n (r ^ 3) : Nat) : Rat) / ((max 1 (r ^ 3) : Nat) : Rat) → v = (2 * density - 1) * s.dsFull i →
      t = ((s.modDs i fun d => { d with main := v, density, lost := false }).dsDue i) →
      i % 2 = 0 → (t.hvChan h).state.live = true → t.cfgReal (0x3400 + h) 17 < ratAbs v →
      Completes (.deltaSigmaOutput i n) s (t.raiseHv h 3)) ∧
    (∀ i n v t, s.powered = true → s.hvPresent (dsChannel i) = true →
      v = (2 * (((min n 256 : Nat) : Rat) / 256) - 1) * s.dsFull i →
      t = (s.modDs i fun d => { d with fast := some v, lost := false }) →
      i % 2 = 0 ∨ (t.hvChan (dsChannel i)).state.live = false →
      Completes (.fastFilterOutput i n) s t) ∧
    (∀ i n v t, s.powered = true → s.hvPresent (dsChannel i) = true →
      v = (2 * (((min n 256 : Nat) : Rat) / 256) - 1) * s.dsFull i →
      t = (s.modDs i fun d => { d with fast := some v, lost := false }) →
      i % 2 = 1 → (t.hvChan (dsChannel i)).state.live = true → t.cfgReal (0x3400 + dsChannel i) 18 < ratAbs v →
      Completes (.fastFilterOutput i n) s (t.raiseHv (dsChannel i) 4)) ∧
    (∀ i t, s.powered = true → s.hvPresent (dsChannel i) = true →
      t = (s.modDs i fun d => { d with lost := true, fast := none }) → (t.hvChan (dsChannel i)).state.live = true →
      CompletesTold (.deltaSigmaInputLost i) s (t.raiseHv (dsChannel i) 5)) ∧
    (∀ h, s.powered = true → s.hvPresent h = true → (s.hvChan h).state = .arcBlank →
      Completes (.arcBlankingElapsed h) s
        (((((s.advanceTo ((s.hvChan h).blankAt + s.cfg (0x3400 + h) 20 * ticksPerMs)).modHv h fun x =>
          { x with state := x.former, gates := true }).modNamed (s.hvSlot h) fun l =>
            { l.handTo l.bank with u := 0 }).settleHv h).driveHv h)) ∧
    (∀ h, commanded s (0x3400 + h) = true → s.hvPresent h = true → (s.hvChan h).state = .off →
      s.cfgReal (0x3400 + h) 17 ≠ 0 → s.cfgReal (0x3400 + h) 18 ≠ 0 → (s.hvSlot h).isSome = true → s.hvWired h = true →
      s.outputsFree = true → (s.enableHv h).ratesOk (hvDie h) = true →
      Completes (.hvEnable h) s ((s.enableHv h).accept (0x3400 + h))) ∧
    (∀ h, commanded s (0x3400 + h) = true → s.hvPresent h = true → (s.hvChan h).state ≠ .detained →
      Completes (.hvDisable h) s
        (((((s.modHv h fun x => { x with state := .off, gates := false }).modNamed (s.hvSlot h) LoopSlot.stop).undetain 0x22
          (hvDie h) (h % 8)).undetainNamed (s.hvSlot h)).accept (0x3400 + h))) ∧
    (∀ h, commanded s (0x3400 + h) = true → s.hvPresent h = true → (s.hvChan h).state = .detained →
      Completes (.hvClear h) s ((s.hvOff h).errorReset.accept (0x3400 + h)))

/-- What a fuser zone's mains, sensor and bands do (R319, R320, R321, R324). The model's choices it rests on: log
entries 7 and 43. -/
def Obligations.FuserEvents : Prop :=
  ∀ (s : State) (z : Nat), s.powered = true → s.zonePresent z = true →
    (∀ t, s.triac z = true → s.assigned 9 z 0 = true →
      CompletesTold (.zeroCrossing z t false) s
        ((s.advanceTo t).modZone z fun x => { x with lastCross := some (s.advanceTo t).timebase, fired := false })) ∧
    (∀ t r u, s.triac z = true → s.assigned 9 z 0 = true → (s.zone z).lastRising = some r →
      u = (s.advanceTo t).modZone z (fun x => { x with lastCross := some (s.advanceTo t).timebase, fired := false }) →
      mainsOk (u.timebase - r) = true →
      CompletesTold (.zeroCrossing z t true) s
        ((u.modZone z fun x => { x with lastRising := some u.timebase, period := u.timebase - r }).beginCycle z)) ∧
    (∀ t, (s.zone z).lastCross = some t → s.triac z = true → s.zoneLive z = true → (s.zone z).firing = true →
      (s.zone z).fired = false →
      Completes (.firingDelayElapsed z) s
        (((s.advanceTo (t + s.cfg (0x3500 + z) 25 * ticksPerUs)).modZone z fun x => { x with fired := true }).emit .gatePulse z
          [bits (s.cfg (0x3500 + z) 5) 31 16])) ∧
    (∀ t, (s.zone z).lastCross = some t → s.triac z = true → s.zoneLive z = true → 0 < (s.zone z).period →
      CompletesTold (.zeroCrossTimeout z) s
        (((s.advanceTo (t + 3 * (s.zone z).period / 4)).modZone z fun x => { x with gate := false, firing := false }).raiseZone
          z 5)) ∧
    (∀ t, s.domain (0x3500 + z) 7 ≠ [] → (s.zone z).sampleAt = none →
      t = ((s.modZone z fun x =>
        { x with sampleAt := some s.timebase, sampling := true, code := none, cold := none }).warmZone z) →
      bits (t.cfg (0x3500 + z) 6) 25 24 = 0 →
      CompletesTold (.fuserSample z) s (t.request (.zone z false) (bits (t.cfg (0x3500 + z) 6) 15 8))) ∧
    (∀ t, (s.zone z).bandSince = some t → (s.zone z).state = .regulate → (s.zone z).inBand = false →
      CompletesTold (.bandHoldElapsed z) s
        (((s.advanceTo (t + s.cfg (0x3500 + z) 16 * ticksPerMs)).modZone z fun x => { x with inBand := true }).legacyNip))

/-- The commands of a fuser zone and of the nip (R322 to R326, Table 10-4). The model's choices it rests on: log
entries 12 and 43. -/
def Obligations.FuserCommands : Prop :=
  ∀ s : State,
    (∀ z, commanded s (0x3500 + z) = true → s.zonePresent z = true → (s.zone z).state = .off →
      s.domain (0x3500 + z) 7 ≠ [] → s.cfgReal (0x3500 + z) 18 ≠ 0 → (s.zoneSlot z).isSome = true → s.zoneWired z = true →
      s.outputsFree = true → (s.startZone z).ratesOk (zoneDie z) = true →
      CompletesTold (.zoneStart z) s ((s.startZone z).accept (0x3500 + z))) ∧
    (∀ z, commanded s (0x3500 + z) = true → s.zonePresent z = true → (s.zone z).state ≠ .detained →
      CompletesTold (.zoneStop z) s
        (((((s.modZone z fun x =>
          { x with state := .off, gate := false, firing := false, inBand := false, bandSince := none }).modNamed (s.zoneSlot z)
            LoopSlot.stop).undetain 0x23 (zoneDie z) (z % 4)).undetainNamed (s.zoneSlot z)).accept (0x3500 + z))) ∧
    (∀ z, commanded s (0x3500 + z) = true → s.zonePresent z = true → (s.zone z).state = .detained →
      CompletesTold (.zoneClear z) s ((s.zoneOff z).errorReset.accept (0x3500 + z))) ∧
    (∀ z, commanded s (0x3500 + z) = true → s.zonePresent z = true → (s.zone z).state = .warmup →
      CompletesTold (.zoneSetback z) s
        (((s.modZone z fun x =>
          { x with state := .setback, setpoint := s.cfgReal (0x3500 + z) 13, setAt := s.timebase, inBand := false,
                   bandSince := none }).modNamed (s.zoneSlot z) fun l =>
            { l.handTo true with setpoint := s.cfgReal (0x3500 + z) 13 }).accept (0x3500 + z))) ∧
    (∀ z, commanded s (0x3500 + z) = true → s.zonePresent z = true → (s.zone z).state = .regulate →
      CompletesTold (.zoneSetback z) s
        (((s.modZone z fun x =>
          { x with state := .setback, setpoint := s.cfgReal (0x3500 + z) 13, setAt := s.timebase, inBand := false,
                   bandSince := none }).modNamed (s.zoneSlot z) fun l =>
            { l with setpoint := s.cfgReal (0x3500 + z) 13 }).accept (0x3500 + z))) ∧
    (∀ z, commanded s (0x3500 + z) = true → s.zonePresent z = true → (s.zone z).state = .setback →
      CompletesTold (.zoneResume z) s
        (((s.modZone z fun x =>
          { x with state := .warmup, setpoint := max (s.zone z).temp (s.cfgReal (0x3500 + z) 13),
                   setAt := s.timebase }).modNamed (s.zoneSlot z) fun l =>
            { l.handTo false with setpoint := max (s.zone z).temp (s.cfgReal (0x3500 + z) 13) }).accept (0x3500 + z))) ∧
    (∀ z v, commanded s (0x3500 + z) = true → s.zonePresent z = true → v < 2 ^ 32 → realBad v = false →
      s.cfgReal (0x3500 + z) 13 ≤ realOr0 v →
      Completes (.fuserRunSetpointWrite z v) s
        (((s.setCfg (0x3500 + z) 12 v).runSetpoint z (realOr0 v)).accept (0x3500 + z))) ∧
    (commanded s 0x2190 = true → s.tt.state = .idle → CompletesTold .nipOpen s ((s.setNip true).accept 0x2190)) ∧
    (commanded s 0x2190 = true → s.tt.state = .idle → s.faults.fatal = false → s.hazard.active = false →
      CompletesTold .nipClose s ((s.setNip false).accept 0x2190))

/-- The PLLs and the clock outputs of a die (R331, R334, R335, R340 to R342). The model's choices it rests on: log
entry 44. -/
def Obligations.ClockCommands : Prop :=
  ∀ (s : State) (die : Nat),
    (∀ pll u t, s.powered = true → s.pllServes die pll = true → bit (s.dieClock die).lock pll = false →
      pll < 2 → bit (s.dieClock die).ever pll = false →
      u = (if pll = 1 ∧ s.timebaseRuns = false then
        { s with timebase := 0, power := { s.power with rtc := s.rtcNow, rtcAt := 0 } } else s) →
      t = (u.modClock die fun c =>
          { c with
            lock := setBit c.lock pll true, ever := setBit c.ever pll true, repeated := setBit c.repeated pll false
            relocks := if bit c.ever pll then satInc 8 c.relocks else c.relocks }) →
      CompletesTold (.pllLock die pll) s t) ∧
    (∀ pll t, s.powered = true → s.pllServes die pll = true → bit (s.dieClock die).lock pll = false → 2 ≤ pll →
      t = (s.modClock die fun c =>
          { c with
            lock := setBit c.lock pll true, ever := setBit c.ever pll true, repeated := setBit c.repeated pll false
            relocks := if bit c.ever pll then satInc 8 c.relocks else c.relocks }) →
      (pll = 6 → CompletesTold (.pllLock die pll) s ((t.restartLfsrs die (upTo 6)).relaserDie die)) ∧
      (pll = 5 → CompletesTold (.pllLock die pll) s ((t.trainPort 0).trainPort 1)) ∧
      (pll < 5 → CompletesTold (.pllLock die pll) s t)) ∧
    (∀ pll, s.powered = true → s.pllServes die pll = true → bit (s.dieClock die).lock pll = false →
      2 ≤ pll ∨ bit (s.dieClock die).ever pll = false → bit (s.dieClock die).repeated pll = false →
      CompletesTold (.pllLockTimeout die pll) s (s.modClock die fun c => { c with repeated := setBit c.repeated pll true })) ∧
    (∀ pll, s.powered = true → s.pllServes die pll = true → bit (s.dieClock die).lock pll = false →
      2 ≤ pll ∨ bit (s.dieClock die).ever pll = false → bit (s.dieClock die).repeated pll = true →
      CompletesTold (.pllLockTimeout die pll) s
        ((s.modClock die fun c => { c with repeated := setBit c.repeated pll false }).pllFails die pll)) ∧
    (∀ pll, s.powered = true → s.pllServes die pll = true → bit (s.dieClock die).lock pll = true →
      CompletesTold (.pllLossOfLock die pll) s (s.pllFails die pll)) ∧
    (∀ pll, s.powered = true → s.pllServes die pll = true → bit (s.dieClock die).lock pll = false → pll < 2 →
      bit (s.dieClock die).ever pll = true →
      CompletesTold (.pllLock die pll) s s ∧ CompletesTold (.pllLockTimeout die pll) s s ∧
      CompletesTold (.pllLossOfLock die pll) s s) ∧
    (s.powered = true → CompletesTold .refclkLost s (s.raise 0x28 s.dies.lead 0 1)) ∧
    (∀ v, commanded s (0x3808 + die) = true → die < 8 → s.present die = true → v < 32 →
      Nat.land v (s.ownedOutputs die) = 0 →
      Completes (.dividerCommit die v) s ((s.loadDividers die v).accept (0x3808 + die))) ∧
    (∀ v, commanded s (0x3808 + die) = true → die < 8 → s.present die = true → v < 32 →
      Nat.land (Nat.xor v (s.cfg (0x3808 + die) 13)) (s.ownedOutputs die) = 0 →
      (∀ k, k < 5 → bit v k = true → bit (s.cfg (0x3808 + die) 13) k = false →
        s.outputWired die k = true ∧ s.faults.fatal = false) →
      Completes (.outputEnableWrite die v) s (((s.restartLfsrs die (((upTo 5).filter fun k => bit v k && !bit (s.cfg (0x3808 + die) 13) k).map (· + 1))).setCfg
          (0x3808 + die) 13 v).accept (0x3808 + die))) ∧
    (∀ sub v, commanded s (0x3808 + die) = true → die < 8 → s.present die = true → sub = 1 ∨ sub = 2 →
      s.nmt.state = .preOperational → s.ownedOutputs die = 0 → bit (s.cfg (0x3808 + die) 13) 4 = false →
      auxValueOk sub v = true →
      Completes (.auxPllConfigWrite die sub v) s
        (((s.setCfg (0x3808 + die) sub v).modClock die fun c =>
            { c with lock := setBit c.lock 6 false, repeated := setBit c.repeated 6 false }).accept
          (0x3808 + die)))

/-- Ports, roll call and census of the Haling ring (R355, R357, R360 to R364, R378, R380). The model's choices it
rests on: log entry 45. -/
def Obligations.RingMembership : Prop :=
  ∀ s : State, s.powered = true →
    (∀ port, port < 2 → s.portEnabled port = true → s.portUp port = false →
      Completes (.portUp port) s (s.setPort port .up).sendRoll) ∧
    (∀ port, port < 2 → s.portUp port = true → s.portEnabled port = true →
      CompletesTold (.portDown port) s ((((s.setPort port .training).raise 0x29 0 port 1).holdForLink).sendRoll)) ∧
    (∀ port, port < 2 → s.portUp port = true →
      Completes (.badHalingFrame port) s
        (State.raise { s with haling := { s.haling with discarded := wrapInc 32 s.haling.discarded } } 0x29 0 port 2)) ∧
    (∀ port h r t, port < 2 → s.portUp port = true → h.src ≠ s.seat → h.hops < 1023 →
      (s.modPeer h.src fun x => x.hopsBy port (h.hops + 1)).freshFrame h = true →
      (s.modPeer h.src fun x => x.hopsBy port (h.hops + 1)).portUp port = true →
      t = (s.modPeer h.src fun x => x.hopsBy port (h.hops + 1)).relay .rollFrame port h (rollData r) →
      Nat.land (t.peer h.src).info.ports r.ports = (t.peer h.src).info.ports ∨ (t.peer h.src).heard = false →
      CompletesTold (.roll port h r) s
        ((t.modPeer h.src fun x =>
          { x with
            heard := true, lastAt := t.timebase, info := r, gen := h.gen
            listener := (!(t.peer h.src).heard && (decide (t.tt.state ≠ .idle) && decide (t.tt.state ≠ .stopped)))
              || x.listener }).formCensus)) ∧
    (∀ port h r, port < 2 → s.portUp port = true → h.hops < 1023 → h.src = s.seat → s.haling.lastRoll ≠ some r →
      s.haling.duplicate = false →
      ∀ t : State, t = (s.modPeer s.seat fun x => { x with lastAt := s.timebase }) →
        CompletesTold (.roll port h r) s
          ((State.raise { t with haling := { t.haling with duplicate := true } } 0x29 0 0 3).settleRoll)) ∧
    (s.inGroup = true → Completes .rollSend s s.sendRoll) ∧
    (∀ port h r seats d w seq x, 1023 ≤ h.hops →
      CompletesTold (.roll port h r) s s ∧ CompletesTold (.census port h seats d) s s ∧
      CompletesTold (.align_ port h w) s s ∧ CompletesTold (.commitFrame port h seq) s s ∧
      CompletesTold (.late port h seq) s s ∧ CompletesTold (.state_ port h x) s s) ∧
    (∀ port h seats d t, port < 2 → s.portUp port = true → h.hops < 1023 → s.freshFrame h = true →
      t = s.relay .censusFrame port h (ofSigned 64 d :: seats) → follows16 h.gen t.haling.generation = true →
      seats.contains t.seat = true → t.haling.roll ≠ .minority →
      CompletesTold (.census port h seats d) s (t.adopt seats h.gen h.src d).settleRoll) ∧
    (s.inGroup = true → s.isHomeroom = true → Completes .censusSend s s.sendCensus) ∧
    (∀ seat t, seat ≠ s.seat → (s.peer seat).heard = true →
      t = ((s.advanceTo ((s.peer seat).lastAt + 30 * ticksPerMs)).modPeer seat fun x =>
        { x with heard := false, hopsA := none, hopsB := none, restart := false, listener := false }) →
      t.haling.census.contains seat = true →
      t.holdForLink.haling.roll ≠ .listener ∨ t.holdForLink.haling.homeroom ≠ seat →
      CompletesTold (.partNotHeard seat) s t.holdForLink.formCensus)

/-- Group time and web alignment (R347, R365 to R368). The model's choices it rests on: log entries 5, 44 and 45. -/
def Obligations.GroupTimeFrames : Prop :=
  ∀ s : State, s.powered = true →
    (∀ port h time, port < 2 →
      Completes (.sync port h time) s
        (s.oneHop .syncReplyFrame port [s.timebase, s.timebase, ofSigned 64 s.groupNow])) ∧
    (s.portUp 0 = true →
      Completes (.syncSend 0) s
        (State.oneHop { s with haling := { s.haling with
          portA := { s.haling.portA with syncSent := some s.timebase } } } .syncFrame 0 [ofSigned 64 s.groupNow])) ∧
    (s.portUp 1 = true →
      Completes (.syncSend 1) s
        (State.oneHop { s with haling := { s.haling with
          portB := { s.haling.portB with syncSent := some s.timebase } } } .syncFrame 1 [ofSigned 64 s.groupNow])) ∧
    (∀ h t1 t2 t3 time t err, s.portUp 0 = true → s.haling.portA.syncSent = some t1 →
      t = { s with haling := { s.haling with portA := { s.haling.portA with syncSent := none } } } →
      t.isHomeroom = false → t.upstream = 0 → t.haling.roll ≠ .minority →
      err = 625 * toSigned 64 time + oneWay t1 t2 t3 t.timebase (t.asymmetry 0) - t.group16 * 625 / 65536 →
      CompletesTold (.syncReply 0 h t2 t3 time) s ((t.discipline err).watchResidual err)) ∧
    (∀ h t1 t2 t3 time t err, s.portUp 1 = true → s.haling.portB.syncSent = some t1 →
      t = { s with haling := { s.haling with portB := { s.haling.portB with syncSent := none } } } →
      t.isHomeroom = false → t.upstream = 1 → t.haling.roll ≠ .minority →
      err = 625 * toSigned 64 time + oneWay t1 t2 t3 t.timebase (t.asymmetry 1) - t.group16 * 625 / 65536 →
      CompletesTold (.syncReply 1 h t2 t3 time) s ((t.discipline err).watchResidual err)) ∧
    (∀ port h w t, port < 2 → s.portUp port = true → h.hops < 1023 → s.freshFrame h = true →
      t = s.relay .alignFrame port h [ofSigned 64 w] → t.inGroup = true → t.isHomeroom = false →
      h.src = t.haling.homeroom → t.haling.roll ≠ .listener → t.alignRest = true →
      CompletesTold (.align_ port h w) s
        { t.jumpTo w with haling := { (t.jumpTo w).haling with aligned := true } }) ∧
    (s.inGroup = true → s.isHomeroom = true → s.alignRest = true →
      Completes .alignSend s (s.broadcast .alignFrame [ofSigned 64 s.w]))

/-- Votes, commits, states and halts of the group, and the stitch frames (R63, R64, R183, R370 to R376, R379). The
tunnel to another part's dictionary (R375). The model's choices it rests on: log entries 45 and 46. -/
def Obligations.GroupFrames : Prop :=
  (∀ s : State, s.powered = true →
     (∀ port h seq ready origin hg restart t, port < 2 → s.portUp port = true → h.hops < 1023 → h.dest = s.seat →
       s.inGroup = true → s.isHomeroom = true →
       t = { s with haling := { s.haling with
         votes := mapSet none s.haling.votes (h.src * 2 ^ 32 + seq) (if ready then some (ofSigned 64 origin, hg) else none) } } →
       CompletesTold (.vote port h seq ready origin hg restart) s
         ((t.modPeer h.src fun x => { x with restart }).settleVotes)) ∧
     (∀ port h seq i t, port < 2 → s.portUp port = true → h.hops < 1023 → s.freshFrame h = true →
       t = s.relay .commitFrame port h [seq] → t.inGroup = true → h.src = t.haling.homeroom → t.haling.roll ≠ .listener →
       t.openPanel seq = some i →
       (t.slot i).state = .resident → t.tt.state = .reversing ∨ t.tt.state = .waiting ∨ t.w < t.deadlineAt i →
       (t.modSlot i fun p => { p with commitMsg := true }).commitable i = true →
       CompletesTold (.commitFrame port h seq) s ((t.modSlot i fun p => { p with commitMsg := true }).commitPanel i)) ∧
     (∀ port h seq, port < 2 → s.portUp port = true → h.hops < 1023 → h.bcast = false → h.dest = s.seat →
       CompletesTold (.late port h seq) s (s.takeLate seq)) ∧
     (∀ port h seq t, port < 2 → s.portUp port = true → h.hops < 1023 → h.bcast = true → s.freshFrame h = true →
       t = s.relay .lateFrame port h [seq] → t.inGroup = true → h.src = t.haling.homeroom →
       CompletesTold (.late port h seq) s (t.flagPartial seq)) ∧
     (∀ port h x t u, port < 2 → s.portUp port = true → h.hops < 1023 → s.freshFrame h = true →
       t = s.relay .stateFrame port h
         [x.state, ofSigned 64 x.wd, ofSigned 64 x.wrest, realOf x.vr, b2n x.reached, ofSigned 64 x.delta] →
       t.inGroup = true → t.isHomeroom = false → h.src = t.haling.homeroom → t.haling.roll ≠ .minority → t.haling.roll ≠ .listener →
       x.delta = 0 →
       u = State.followState { t with haling := { t.haling with last := x } } x →
       u.tt.state ≠ .halting → u.tt.state ≠ .ending →
       CompletesTold (.state_ port h x) s
         (State.settlePolygons { u with tt := { u.tt with
           wrest := x.wrest, vr := x.vr, reached := x.reached, restKnown := true } })) ∧
     (s.inGroup = true → s.isHomeroom = true → s.tt.state ≠ .idle →
       Completes .stateSend s (s.broadcast .stateFrame (s.stateData 0))) ∧
     (∀ port h wrest, port < 2 → s.portUp port = true → h.hops < 1023 → h.dest = s.seat → s.inGroup = true →
       s.isHomeroom = true →
       CompletesTold (.haltReport port h wrest) s
         ((s.modPeer h.src fun x => { x with wrest := some wrest }).settleRest)) ∧
     (∀ port h station side err locked t, port < 2 → s.portUp port = true → h.hops < 1023 → s.freshFrame h = true →
       t = s.relay .stitchFrame port h [station, side, ofSigned 32 err, b2n locked] →
       Completes (.stitch port h station side err locked) s
         { t with haling := { t.haling with
           peerErrs := mapSet {} t.haling.peerErrs (joinKey h.src station side)
             { err, locked, stamp := (restamp 40 h.stamp t.groupNow).toNat, known := true, at_ := t.timebase } } }) ∧
     (∀ j, s.inGroup = true → s.joinsOf = [j] →
       Completes .stitchSend s
         (s.broadcast .stitchFrame
           [j.station, j.side, ofSigned 32 (s.meanError (s.joinScanner j.station j.side)),
             b2n (decide ((s.scanner (s.joinScanner j.station j.side)).state = .locked))])) ∧
     (s.inGroup = true → s.joinsOf = [] → Completes .stitchSend s s)) ∧
  (∀ s : State,
     (∀ port h index sub bytes t, s.powered = true → port < 2 → s.portUp port = true → h.hops < 1023 → h.dest = s.seat →
       leadAwake s = true → s.answers = true →
       s.flash.recovery = false → t = s.readObject index sub → t.resp = none →
       CompletesTold (.tunnelReq port h 1 index sub bytes) s (t.tunnelAnswer h.src t.answer)) ∧
     (∀ port h index sub bytes t a, s.powered = true → port < 2 → s.portUp port = true → h.hops < 1023 → h.dest = s.seat →
       leadAwake s = true → s.answers = true →
       s.flash.recovery = false → t = s.readObject index sub → t.resp = some a →
       CompletesTold (.tunnelReq port h 1 index sub bytes) s (t.tunnelAnswer h.src [])) ∧
     (∀ port h index sub bytes t, s.powered = true → port < 2 → s.portUp port = true → h.hops < 1023 → h.dest = s.seat →
       leadAwake s = true → s.answers = true →
       s.flash.recovery = false → t = (s.writeFor (.tunnel h.src) index sub bytes).1 →
       (s.writeFor (.tunnel h.src) index sub bytes).2 = false →
       CompletesTold (.tunnelReq port h 2 index sub bytes) s (t.tunnelAnswer h.src [])) ∧
     (∀ port h index sub bytes t, s.powered = true → port < 2 → s.portUp port = true → h.hops < 1023 → h.dest = s.seat →
       leadAwake s = true → s.answers = true →
       s.flash.recovery = false → t = (s.writeFor (.tunnel h.src) index sub bytes).1 →
       (s.writeFor (.tunnel h.src) index sub bytes).2 = true →
       CompletesTold (.tunnelReq port h 2 index sub bytes) s t) ∧
     (∀ port h result bytes, s.powered = true → leadAwake s = true → port < 2 → s.portUp port = true → h.hops < 1023 → h.dest = s.seat →
       s.haling.tunnel.busy = true → h.src = s.haling.tunnel.seat → result ≠ 0 ∨ (s.endTunnel result).haling.tunnel.reads = false →
       Completes (.tunnelRsp port h result bytes) s (s.endTunnel result)) ∧
     (∀ port h bytes, s.powered = true → leadAwake s = true → port < 2 → s.portUp port = true → h.hops < 1023 → h.dest = s.seat →
       s.haling.tunnel.busy = true → h.src = s.haling.tunnel.seat → (s.endTunnel 0).haling.tunnel.reads = true →
       Completes (.tunnelRsp port h 0 bytes) s ((s.endTunnel 0).setDomain 0x3908 5 bytes)) ∧
     (∀ t, commanded s 0x3908 = true → s.haling.tunnel.busy = false →
       t = { s with haling := { s.haling with tunnel :=
         { busy := true, since := s.timebase, result := 0, seat := s.cfg 0x3908 1, reads := decide (s.cfg 0x3908 4 = 1) } } } →
       (t.peer (s.cfg 0x3908 1)).heard = true →
       Completes (.tunnelSend 1) s
         ((t.unicast .tunnelReqFrame (s.cfg 0x3908 1)
           ([t.cfg 0x3908 4, t.cfg 0x3908 2, t.cfg 0x3908 3]
             ++ if t.cfg 0x3908 4 = 2 then t.domain 0x3908 5 else [])).accept 0x3908)) ∧
     (∀ t, commanded s 0x3908 = true → s.haling.tunnel.busy = false →
       t = { s with haling := { s.haling with tunnel :=
         { busy := true, since := s.timebase, result := 0, seat := s.cfg 0x3908 1, reads := decide (s.cfg 0x3908 4 = 1) } } } →
       (t.peer (s.cfg 0x3908 1)).heard = false → Completes (.tunnelSend 1) s (t.tunnelFails.accept 0x3908)) ∧
     (s.powered = true → s.haling.tunnel.busy = true →
       Completes .tunnelTimeout s (s.advanceTo (s.haling.tunnel.since + 100 * ticksPerMs)).tunnelFails))

/-- The hazard net's inputs, its automatic and commanded release, and the discrepancy of a pair (R383, R386 to R389).
The hazard signal on the ring and the stop of a minority half (R377, R378, R383). The model's choices it rests on: log
entry 24. -/
def Obligations.HazardCommands : Prop :=
  (∀ s : State,
     (∀ src k, s.powered = true → src < 8 → s.pairOf src = some k →
       CompletesTold (.hazardDemand src 0) s
         ((((s.setLevel src (s.demandsHigh src)).sourceDemands src).pairDemand src k).hazardNet src 0)) ∧
     (∀ src, s.powered = true → src < 10 → s.pairOf src = none →
       CompletesTold (.hazardDemand src 0) s
         (((s.setLevel src (s.demandsHigh src)).sourceDemands src).hazardNet src 0)) ∧
     (∀ cause, s.powered = true → CompletesTold (.hazardDemand 10 cause) s (s.hazardNet 10 cause)) ∧
     (∀ src, s.powered = true → src < 10 → bit s.hazard.present src = true →
       s.pairOf src = none →
       CompletesTold (.hazardSourceClear src) s ((s.setLevel src (!s.demandsHigh src)).sourceGone src)) ∧
     (∀ src k, s.powered = true → src < 10 → bit s.hazard.present src = true →
       s.pairOf src = some k →
       CompletesTold (.hazardSourceClear src) s (((s.setLevel src (!s.demandsHigh src)).sourceGone src).pairClear src k)) ∧
     (∀ src u t, s.powered = true → src < 10 → mapGet 0 s.hazard.clearSince src = u → u ≠ 0 → s.pairOf src = none →
       bit (s.cfg 0x4000 6) src = true → bit s.hazard.present src = false → bit s.hazard.sources src = true →
       t = s.advanceTo (u - 1 + s.cfg 0x4000 9 * ticksPerMs) → setBit s.hazard.sources src false ≠ 0 →
       CompletesTold (.automaticRelease src) s
         { t with hazard := { t.hazard with sources := setBit s.hazard.sources src false } }) ∧
     (∀ src u t, s.powered = true → src < 10 → mapGet 0 s.hazard.clearSince src = u → u ≠ 0 → s.pairOf src = none →
       bit (s.cfg 0x4000 6) src = true → bit s.hazard.present src = false → bit s.hazard.sources src = true →
       t = s.advanceTo (u - 1 + s.cfg 0x4000 9 * ticksPerMs) → setBit s.hazard.sources src false = 0 →
       s.hazard.active = true → s.anyBlocked = false → s.faults.fatal = false →
       CompletesTold (.automaticRelease src) s
         (State.releaseNet { t with hazard := { t.hazard with sources := setBit s.hazard.sources src false } })) ∧
     (∀ pair u t, s.powered = true → pair < 4 → (s.pair pair).disagreeSince = some u → bit (s.cfg 0x4000 7) pair = true →
       (s.pair pair).blocked = false →
       t = ((s.advanceTo (u + s.discrepancy + 1)).modPair pair fun p =>
         { p with blocked := true, bothDemanded := false, demandAt := none, clearAt := none }) →
       CompletesTold (.discrepancyTimeout pair) s ((t.raise 0x01 t.dies.lead (2 * pair) 1).netForPair pair)) ∧
     (commanded s 0x4000 = true → s.sourcesQuiet = true → s.faults.fatal = false → s.anyBlocked = false →
       s.hazard.active = true → CompletesTold (.hazardRelease 1) s (s.releaseNet.accept 0x4000)) ∧
     (commanded s 0x4000 = true → s.sourcesQuiet = true → s.faults.fatal = false → s.anyBlocked = false →
       s.hazard.active = false → CompletesTold (.hazardRelease 1) s (s.accept 0x4000))) ∧
  (∀ s : State, s.powered = true →
     (∀ port origin hops t, port < 2 → s.portUp port = true → origin ≠ s.seat →
       t = { s with haling := { s.haling with
         hazardSets := wrapInc 32 s.haling.hazardSets, origins := mapSet 0 s.haling.origins origin (s.timebase + 1) } } →
       CompletesTold (.hazardSet port origin hops) s
         (((t.sourceDemands 9).sendPort .hazardSet (otherPort port) (hazardChars origin (hops + 1))).hazardNet 9 0)) ∧
     (s.hazard.active = true → setBit s.hazard.sources 9 false ≠ 0 → Completes .hazardSetRepeat s s.sendHazardSets) ∧
     (∀ origin t left, mapGet 0 s.haling.origins origin = t → t ≠ 0 → left = mapSet 0 s.haling.origins origin 0 → left ≠ [] →
       ∀ u : State, u = s.advanceTo (t - 1 + 2 * ticksPerUs) →
         Completes (.hazardSetTimeout origin) s { u with haling := { u.haling with origins := left } }) ∧
     (∀ origin t, mapGet 0 s.haling.origins origin = t → t ≠ 0 → mapSet 0 s.haling.origins origin 0 = [] →
       ∀ u : State, u = s.advanceTo (t - 1 + 2 * ticksPerUs) →
         Completes (.hazardSetTimeout origin) s (State.sourceGone { u with haling := { u.haling with origins := [] } } 9)) ∧
     (∀ t u v, s.inGroup = true → (s.haling.census.any fun x => !s.half.contains x) = true → s.quorum = false →
       s.haling.roll ≠ .minority → s.slotsWhere SlotState.isCommitted = [] → s.webQuiet = true →
       t = (upTo 32).foldl State.settleLaser (s.toRoll .minority) →
       u = ((t.hv.map (·.1)).foldl State.hvOff t).zonesToSetback →
       v = (u.axes.map (·.1)).foldl (fun s a =>
         if s.webAxis = some a ∨ ((s.axis a).state ≠ .moving ∧ (s.axis a).state ≠ .geared ∧ (s.axis a).state ≠ .tension) then s
         else s.beginAxisHalt a 0) u →
       (v.stopTimetable 4).tt.state ≠ .idle → CompletesTold .minorityStop s ((v.stopTimetable 4).raise 0x29 0 0 6)))

/-- The maker fuses and the seal (R390 to R397). The model's choices it rests on: log entry 25. -/
def Obligations.FusesAndSeal : Prop :=
  ∀ s : State,
    (∀ die top, commanded s 0x4018 = true → fuseField s.fuses.targetIndex s.fuses.targetSub = some (die, top) →
      s.present die = true → s.fuses.value ≤ top → s.sealed.on = false → s.nmt.state = .preOperational →
      s.hazard.active = true → (s.fuseOf (odKey s.fuses.targetIndex s.fuses.targetSub)).locked = false →
      s.fuses.busy = none →
      Completes (.fuseProgram 0x66757365) s
        (State.accept { s with fuses := { s.fuses with
          busy := some (odKey s.fuses.targetIndex s.fuses.targetSub, s.fuses.value) } } 0x4018)) ∧
    (∀ k v, s.powered = true → s.fuses.busy = some (k, v) →
      Completes (.fuseProgramDone v v) s
        ((upTo 32).foldl State.settleLaser
          { s with fuses := { s.fuses with
              fields := mapSet {} s.fuses.fields k { copyA := v, copyB := v, locked := true, invalid := false }
              result := 0, busy := none } })) ∧
    (∀ k v a b, s.powered = true → s.fuses.busy = some (k, v) → a ≠ v ∨ b ≠ v →
      Completes (.fuseProgramDone a b) s
        ((upTo 32).foldl State.settleLaser
          { s with fuses := { s.fuses with
              fields := mapSet {} s.fuses.fields k { copyA := a, copyB := b, locked := true, invalid := true }
              result := 0xFFFFFFFF, busy := none } })) ∧
    (commanded s 0x4008 = true → s.nmt.state = .preOperational → s.sealed.on = false →
      Completes (.seal_ 0x7365616C) s
        (State.accept { s with sealed := { on := true, stamp := s.timebase, digest := s.limitsDigest } } 0x4008))

/-- The fault collector, FAULTn, the log and the lockstep pairs (R380, R381, R400, R401, R404, R405, R409). Fault
injection, the gate readback and the nodes of the net (R384, R410, R506). The model's choices it rests on: log entries
26, 27 and 47. -/
def Obligations.FaultCommands : Prop :=
  (∀ s : State,
     (∀ codes, s.powered = true → CompletesTold (.faultCollect codes) s ((codes.foldl State.raiseCode s).collectAll 2)) ∧
     (∀ t, s.powered = true → s.faults.pulseEnd = some t →
       ∀ u : State, u = s.advanceTo t →
         Completes .faultPulseEnd s (State.senseFaultn { u with faults := { u.faults with pulseEnd := none } })) ∧
     (commanded s 0x4100 = true → s.faults.fatal = false →
       Completes (.clearFaultLatch 1) s
         ((State.senseFaultn { s with faults := { s.faults with
           latch := false, externalLow := false, powerLatched := false, thermalLatched := false } }).freePorts.errorReset.accept
             0x4100)) ∧
     (s.powered = true → s.drivesFaultn = false →
       Completes .faultnExternalLow s { s with faults := { s.faults with outsideLow := true, externalLow := true } }) ∧
     (s.powered = true → s.drivesFaultn = true →
       Completes .faultnExternalLow s { s with faults := { s.faults with outsideLow := true } }) ∧
     (commanded s 0x4100 = true →
       Completes (.clearLog 1) s (State.accept { s with faults := { s.faults with log := [] } } 0x4100)) ∧
     (∀ die cause, s.powered = true → s.present die = true → cause < 1024 → knownCause 0x03 cause = true →
       CompletesTold (.lockstepMismatch die cause) s (s.raise 0x03 die 0 cause)) ∧
     (∀ die, s.powered = true → s.present die = true → (s.heat die).recess = false →
       CompletesTold (.supervisorWatchdogExpiry die) s (s.raise 0x03 die 0 4)) ∧
     (s.powered = true → s.dies.moving = true →
       Completes .leadDieMove s
         (((State.traceEntry { s with dies := { s.dies with lead := s.presentDies.head?.getD s.dies.lead, moving := false } }
           2 (3 * 2 ^ 12 + s.presentDies.head?.getD s.dies.lead)).endUsdo [0, 1])))) ∧
  (∀ s : State,
     (commanded s 0x4108 = true → injectable.contains (codeUnit (s.cfg 0x4108 1), codeCause (s.cfg 0x4108 1)) = true →
       s.targetPresent (s.cfg 0x4108 1) = true → s.inject.status ≠ 1 → s.nmt.state ≠ .operational ∨ s.tt.state = .idle →
       Completes .injectionArm s
         (State.accept { s with inject := { s.inject with status := 1, target := s.cfg 0x4108 1 } } 0x4108)) ∧
     (commanded s 0x4108 = true → injectable.contains (codeUnit (s.cfg 0x4108 1), codeCause (s.cfg 0x4108 1)) = true →
       s.targetPresent (s.cfg 0x4108 1) = false → Completes .injectionArm s (s.refuse .noSuchUnit)) ∧
     (commanded s 0x4108 = true → s.inject.status = 1 →
       Completes .injectionCancel s (State.accept { s with inject := { s.inject with status := 0 } } 0x4108)) ∧
     (commanded s 0x4108 = true → s.inject.status ≠ 1 → Completes .injectionCancel s (s.accept 0x4108)) ∧
     (∀ n, s.powered = true → n < 192 → s.cfg (0x5000 + n) 1 / 2 ^ 24 = 5 ∨ s.cfg (0x5000 + n) 1 / 2 ^ 24 = 8 →
       CompletesTold (.gateReadbackMismatch n) s (s.raise 0x01 (n / 24) 0 4)) ∧
     (∀ n, s.powered = true → 192 ≤ n → n < 224 → s.cfg (0x5000 + n) 1 / 2 ^ 24 = 5 ∨ s.cfg (0x5000 + n) 1 / 2 ^ 24 = 8 →
       CompletesTold (.gateReadbackMismatch n) s (s.raise 0x01 s.dies.lead 0 4)) ∧
     (∀ die, s.powered = true → s.fitted die = true →
       CompletesTold (.hazardNodeDisagreement die) s (s.raise 0x01 die 0 3)))

/-- The sequencer's standby domain (R417, R418, R420, R421, R423, R425, R437). The model's choices it rests on: log
entries 5 and 28. -/
def Obligations.SequencerEvents : Prop :=
  ∀ s : State,
    (s.power.vstby = false →
      ∀ t : State, t = { s with power := { s.power with vstby := true } } → t.cfg 0x4200 3 = 1 →
        Completes .vstbyApplied s (t.beginPowerUp false)) ∧
    (s.power.vstby = false →
      ∀ t : State, t = { s with power := { s.power with vstby := true } } → t.cfg 0x4200 3 ≠ 1 →
        Completes .vstbyApplied s t) ∧
    (∀ t : State, t = s.lose false →
      Completes .vstbyLoss s
        { t with
          od := t.od.filter fun kv => !standbyKey kv.1
          power := { vstby := false, seq := .standby, enables := 0 } }) ∧
    (∀ r t, s.power.seq = .powerUp → (s.railsOf s.power.step).contains r = true → t = s.standbyTime →
      Completes (.onDelayElapsed r) s
        { t with power := { t.power with enables := setBit s.power.enables r true, stbyok := false } }) ∧
    (∀ readings t j, s.power.seq = .powerUp →
      ((s.railsOf s.power.step).all fun r => bit s.power.enables r && (s.setReadings readings).inWindow r) = true →
      t = (s.setReadings readings).standbyTime → t.stepAfter s.power.step = some j →
      Completes (.powerUpStepComplete readings) s ((t.putRecord 1 s.power.step id).beginStep j)) ∧
    (∀ readings t, s.power.seq = .powerUp →
      ((s.railsOf s.power.step).all fun r => bit s.power.enables r && (s.setReadings readings).inWindow r) = true →
      t = (s.setReadings readings).standbyTime → t.stepAfter s.power.step = none →
      ∀ u : State, u = t.putRecord 1 s.power.step clearedRec →
        Completes (.powerUpStepComplete readings) s { u with power := { u.power with seq := .on } }) ∧
    (∀ r readings t, s.power.seq = .powerUp → (s.railsOf s.power.step).contains r = true →
      (s.setReadings readings).inWindow r = false → t = (s.setReadings readings).standbyTime →
      ∀ u : State, u = { t with power := { t.power with pgTimeouts := setBit t.power.pgTimeouts r true } } →
        Completes (.pgTimeout r readings) s
          ((u.putRecord 2 u.power.step fun x => { x with cause := 8 }).beginShutdown 8)) ∧
    (∀ readings, s.power.seq = .shutDown →
      ((s.railsOf s.power.step).all (s.setReadings readings).railDown) = true →
      Completes (.shutdownStepComplete readings) s
        (((s.setReadings readings).standbyTime.putRecord 3 s.power.step id).stepDown s.power.step)) ∧
    (∀ r readings t, s.power.seq = .shutDown → (s.railsOf s.power.step).contains r = true →
      (s.setReadings readings).railDown r = false → t = (s.setReadings readings).standbyTime →
      ∀ u : State, u = { t with power := { t.power with undischarged := setBit t.power.undischarged r true } } →
        Completes (.dischargeTimeout r readings) s ((u.putRecord 4 s.power.step id).stepDown s.power.step)) ∧
    (∀ t : State, t = s.standbyTime →
      Completes .coolDownElapsed s { t with power := { t.power with cooling := false } }) ∧
    (∀ falling, bit (s.cfg 0x4200 2) 0 = true → bit (s.cfg 0x4200 2) 1 = falling →
      Completes (.wakeEdge falling) s s.standbyTime.wake) ∧
    (bit (s.cfg 0x4200 2) 2 = true →
      Completes .rtcAlarm s
        (State.wake { s with power := { s.power with rtc := s.cfg 0x4200 4 % 2 ^ 48, rtcAt := s.timebase } }))

/-- Rails, heat, recess and standby of a running part (R422, R426 to R432, R434 to R436). The model's choices it rests
on: log entries 7, 28, 29 and 55. -/
def Obligations.PowerAndThermalCommands : Prop :=
  ∀ s : State,
    (∀ r readings t, s.powered = true → s.power.seq = .on → r < 8 → s.railRole r = 1 →
      t = s.setReadings readings → t.inWindow r = false →
      CompletesTold (.railDeparture r readings) s (t.powerLost r 2 4)) ∧
    (∀ r readings t, s.powered = true → s.power.seq = .on → r < 8 → t = s.setReadings readings → t.inWindow r = false →
      (s.railRole r = 2 → CompletesTold (.railDeparture r readings) s (t.memoryRailLost r 2)) ∧
      (s.railRole r = 3 → CompletesTold (.railDeparture r readings) s (t.memoryRailLost r 3)) ∧
      (s.railRole r = 4 → CompletesTold (.railDeparture r readings) s (t.memoryRailLost r 4)) ∧
      (s.railRole r = 5 → CompletesTold (.railDeparture r readings) s ((t.raise 0x30 0 r 4).putRecord 5 r id)) ∧
      (s.railRole r = 6 → CompletesTold (.railDeparture r readings) s (t.powerLost r 1 3))) ∧
    (∀ die p b, s.powered = true → s.present die = true → (s.heat die).bias = some b →
      CompletesTold (.thermalModelTick die p) s
        ((s.modHeat die fun x => thermalStep x (realOr0 p) s.modelParam fun k => s.modelParam (k + 3)).judgeHeat die)) ∧
    (s.powered = true → s.power.grace = true → CompletesTold .flashGraceExpiry s (s.abandonFlash.thermalShutdown 5)) ∧
    (∀ diodes readings clockBad t, s.powered = true →
      t = State.setReadings (s.presentDies.foldl State.leaveRecess s) (readings.take 8) →
      ∀ u v : State, u = { t with power := { t.power with supplies := readings.drop 8 } } →
        v = u.presentDies.foldl (fun s d => s.readDiodes diodes d) u →
        CompletesTold (.housekeepingRound diodes readings 0 clockBad 0) s
          (v.readCopies clockBad).compareTimebases.injectionCheck) ∧
    (∀ die t, s.powered = true → (s.heat die).hotSince = some t → s.present die = true →
      CompletesTold (.speedRequestTimer die) s ((s.advanceTo (t + ticksPerS)).modHeat die fun x => { x with request := true })) ∧
    (∀ die t, s.powered = true → s.present die = true → (s.heat die).recess = false →
      t = (s.modHeat die fun x => { x with recess := true, recesses := wrapInc 32 x.recesses }) → t.allInRecess = false →
      Completes (.recessEntry die) s t) ∧
    (∀ die t u, s.powered = true → s.present die = true → (s.heat die).recess = false →
      t = (s.modHeat die fun x => { x with recess := true, recesses := wrapInc 32 x.recesses }) → t.allInRecess = true →
      t.trace.paused = false → u = t.traceMarker 1 0 →
      Completes (.recessEntry die) s { u with trace := { u.trace with paused := true } }) ∧
    (∀ die t, s.powered = true → (s.heat die).recess = true → t = (s.modHeat die fun x => { x with recess := false }) →
      t.trace.paused = false → Completes (.recessExit die) s t) ∧
    (∀ die t, s.powered = true → (s.heat die).recess = true → t = (s.modHeat die fun x => { x with recess := false }) →
      t.trace.paused = true →
      Completes (.recessExit die) s (State.traceMarker { t with trace := { t.trace with paused := false } } 2 0)) ∧
    (∀ t u : State, commanded s 0x4200 = true → s.tt.state = .idle ∨ s.tt.state = .stopped → s.flash.queue = [] →
      s.power.seq = .on → s.faults.fatal = false → t = s.traceMarker 3 0 →
      u = { t with power := { t.power with tail := t.traceLast 64 } } → u.faults.fatal = false →
      Completes (.standby 1) s (((u.putRecord 7 0 fun x => { x with cause := 2 }).beginShutdown 2).accept 0x4200))

/-- The four ways into the dictionary (R441 to R443, R456, Tables 15-3 and 15-4, R69). The model's choices it rests
on: log entries 17 and 18. -/
def Obligations.DictionaryPaths : Prop :=
  ∀ s : State, s.powered = true →
    (∀ ctrl index sub, leadAwake s = true → s.usdoServed ctrl = true →
      CompletesTold (.usdoRequest ctrl index sub .read) s (s.usdoRead ctrl index sub)) ∧
    (∀ ctrl index sub bs, leadAwake s = true → s.usdoServed ctrl = true →
      CompletesTold (.usdoRequest ctrl index sub (.write bs)) s (s.usdoWrite ctrl index sub bs)) ∧
    (∀ ctrl index sub bs, leadAwake s = true → s.usdoServed ctrl = true →
      CompletesTold (.usdoRequest ctrl index sub (.begin bs)) s
        { s with usdo := mapSet none s.usdo ctrl (some { index, sub, bytes := bs, lastAt := s.timebase }) }) ∧
    (∀ ctrl bytes u, leadAwake s = true → s.usdoServed ctrl = true → mapGet none s.usdo ctrl = some u →
      CompletesTold (.usdoSegment ctrl bytes false) s
        { s with usdo := mapSet none s.usdo ctrl (some { u with bytes := u.bytes ++ bytes, lastAt := s.timebase }) }) ∧
    (∀ ctrl bytes u, leadAwake s = true → s.usdoServed ctrl = true → mapGet none s.usdo ctrl = some u →
      CompletesTold (.usdoSegment ctrl bytes true) s
        (State.usdoWrite { s with usdo := mapSet none s.usdo ctrl none } ctrl u.index u.sub (u.bytes ++ bytes))) ∧
    (∀ c u t, s.usdo = [(c, some u)] → t = s.advanceTo (u.lastAt + ticksPerS) →
      Completes .usdoTimeout s
        (State.usdoAnswer { t with usdo := mapSet none t.usdo c none, resp := some .usdoTimeout } c [])) ∧
    (∀ n index sub irq vector tag, n < 2048 → leadAwake s = true → (s.mirror n).busy = false →
      CompletesTold (.mirrorRead n index sub irq vector tag) s
        ((s.modMirror n fun m => { m with vectorOn := irq, vector := vector % 2048 }).mirrorStart n
          (requestWord index sub 1 0 tag))) ∧
    (∀ n index sub len irq vector tag, n < 2048 → leadAwake s = true → (s.mirror n).busy = false →
      CompletesTold (.mirrorWrite n index sub len irq vector tag) s
        ((s.modMirror n fun m => { m with vectorOn := irq, vector := vector % 2048 }).mirrorStart n
          (requestWord index sub 2 len tag))) ∧
    (∀ index sub v, leadAwake s = true → s.nmt.booted = true →
      CompletesTold (.registerWrite (.object index sub) v) s (s.writeObject index sub v)) ∧
    (∀ offset size v, size = 4 ∨ size = 8 → offset % size = 0 → offset < 0x04000000 →
      CompletesTold (.registerWrite (.bar 0 offset size) v) s (s.bar0Write offset size (bytesNum v))) ∧
    (∀ offset size v, size = 4 ∨ size = 8 → offset % size = 0 → offset < 0x40000000 →
      CompletesTold (.registerWrite (.bar 2 offset size) v) s (s.bar2Write offset size (bytesNum v))) ∧
    (∀ offset size v, barSizeOk offset size = false → offset < 0x04000000 →
      CompletesTold (.registerWrite (.bar 0 offset size) v) s (s.unsupported 0 offset size) ∧
      CompletesTold (.registerWrite (.bar 2 offset size) v) s (s.unsupported 2 offset size)) ∧
    (∀ v,
      CompletesTold (.registerWrite .maxPayload v) s
        { s with intake := { s.intake with maxPayload := payloadOf (bytesNum v) } } ∧
      CompletesTold (.registerWrite .maxReadRequest v) s
        { s with intake := { s.intake with maxReadRequest := readRequestOf (bytesNum v) } } ∧
      CompletesTold (.registerWrite .msixControl v) s
        (State.sendPending { s with intake := { s.intake with
          msixEnable := bit (bytesNum v) 1, functionMask := bit (bytesNum v) 0 } }) ∧
      CompletesTold (.registerWrite .aerLog v) s
        { s with intake := { s.intake with aer := Nat.xor s.intake.aer (Nat.land s.intake.aer (bytesNum v)) } })

/-- NMT requests (R447 to R449): the refusals of start, the transitions made at once, and those that wait for the job.
The model's choices it rests on: log entries 21 and 22. -/
def Obligations.NmtCommands : Prop :=
  ∀ s : State, s.powered = true → s.nmt.booted = true → leadAwake s = true →
    (s.sealed.on = false → CompletesTold .nmtStart s { s with nmt := { s.nmt with refusal := 1 } }) ∧
    (s.sealed.on = true → s.faults.fatal = true → CompletesTold .nmtStart s { s with nmt := { s.nmt with refusal := 2 } }) ∧
    (s.sealed.on = true → s.faults.fatal = false → s.nmt.state ≠ .operational →
      CompletesTold .nmtStart s
        ((State.toNmt { s with
          nmt := { s.nmt with pending := .none }, can := { s.can with tpdos := [], rpdoWaiting := [] } }
            .operational).trialReached)) ∧
    (s.tt.state = .idle ∨ s.tt.state = .stopped → s.nmt.state ≠ .stopped →
      CompletesTold .nmtStop s (State.toNmt { s with nmt := { s.nmt with pending := .none } } .stopped)) ∧
    (s.tt.state ≠ .idle → s.tt.state ≠ .stopped →
      CompletesTold .nmtStop s (State.concludeJob { s with nmt := { s.nmt with pending := .stop } })) ∧
    (s.tt.state = .idle ∨ s.tt.state = .stopped → s.nmt.state ≠ .preOperational →
      CompletesTold .nmtEnterPreOperational s
        (State.toNmt { s with nmt := { s.nmt with pending := .none } } .preOperational)) ∧
    (s.tt.state ≠ .idle → s.tt.state ≠ .stopped →
      CompletesTold .nmtEnterPreOperational s (State.concludeJob { s with nmt := { s.nmt with pending := .preOperational } })) ∧
    (s.tt.state = .idle ∨ s.tt.state = .stopped →
      CompletesTold .nmtResetNode s (State.resetNode { s with nmt := { s.nmt with pending := .none } })) ∧
    (s.tt.state ≠ .idle → s.tt.state ≠ .stopped →
      CompletesTold .nmtResetNode s (State.concludeJob { s with nmt := { s.nmt with pending := .resetNode } })) ∧
    (CompletesTold .nmtResetCommunication s s.resetCommunication) ∧
    (s.nmt.pending ≠ .none → s.tt.state = .idle → CompletesTold .nmtDeferredTransition s (s.makeNmt s.nmt.pending)) ∧
    (s.straps.porLow = false → s.tt.state = .idle ∨ s.tt.state = .stopped →
      Completes .rstn s (State.resetNode { s with nmt := { s.nmt with pending := .none } }))

/-- CAN errors and heartbeats (R450, R462, R471). The model's choices it rests on: log entries 7 and 20. -/
def Obligations.CanEvents : Prop :=
  ∀ s : State, s.powered = true →
    (∀ ctrl, s.canRuns ctrl = true → s.canState ctrl ≠ .busOff → ctrl ≠ 0 →
      CompletesTold (.canBusOff ctrl) s ((s.setCan ctrl .busOff).raise 0x33 0 ctrl 2)) ∧
    (s.canRuns 0 = true → s.canState 0 ≠ .busOff →
      CompletesTold (.canBusOff 0) s ((s.setCan 0 .busOff).raise 0x33 0 0 2).communicationError) ∧
    (∀ ctrl, s.canRuns ctrl = true → s.canState ctrl = .active →
      Completes (.canErrorPassive ctrl) s ((s.setCan ctrl .passive).raise 0x33 0 ctrl 1)) ∧
    (∀ k x t u, mapGet {} s.can.consumers k = x → x.lastHeard = some t → s.nmt.booted = true → 1 ≤ k → k ≤ 8 →
      s.cfg 0x1016 k % 65536 ≠ 0 → x.timedOut = false → u = s.advanceTo (t + s.cfg 0x1016 k % 65536 * ticksPerMs) →
      CompletesTold (.heartbeatTimeout k) s
        ((State.raise { u with can := { u.can with consumers := mapSet {} u.can.consumers k { x with timedOut := true } } }
          0x33 0 0 4).communicationError)) ∧
    (∀ t, t = s.drainEmcy 33 → t.nmt.booted = true → t.cfg 0x1017 0 ≠ 0 →
      Completes .heartbeatSend s (t.sendHeartbeat t.nmt.state.code)) ∧
    (∀ node, leadAwake s = true → s.nmt.booted = true → s.can.ctrl0 ≠ .busOff →
      Completes (.heartbeatReceived node) s
        (((upTo 8).filter fun k =>
            decide (bits (s.cfg 0x1016 (k + 1)) 23 16 = node) && decide (s.cfg 0x1016 (k + 1) % 65536 ≠ 0)).foldl
          (fun s k => { s with can := { s.can with
            consumers := mapSet {} s.can.consumers (k + 1) { lastHeard := some s.timebase } } }) s)) ∧
    (∀ ctrl, s.canRuns ctrl = true → s.canState ctrl ≠ .active →
      Completes (.busOffRecovery ctrl) s ((s.setCan ctrl .active).drainEmcy 33))

/-- PDOs, SYNC, TIME, the error list and the trace (R458, R459, R461, R463, R464, R466 to R470). The model's choices
it rests on: log entries 7 and 19. -/
def Obligations.PdoAndTraceCommands : Prop :=
  ∀ s : State,
    (∀ k bytes l, s.powered = true → leadAwake s = true → s.rpdoOn k = true → splitPdo (s.mapping (0x1600 + k)) bytes = some l →
      s.cfg (0x1400 + k) 2 ≤ 240 →
      CompletesTold (.rpdo k bytes) s { s with can := { s.can with rpdoWaiting := mapSet [] s.can.rpdoWaiting k bytes } }) ∧
    (∀ k bytes l, s.powered = true → leadAwake s = true → s.rpdoOn k = true → splitPdo (s.mapping (0x1600 + k)) bytes = some l →
      240 < s.cfg (0x1400 + k) 2 → CompletesTold (.rpdo k bytes) s (s.applyRpdo k bytes)) ∧
    (∀ k t, s.powered = true → s.tpdoOn k = true → 254 ≤ s.cfg (0x1800 + k) 2 → s.tpdoBytes k ≠ (s.tpdo k).lastValue →
      (s.tpdo k).lastSent = some t →
      Completes (.tpdoTransmit k) s
        ((s.advanceTo (t + s.cfg (0x1800 + k) 3 * 100 * ticksPerUs)).sendTpdo k)) ∧
    (∀ k t, s.powered = true → s.tpdoOn k = true → 254 ≤ s.cfg (0x1800 + k) 2 → s.tpdoBytes k = (s.tpdo k).lastValue →
      (s.tpdo k).lastSent = some t → s.cfg (0x1800 + k) 5 * ticksPerMs ≠ 0 →
      Completes (.tpdoTransmit k) s ((s.advanceTo (t + s.cfg (0x1800 + k) 5 * ticksPerMs)).sendTpdo k)) ∧
    (∀ counter, s.powered = true → leadAwake s = true → s.consumes = true → s.nmt.state ≠ .operational →
      CompletesTold (.syncMessage counter) s { s with can := { s.can with syncCounter := counter } }) ∧
    (∀ counter t, s.powered = true → leadAwake s = true → s.consumes = true → s.nmt.state = .operational →
      t = (upTo 64).foldl (fun s k => s.syncTpdo counter k) { s with can := { s.can with syncCounter := counter } } →
      CompletesTold (.syncMessage counter) s
        (t.can.rpdoWaiting.foldl (fun s kv => if s.rpdoOn kv.1 then s.applyRpdo kv.1 kv.2 else s)
          { t with can := { t.can with rpdoWaiting := [] } })) ∧
    (∀ value t u, s.powered = true → leadAwake s = true → s.consumes = true → bit (s.cfg 0x1012 0) 31 = true → u = s.advanceTo t →
      Completes (.timeMessage value t) s
        { u with can := { u.can with timeValue := value % 2 ^ 48, timeStamp := t } }) ∧
    (commanded s 0x1003 = true →
      Completes (.errorListClear 0) s (State.accept { s with can := { s.can with errors := [] } } 0x1003)) ∧
    (s.powered = true → s.nmt.booted = true → leadAwake s = true → s.served 0x4402 = true →
      Completes .traceRead s
        { s with
          trace := { s.trace with readPos := s.traceTake.2 }
          answer := s.traceTake.1.flatMap (numBytes 4), resp := none }) ∧
    (commanded s 0x4400 = true →
      Completes (.traceEnableWrite 0) s (State.accept { s with trace := { s.trace with on := false } } 0x4400)) ∧
    (commanded s 0x4400 = true →
      Completes (.traceEnableWrite 1) s
        ((((State.undetain { s with trace := { s.trace with detained := false } } 0x34 0 0).traceTo true).errorReset).accept
          0x4400))

/-- Commands of the flash manager (R474, R475, R477, R483, R486, R488): each joins the queue; a piece already held is
compared. The model's choices it rests on: log entries 30 and 31. -/
def Obligations.FlashCommands : Prop :=
  ∀ s : State, s.flashTakes = true →
    (commanded s 0x4300 = true → s.flash.erasing = false →
      Completes .hostAreaRead s
        (State.accept { s with flash := { s.flash with
          queue := s.flash.queue ++ [{ op := .read (s.cfg 0x4300 4), asker := s.flash.asker }] } } 0x4300)) ∧
    (commanded s 0x4300 = true → s.flash.erasing = true →
      Completes .hostAreaRead s
        (State.accept { s with flash := { s.flash with
          queue := s.flash.leadingReads ++ { op := .read (s.cfg 0x4300 4), asker := s.flash.asker } :: s.flash.afterReads
          suspended := true } } 0x4300)) ∧
    (commanded s 0x4300 = true →
      Completes .hostAreaProgram s
        (State.accept { s with flash := { s.flash with
          queue := s.flash.queue ++
            [{ op := .program (s.cfg 0x4300 4) (s.domain 0x4300 6), asker := s.flash.asker }] } } 0x4300)) ∧
    (commanded s 0x4300 = true →
      Completes .hostAreaErase s
        (State.accept { s with flash := { s.flash with
          queue := s.flash.queue ++ [{ op := .erase (s.cfg 0x4300 4), asker := s.flash.asker }] } } 0x4300)) ∧
    (∀ index, commanded s 0x4310 = true → s.flash.recovery = false → index = 0xFFFF ∨ indexListed index = true ∧ s.objPresent index 0 true = true →
      Completes (.storeSettings index) s
        (State.accept { s with flash := { s.flash with
          queue := s.flash.queue ++ [{ op := .store (s.storable index), asker := s.flash.asker }] } } 0x4310)) ∧
    (commanded s 0x4310 = true →
      Completes (.restoreDefaults 1) s
        (State.accept { s with flash := { s.flash with
          queue := s.flash.queue ++ [{ op := .restore, asker := s.flash.asker }] } } 0x4310)) ∧
    (commanded s 0x4330 = true → s.flash.slotIn .trial = none →
      Completes .transferBegin s
        (State.accept { s with flash := { s.flash with
          queue := s.flash.queue ++ [{ op := .begin (s.cfg 0x4330 2), asker := s.flash.asker }] } } 0x4330)) ∧
    (commanded s 0x4330 = true →
      Completes .transferCancel s
        (State.accept { s with flash := { s.flash with
          queue := s.flash.queue ++ [{ op := .cancel, asker := s.flash.asker }] } } 0x4330)) ∧
    (commanded s 0x4330 = true → s.flash.queue ≠ [] ∨ s.flash.complete = true →
      Completes .transferVerify s
        (State.accept { s with flash := { s.flash with
          queue := s.flash.queue ++ [{ op := .verify, asker := s.flash.asker }] } } 0x4330)) ∧
    (commanded s 0x4330 = true → s.flash.queue = [] → s.flash.complete = false →
      Completes .transferVerify s (s.refuse .imageIncomplete)) ∧
    (∀ bytes n, commanded s 0x4330 = true → bytes.length = 4100 → n = bytesNum (bytes.take 4) → n < 2048 →
      s.flash.queue ≠ [] ∨ s.flash.pieceRefused n (bytes.drop 4) = none ∧ s.flash.received n = false →
      Completes (.piece bytes) s
        (State.accept { s with flash := { s.flash with
          queue := s.flash.queue ++ [{ op := .piece n (bytes.drop 4), asker := s.flash.asker }] } } 0x4330)) ∧
    (∀ bytes n, commanded s 0x4330 = true → bytes.length = 4100 → n = bytesNum (bytes.take 4) → n < 2048 →
      s.flash.queue = [] → s.flash.pieceRefused n (bytes.drop 4) = none → s.flash.received n = true →
      Completes (.piece bytes) s (s.accept 0x4330)) ∧
    (∀ bytes n a, commanded s 0x4330 = true → bytes.length = 4100 → n = bytesNum (bytes.take 4) → n < 2048 →
      s.flash.queue = [] → s.flash.pieceRefused n (bytes.drop 4) = some a →
      Completes (.piece bytes) s (s.refuse a)) ∧
    (commanded s 0x4320 = true → s.flash.reached = true → s.flash.runningTrial ≠ none →
      Completes .confirm s
        (State.accept { s with flash := { s.flash with
          queue := s.flash.queue ++ [{ op := .confirm, asker := s.flash.asker }] } } 0x4320)) ∧
    (commanded s 0x4320 = true → s.flash.reached = false ∨ s.flash.runningTrial = none →
      Completes .confirm s (s.refuse .state)) ∧
    (commanded s 0x4320 = true → s.flash.slotIn .trial ≠ none →
      Completes .revert s
        (State.accept { s with flash := { s.flash with
          queue := s.flash.queue ++ [{ op := .revert, asker := s.flash.asker }] } } 0x4320)) ∧
    (commanded s 0x4320 = true → s.flash.slotIn .trial = none → Completes .revert s (s.refuse .state))

/-- The end of a device operation of the flash manager, and what the operations at its head are made of (R474 to R477,
R479, R486, R491): a device operation that the device takes acts on the flash, one that it refuses does nothing, one
that fails leaves its target torn and is logged; after the last the queue moves on and who asked is answered. The
model's choices it rests on: log entries 30, 31 and 32. -/
def Obligations.FlashAndFirmware : Prop :=
  ∀ s : State,
    (∀ ok j rest a t, s.powered = true → s.flash.queue = j :: rest → s.flash.stepsOf j = .error a →
      t = s.endFlashJob j rest (some a) → t.power.grace = false →
      Completes (.flashOperationComplete ok) s
        { t with flash := { t.flash with suspended := t.flash.suspended && !t.flash.leadingReads.isEmpty } }) ∧
    (∀ ok j rest t, s.powered = true → s.flash.queue = j :: rest → s.flash.stepsOf j = .ok [] →
      t = s.endFlashJob j rest none → t.power.grace = false →
      Completes (.flashOperationComplete ok) s
        { t with flash := { t.flash with suspended := t.flash.suspended && !t.flash.leadingReads.isEmpty } }) ∧
    (∀ j rest x more st t u, s.powered = true → s.flash.queue = j :: rest → s.flash.stepsOf j = .ok (x :: more) →
      st = s.flash.stepStatus x → st ≠ 0 → t = s.setFlashStatus st → u = t.afterStep j rest more → u.power.grace = false →
      Completes (.flashOperationComplete true) s
        { u with flash := { u.flash with suspended := u.flash.suspended && !u.flash.leadingReads.isEmpty } }) ∧
    (∀ j rest a more t u, s.powered = true → s.flash.queue = j :: rest → s.flash.stepsOf j = .ok (.read a :: more) →
      s.flash.stepStatus (.read a) = 0 → t = (s.hostRead a).setFlashStatus 0 → u = t.afterStep j rest more →
      u.power.grace = false →
      Completes (.flashOperationComplete true) s
        { u with flash := { u.flash with suspended := u.flash.suspended && !u.flash.leadingReads.isEmpty } }) ∧
    (∀ j rest x more t u, s.powered = true → s.flash.queue = j :: rest → s.flash.stepsOf j = .ok (x :: more) →
      (∀ a, x ≠ .read a) → s.flash.stepStatus x = 0 → t = State.setFlashStatus { s with flash := s.flash.apply x } 0 →
      u = t.afterStep j rest more → u.power.grace = false →
      Completes (.flashOperationComplete true) s
        { u with flash := { u.flash with suspended := u.flash.suspended && !u.flash.leadingReads.isEmpty } }) ∧
    (∀ j rest x more t u, s.powered = true → s.flash.queue = j :: rest → s.flash.stepsOf j = .ok (x :: more) →
      t = ((s.tearStep x).setFlashStatus 5).raise 0x32 0 0 2 → u = t.afterStep j rest more → u.power.grace = false →
      Completes (.flashOperationComplete false) s
        { u with flash := { u.flash with suspended := u.flash.suspended && !u.flash.leadingReads.isEmpty } }) ∧
    (∀ ok j rest x more t u v, s.powered = true → s.flash.queue = j :: rest → s.flash.stepsOf j = .ok (x :: more) →
      t = (if ok then s.finishStep x else s.failStep x) → u = t.afterStep j rest more →
      v = { u with flash := { u.flash with suspended := u.flash.suspended && !u.flash.leadingReads.isEmpty } } →
      v.power.grace = true → Completes (.flashOperationComplete ok) s (v.dropFlash.thermalShutdown 5)) ∧
    (∀ k j b p, s.flash.runningTrial = some k → s.flash.slotIn .confirmed = some j →
      b = (s.flash.boot.setSlot j .previous).setSlot k .confirmed →
      FlashPlan.putBoot { flash := s.flash } b = some p →
      s.flash.plan .confirm =
        .ok (p.supersede (p.flash.records fun r => decide (r.cls = 1) && decide (r.format ≠ s.flash.format))).steps) ∧
    (∀ k b p, s.flash.runningTrial = some k → s.flash.slotIn .confirmed = none →
      b = s.flash.boot.setSlot k .confirmed → FlashPlan.putBoot { flash := s.flash } b = some p →
      s.flash.plan .confirm =
        .ok (p.supersede (p.flash.records fun r => decide (r.cls = 1) && decide (r.format ≠ s.flash.format))).steps) ∧
    (∀ k p, s.flash.slotIn .trial = some k →
      FlashPlan.putBoot { flash := s.flash } (s.flash.boot.setSlot k .failed) = some p →
      s.flash.plan .revert = .ok p.steps)

/-- Boot, the reset balls and straps, the pads and the test port (R445, R490, R493, R504 to R508, R513). The model's
choices it rests on: log entries 5, 23, 33 and 48. -/
def Obligations.BootAndBalls : Prop :=
  ∀ s : State,
    (∀ t u v : State, s.powered = true → s.nmt.booted = false →
      t = (State.trainChannels { s with nmt := { s.nmt with
        booted := true, state := .preOperational, pending := .none } }).bootImage →
      u = t.storedValues (fun _ => true) →
      v = (State.takeNode (State.settleStart { u with store := { u.store with rate := u.cfg 0x2300 3 } })).bootUp →
      Completes .boot s
        ((v.power.startCodes.foldl State.raiseStart
          { v with power := { v.power with startCodes := [] } }).readFuses.mirrorsWaiting)) ∧
    (∀ legacy boot0 boot1, s.straps.porLow = true →
      Completes (.porn true legacy boot0 boot1) s { s with straps := { legacy, boot0, boot1, porLow := false } }) ∧
    (∀ legacy boot0 boot1 t, s.straps.porLow = false → s.power.seq = .on ∨ s.power.seq = .shutDown →
      t = (s.lose true).recover true →
      Completes (.porn false legacy boot0 boot1) s
        { t with power := { t.power with resetCause := 1 }, straps := { t.straps with porLow := true } }) ∧
    (∀ levels, s.straps.porLow = false → s.nmt.booted = false →
      Completes (.strapSample levels) s { s with nmt := { s.nmt with straps := levels % 128 } }) ∧
    (∀ n v, commanded s (0x5000 + n) = true → n < 192 → s.present (n / 24) = true → s.preop = true → mfioWordOk v = true →
      (∀ d, mfioDie v = some d → d = n / 24) → s.mfioTaken n v = false → s.mfioUnitOff (s.mfioWord n) = true →
      s.mfioUnitOff v = true → bits v 31 24 ≠ 13 →
      Completes (.mfioFunctionWrite n 1 v) s ((s.setCfg (0x5000 + n) 1 v).accept (0x5000 + n))) ∧
    (∀ n v, commanded s (0x5000 + n) = true → n < 192 → s.present (n / 24) = true → s.preop = true → v < 256 →
      bit v 0 = false → bits v 6 5 ≠ 3 → s.mfioUnitOff (s.mfioWord n) = true →
      Completes (.mfioFunctionWrite n 2 v) s ((s.setCfg (0x5000 + n) 2 v).accept (0x5000 + n))) ∧
    (∀ tms tdi t, s.power.seq ≠ .standby → t = { s with jtag := (s.tapAct tdi).enter (s.jtag.tap.next tms) } →
      t.tdoBit = none → Completes (.tckEdge tms tdi) s t) ∧
    (∀ tms tdi t b, s.power.seq ≠ .standby → t = { s with jtag := (s.tapAct tdi).enter (s.jtag.tap.next tms) } →
      t.tdoBit = some b → Completes (.tckEdge tms tdi) s { t.emit .tdo 0 [b] with freeCount := t.freeCount + 1 })

/-- A write of a command object and a received frame end the recess of the pair that serves them, the lead die's,
before anything else: the command leaves what it leaves of the state in which that pair is out of recess (R434). The
model's choices it rests on: log entry 28. -/
def Obligations.AccessEndsRecess : Prop :=
  ∀ (s : State) (c : Instr), s.powered = true → (writtenObject c).isSome = true ∨ receivedFrame c = true →
    exec c s = exec c s.awake ∧ leadAwake s.awake = true ∧
      (leadAwake s = true → s.awake = s) ∧
      (leadAwake s = false → ∀ d, d ≠ s.dies.lead → (s.awake.heat d).recess = (s.heat d).recess)
end

