-- ==== Sys2Proof/Laws/Map.lean ====
section
/-! SUPPORT. The laws of the sparse tables: reading back what was written, leaving every other key alone, and keeping the
one canonical form. -/

namespace Sys2Proof.Laws

open Sys2Proof Sys2Proof.Machine

variable {α : Type}

theorem mapAbove_mono {k j : Nat} (h : j ≤ k) : ∀ m : Map α, mapAbove k m = true → mapAbove j m = true
  | [], _ => rfl
  | (i, _) :: rest, hm => by
    simp only [mapAbove, Bool.and_eq_true, decide_eq_true_eq] at hm ⊢
    exact ⟨by omega, mapAbove_mono h rest hm.2⟩

/-- A key at or below the bound of a table is not listed in it. -/
theorem mapGet_above (d : α) {k q : Nat} (h : q ≤ k) : ∀ m : Map α, mapAbove k m = true → mapGet d m q = d
  | [], _ => rfl
  | (i, v) :: rest, hm => by
    simp only [mapAbove, Bool.and_eq_true, decide_eq_true_eq] at hm
    simp only [mapGet, if_neg (show ¬ i = q by omega), if_pos (show q < i by omega)]

variable [DecidableEq α]

theorem mapAbove_mapSet (d : α) {k q : Nat} (h : k < q) (v : α) :
    ∀ m : Map α, mapAbove k m = true → mapAbove k (mapSet d m q v) = true
  | [], _ => by by_cases hv : v = d <;> simp [mapSet, hv, mapAbove, h]
  | (i, w) :: rest, hm => by
    simp only [mapAbove, Bool.and_eq_true, decide_eq_true_eq] at hm
    have ih := mapAbove_mapSet d h v rest hm.2
    by_cases h1 : q < i
    · by_cases hv : v = d <;> simp [mapSet, h1, hv, mapAbove, hm, h]
    · by_cases h2 : q = i
      · subst h2
        by_cases hv : v = d <;> simp [mapSet, hv, mapAbove, hm]
      · simp [mapSet, h1, h2, mapAbove, hm.1, ih]

/-- Writing keeps the canonical form. -/
theorem mapWf_mapSet (d : α) (q : Nat) (v : α) : ∀ m : Map α, mapWf d m = true → mapWf d (mapSet d m q v) = true
  | [], _ => by by_cases hv : v = d <;> simp [mapSet, hv, mapWf, mapAbove]
  | (i, w) :: rest, hm => by
    simp only [mapWf, Bool.and_eq_true, decide_eq_true_eq] at hm
    obtain ⟨⟨hw, ha⟩, hr⟩ := hm
    by_cases h1 : q < i
    · have hq : mapAbove q rest = true := mapAbove_mono (by omega) rest ha
      by_cases hv : v = d <;> simp [mapSet, h1, hv, mapWf, mapAbove, hw, ha, hr, hq]
    · by_cases h2 : q = i
      · subst h2
        by_cases hv : v = d <;> simp [mapSet, hv, mapWf, ha, hr]
      · have hab := mapAbove_mapSet d (show i < q by omega) v rest ha
        simp [mapSet, h1, h2, mapWf, hw, hab, mapWf_mapSet d q v rest hr]

theorem mapWf_mapMod (d : α) (q : Nat) (f : α → α) (m : Map α) (h : mapWf d m = true) : mapWf d (mapMod d m q f) = true :=
  mapWf_mapSet d q _ m h

/-- What was written is read back. -/
theorem mapGet_mapSet_same (d : α) (q : Nat) (v : α) : ∀ m : Map α, mapWf d m = true → mapGet d (mapSet d m q v) q = v
  | [], _ => by by_cases hv : v = d <;> simp [mapSet, hv, mapGet]
  | (i, w) :: rest, hm => by
    simp only [mapWf, Bool.and_eq_true, decide_eq_true_eq] at hm
    obtain ⟨⟨hw, ha⟩, hr⟩ := hm
    by_cases h1 : q < i
    · by_cases hv : v = d
      · simp [mapSet, h1, hv, mapGet, show ¬ i = q by omega]
      · simp [mapSet, h1, hv, mapGet]
    · by_cases h2 : q = i
      · subst h2
        by_cases hv : v = d
        · simp [mapSet, hv, mapGet_above d (Nat.le_refl _) rest ha]
        · simp [mapSet, hv, mapGet]
      · simp only [mapSet, if_neg h1, if_neg h2, mapGet, if_neg (show ¬ i = q from fun e => h2 e.symm)]
        exact mapGet_mapSet_same d q v rest hr

/-- Every other key reads as before. -/
theorem mapGet_mapSet_other (d : α) {p q : Nat} (hp : p ≠ q) (v : α) :
    ∀ m : Map α, mapWf d m = true → mapGet d (mapSet d m q v) p = mapGet d m p
  | [], _ => by
    by_cases hv : v = d
    · simp [mapSet, hv, mapGet]
    · simp [mapSet, hv, mapGet, Ne.symm hp]
  | (i, w) :: rest, hm => by
    simp only [mapWf, Bool.and_eq_true, decide_eq_true_eq] at hm
    obtain ⟨⟨hw, ha⟩, hr⟩ := hm
    by_cases h1 : q < i
    · by_cases hv : v = d
      · simp [mapSet, h1, hv]
      · by_cases h3 : p < q
        · simp [mapSet, h1, hv, mapGet, Ne.symm hp, h3, show ¬ i = p by omega, show p < i by omega]
        · simp [mapSet, h1, hv, mapGet, Ne.symm hp, h3]
    · by_cases h2 : q = i
      · subst h2
        by_cases hv : v = d
        · by_cases h3 : p < q
          · simp [mapSet, hv, mapGet, Ne.symm hp, h3, mapGet_above d (show p ≤ q by omega) rest ha]
          · simp [mapSet, hv, mapGet, Ne.symm hp, h3]
        · simp [mapSet, hv, mapGet, Ne.symm hp]
      · simp only [mapSet, if_neg h1, if_neg h2, mapGet]
        rw [mapGet_mapSet_other d hp v rest hr]

end Sys2Proof.Laws
end

