-- ==== Sys2Proof/Laws/Flash.lean ====
section
/-! SUPPORT. The bytes of the flash device: a write keeps their canonical form, reads back, and leaves every other byte (R475). -/

namespace Sys2Proof.Laws

open Sys2Proof Sys2Proof.Machine

variable {α : Type}

theorem mapAbove_iff (k : Nat) (m : Map α) : mapAbove k m = true ↔ ∀ kv ∈ m, k < kv.1 := by
  induction m with
  | nil => simp [mapAbove]
  | cons kv rest ih => obtain ⟨j, v⟩ := kv; simp [mapAbove, ih]

/-- The canonical form: keys strictly rising, no entry equal to the default. -/
theorem mapWf_iff [DecidableEq α] (d : α) (m : Map α) :
    mapWf d m = true ↔ m.Pairwise (fun x y => x.1 < y.1) ∧ ∀ kv ∈ m, kv.2 ≠ d := by
  induction m with
  | nil => simp [mapWf]
  | cons kv rest ih =>
    obtain ⟨j, v⟩ := kv
    simp only [mapWf, Bool.and_eq_true, decide_eq_true_eq, mapAbove_iff, ih, List.pairwise_cons, List.mem_cons,
      forall_eq_or_imp]
    exact ⟨fun h => ⟨⟨h.1.2, h.2.1⟩, h.1.1, h.2.2⟩, fun h => ⟨⟨h.2.1, h.1.1⟩, h.1.2, h.2.2⟩⟩

theorem mapGet_none (d : α) {m : Map α} {q : Nat} (h : ∀ kv ∈ m, kv.1 ≠ q) : mapGet d m q = d := by
  induction m with
  | nil => rfl
  | cons kv rest ih =>
    obtain ⟨j, v⟩ := kv
    simp only [List.mem_cons, forall_eq_or_imp] at h
    simp [mapGet, h.1, ih h.2]

theorem mapGet_mem (d : α) {m : Map α} (hs : m.Pairwise fun x y => x.1 < y.1) {q : Nat} {v : α} (h : (q, v) ∈ m) :
    mapGet d m q = v := by
  induction m with
  | nil => simp at h
  | cons kv rest ih =>
    obtain ⟨j, w⟩ := kv
    rw [List.pairwise_cons] at hs
    rcases List.mem_cons.mp h with h | h
    · cases h; simp [mapGet]
    · have := hs.1 _ h
      simp only at this
      simp only [mapGet]
      rw [if_neg (by omega), if_neg (by omega), ih hs.2 h]

theorem cellsOf_range (a : Nat) (bs : List Nat) : ∀ kv ∈ cellsOf a bs, a ≤ kv.1 ∧ kv.1 < a + bs.length := by
  induction bs generalizing a with
  | nil => simp [cellsOf]
  | cons b bs ih =>
    intro kv h
    simp only [cellsOf] at h
    split at h
    · have := ih (a + 1) kv h
      simp only [List.length_cons]; omega
    · rcases List.mem_cons.mp h with h | h
      · subst h; simp
      · have := ih (a + 1) kv h
        simp only [List.length_cons]; omega

theorem cellsOf_wf (a : Nat) (bs : List Nat) : mapWf 0 (cellsOf a bs) = true := by
  induction bs generalizing a with
  | nil => rfl
  | cons b bs ih =>
    simp only [cellsOf]
    split
    · exact ih _
    · rename_i hx
      simp only [mapWf, hx, ih, ne_eq, not_false_eq_true, decide_true, Bool.and_true, Bool.true_and]
      rw [mapAbove_iff]
      intro kv h
      have := cellsOf_range (a + 1) bs kv h
      omega

theorem mapGet_cellsOf (a : Nat) (bs : List Nat) (k : Nat) (h : k < bs.length) :
    mapGet 0 (cellsOf a bs) (a + k) = Nat.xor (bs[k] % 256) (deliveredByte (a + k)) := by
  induction bs generalizing a k with
  | nil => simp at h
  | cons b bs ih =>
    cases k with
    | zero =>
      simp only [cellsOf, Nat.add_zero, List.getElem_cons_zero]
      split
      · rename_i hx
        rw [hx]
        exact mapGet_none 0 fun kv hkv => by have := cellsOf_range (a + 1) bs kv hkv; omega
      · simp [mapGet]
    | succ k =>
      have hk : k < bs.length := by simpa using h
      have := ih (a + 1) k hk
      rw [show a + 1 + k = a + (k + 1) by omega] at this
      simp only [cellsOf, List.getElem_cons_succ]
      split
      · exact this
      · simp only [mapGet]
        rw [if_neg (by omega), if_neg (by omega), this]

theorem write_sorted {f : Flash} (h : mapWf 0 f.cells = true) (a : Nat) (bs : List Nat) :
    mapWf 0 (f.write a bs).cells = true := by
  rw [mapWf_iff] at h
  have hc := (mapWf_iff 0 _).mp (cellsOf_wf a bs)
  rw [mapWf_iff, Flash.write]
  refine ⟨?_, ?_⟩
  · rw [List.pairwise_append, List.pairwise_append]
    refine ⟨⟨h.1.filter _, hc.1, ?_⟩, h.1.filter _, ?_⟩
    · intro x hx y hy
      have := cellsOf_range a bs y hy
      simp only [List.mem_filter, decide_eq_true_eq] at hx
      omega
    · intro x hx y hy
      simp only [List.mem_filter, decide_eq_true_eq] at hy
      rcases List.mem_append.mp hx with hx | hx
      · simp only [List.mem_filter, decide_eq_true_eq] at hx
        omega
      · have := cellsOf_range a bs x hx
        omega
  · intro kv hkv
    simp only [List.mem_append, List.mem_filter] at hkv
    rcases hkv with (hkv | hkv) | hkv
    · exact h.2 kv hkv.1
    · exact hc.2 kv hkv
    · exact h.2 kv hkv.1

/-- What an entry reads after a write: the bytes written where they stand, what stood before elsewhere. -/
theorem mapGet_write {f : Flash} (h : mapWf 0 f.cells = true) (a : Nat) (bs : List Nat) (q : Nat) :
    mapGet 0 (f.write a bs).cells q = if q < a ∨ a + bs.length ≤ q then mapGet 0 f.cells q else mapGet 0 (cellsOf a bs) q := by
  have hw := ((mapWf_iff 0 _).mp (write_sorted h a bs)).1
  have hf := ((mapWf_iff 0 _).mp h).1
  have hc := ((mapWf_iff 0 _).mp (cellsOf_wf a bs)).1
  have mem : ∀ kv, kv ∈ (f.write a bs).cells ↔
      (kv ∈ f.cells ∧ kv.1 < a ∨ kv ∈ cellsOf a bs) ∨ kv ∈ f.cells ∧ a + bs.length ≤ kv.1 := by
    intro kv; simp [Flash.write, or_assoc]
  split
  · rename_i hq
    by_cases hx : ∃ v, (q, v) ∈ f.cells
    · obtain ⟨v, hv⟩ := hx
      rw [mapGet_mem 0 hf hv]
      refine mapGet_mem 0 hw ((mem _).mpr ?_)
      rcases hq with hq | hq
      · exact .inl (.inl ⟨hv, hq⟩)
      · exact .inr ⟨hv, hq⟩
    · rw [mapGet_none 0 (m := f.cells) fun kv hkv he => hx ⟨kv.2, by rw [← he]; exact hkv⟩]
      refine mapGet_none 0 fun kv hkv he => ?_
      rcases (mem _).mp hkv with (h1 | h1) | h1
      · exact hx ⟨kv.2, by rw [← he]; exact h1.1⟩
      · have := cellsOf_range a bs kv h1
        omega
      · exact hx ⟨kv.2, by rw [← he]; exact h1.1⟩
  · rename_i hq
    by_cases hx : ∃ v, (q, v) ∈ cellsOf a bs
    · obtain ⟨v, hv⟩ := hx
      rw [mapGet_mem 0 hc hv]
      exact mapGet_mem 0 hw ((mem _).mpr (.inl (.inr hv)))
    · rw [mapGet_none 0 (m := cellsOf a bs) fun kv hkv he => hx ⟨kv.2, by rw [← he]; exact hkv⟩]
      refine mapGet_none 0 fun kv hkv he => ?_
      rcases (mem _).mp hkv with (h1 | h1) | h1
      · omega
      · exact hx ⟨kv.2, by rw [← he]; exact h1⟩
      · omega

/-- A byte that a write does not reach stays. -/
theorem byte_write_other {f : Flash} (h : mapWf 0 f.cells = true) {a q : Nat} {bs : List Nat} (hq : q < a ∨ a + bs.length ≤ q) :
    (f.write a bs).byte q = f.byte q := by
  rw [Flash.byte, mapGet_write h, if_pos hq, Flash.byte]

/-- A byte that was written reads back. -/
theorem byte_write {f : Flash} (h : mapWf 0 f.cells = true) (a : Nat) (bs : List Nat) (k : Nat) (hk : k < bs.length) :
    (f.write a bs).byte (a + k) = bs[k] % 256 := by
  rw [Flash.byte, mapGet_write h, if_neg (by omega), mapGet_cellsOf a bs k hk]
  show ((bs[k] % 256) ^^^ deliveredByte (a + k)) ^^^ deliveredByte (a + k) = _
  rw [Nat.xor_assoc, Nat.xor_self, Nat.xor_zero]

/-- Every device operation keeps the canonical form. -/
theorem apply_sorted {f : Flash} (h : mapWf 0 f.cells = true) (x : FlashStep) : mapWf 0 (f.apply x).cells = true := by
  cases x with
  | read _ => exact h
  | scan => exact h
  | program a bs => exact write_sorted h a bs
  | mark a st => exact write_sorted h a [st]
  | erase a n => exact write_sorted h a _

theorem reset_flash : mapWf 0 State.reset.flash.cells = true := rfl

end Sys2Proof.Laws
end

