-- ==== Sys2Proof/Laws/Gate.lean ====
section
/-! SUPPORT. What every command shares, said once: a command that runs answers a next state with the queue's rest and the
variant as they were, and a dictionary command that is taken leaves what its own rules give, accepted. -/

namespace Sys2Proof.Laws

open Sys2Proof Sys2Proof.Machine

variable {s t : State} {c : Instr} {f : State → State} {index : Nat} {op : State → Except Abort State} {a : Abort}

@[simp] theorem finish_pending (s t : State) : (finish s t).pending = s.pending := rfl

@[simp] theorem finish_variant (s t : State) : (finish s t).variant = s.variant := rfl

@[simp] theorem finish_timebase (s t : State) : (finish s t).timebase = t.timebase % 2 ^ 64 := rfl

@[simp] theorem finish_resp (s t : State) : (finish s t).resp = t.resp := rfl

/-- Where the count is a 64-bit one already, `finish` changes nothing of a state with the same queue and variant. -/
theorem finish_eq (hp : t.pending = s.pending) (hv : t.variant = s.variant) (ht : t.timebase < 2 ^ 64) : finish s t = t := by
  cases t
  simp_all [finish, Nat.mod_eq_of_lt]

theorem live_on (h : s.powered = true) (f : State → State) : live s f = .next (finish s (f s)) := by
  simp [live, always, h]

theorem live_off (h : s.powered = false) (f : State → State) : live s f = .next (finish s s) := by
  simp [live, always, h]

theorem liveGroup_on (h : s.powered = true) (f : State → State) : liveGroup s f = .next (finish s (f s).settleGroup) := by
  simp [liveGroup, live, always, h]

/-- What an answered command keeps: the queue, the variant, and a 64-bit timebase. -/
theorem always_keeps (s : State) (f : State → State) :
    ∃ t, always s f = .next t ∧ t.pending = s.pending ∧ t.variant = s.variant ∧ t.timebase < 2 ^ 64 :=
  ⟨finish s (f s), rfl, rfl, rfl, Nat.mod_lt _ (by decide)⟩

/-- Out of recess there is nothing to end. -/
@[simp] theorem awake_of_leadAwake (h : leadAwake s = true) : s.awake = s := by
  simp only [leadAwake, State.heat, Bool.not_eq_true'] at h
  simp [State.awake, State.leaveRecess, h]

theorem commanded_awake (hc : commanded s index = true) : s.awake = s := by
  simp only [commanded, Bool.and_eq_true] at hc
  exact awake_of_leadAwake hc.2

/-- A command of the dictionary that its rules accept. -/
theorem command_ok (hc : commanded s index = true) (ho : op s = .ok t) : command index op s = t.accept index := by
  simp only [commanded, Bool.and_eq_true, decide_eq_true_eq] at hc
  simp [command, hc, ho]

/-- A command of the dictionary that its rules refuse: the abort is answered and nothing else changes. -/
theorem command_error (hc : commanded s index = true) (ho : op s = .error a) : command index op s = s.refuse a := by
  simp only [commanded, Bool.and_eq_true, decide_eq_true_eq] at hc
  simp [command, hc, ho]

/-- In NMT STOPPED every command of the dictionary is refused (Table 15-2). -/
theorem command_stopped (hw : leadAwake s = true) (hb : s.nmt.booted = true) (hs : s.served index = true) (hn : s.nmt.state = .stopped) :
    command index op s = s.refuse .state := by
  simp [command, hw, hb, hs, hn]

theorem commanded_powered (hc : commanded s index = true) : s.powered = true := by
  simp only [commanded, Bool.and_eq_true] at hc
  exact hc.1.1.1.1

theorem commanded_running (hc : commanded s index = true) : s.nmt.state ≠ .stopped := by
  simp only [commanded, Bool.and_eq_true, decide_eq_true_eq] at hc
  exact hc.1.2

/-! From a row's gate to its completion; `h` is `rfl` at each row. -/

theorem completes_live (h : exec c s = live s f) (hp : s.powered = true) (hf : f s = t) : Completes c s t := by
  rw [Completes, h, live_on hp, hf]

theorem told_live (h : exec c s = liveGroup s f) (hp : s.powered = true) (hf : f s = t) : CompletesTold c s t := by
  rw [CompletesTold, h, liveGroup_on hp, hf]

theorem completes_command (h : exec c s = live s (command index op)) (hc : commanded s index = true) (ho : op s = .ok t) :
    Completes c s (t.accept index) := completes_live h (commanded_powered hc) (command_ok hc ho)

theorem told_command (h : exec c s = liveGroup s (command index op)) (hc : commanded s index = true) (ho : op s = .ok t) :
    CompletesTold c s (t.accept index) := told_live h (commanded_powered hc) (command_ok hc ho)

theorem completes_refused (h : exec c s = live s (command index op)) (hc : commanded s index = true)
    (ho : op s = .error a) : Completes c s (s.refuse a) := completes_live h (commanded_powered hc) (command_error hc ho)

theorem told_refused (h : exec c s = liveGroup s (command index op)) (hc : commanded s index = true)
    (ho : op s = .error a) : CompletesTold c s (s.refuse a) := told_live h (commanded_powered hc) (command_error hc ho)

theorem completes_serve (h : exec c s = live s (serve index f)) (hp : s.powered = true) (hw : leadAwake s = true)
    (hb : s.nmt.booted = true) (hs : s.served index = true) (hf : f s = t) : Completes c s t := by
  refine completes_live h hp ?_
  simp [serve, hw, hb, hs, hf]

theorem told_input {src : Nat} {high : Bool} (h : exec c s = liveInput src high s f) (hp : s.powered = true) (hf : f s = t) :
    CompletesTold c s t := by
  rw [CompletesTold, h, liveInput, always]
  simp [hp, hf]

theorem completes_always (h : exec c s = always s f) (hf : f s = t) : Completes c s t := by
  rw [Completes, h, always, hf]

end Sys2Proof.Laws
end

