-- ==== Sys2Proof/Laws/Ops.lean ====
section
/-! SUPPORT. Each shared operation said once: the fields it can change, as one equation. -/

namespace Sys2Proof.Laws

open Sys2Proof Sys2Proof.Machine

/-! The trace and the collector's inbox. -/

theorem inboxPush_eq (s : State) (code : Nat) (a b : Bool) :
    s.inboxPush code a b = { s with faults := (s.inboxPush code a b).faults } := rfl

/-- Trace words change the trace, and the inbox of the collector where the staging buffer is full. -/
theorem traceWords_eq (s : State) (ws : List Nat) (ref : Nat) :
    ∃ tr fs, s.traceWords ws ref = { s with trace := tr, faults := fs } := by
  unfold State.traceWords
  dsimp only
  split
  · split
    · exact ⟨_, _, rfl⟩
    · exact ⟨_, _, rfl⟩
  · exact ⟨_, _, rfl⟩

theorem traceLost_eq (s : State) : ∃ tr fs, s.traceLost = { s with trace := tr, faults := fs } := by
  unfold State.traceLost
  split
  · exact ⟨_, _, rfl⟩
  · dsimp only
    obtain ⟨tr, fs, h⟩ := traceWords_eq s (traceWord 5 (5 * 2 ^ 12 + s.trace.lost) 0 :: traceStamp s.timebase) s.timebase
    rw [h]
    exact ⟨_, _, rfl⟩

theorem traceEntry_eq (s : State) (kind data : Nat) :
    ∃ tr fs, s.traceEntry kind data = { s with trace := tr, faults := fs } := by
  unfold State.traceEntry
  split
  · exact ⟨_, _, rfl⟩
  · dsimp only
    obtain ⟨tr0, fs0, h0⟩ := traceLost_eq s
    rw [h0]
    split
    · obtain ⟨tr, fs, h⟩ := traceWords_eq { s with trace := tr0, faults := fs0 }
        (traceStamp s.timebase ++ [traceWord kind data 0]) s.timebase
      rw [h]
      exact ⟨_, _, rfl⟩
    · obtain ⟨tr, fs, h⟩ := traceWords_eq { s with trace := tr0, faults := fs0 }
        [traceWord kind data ((s.timebase - tr0.reference) / 1024)]
        (tr0.reference + 1024 * ((s.timebase - tr0.reference) / 1024))
      rw [h]
      exact ⟨_, _, rfl⟩

theorem traceMarker_eq (s : State) (ty n : Nat) :
    ∃ tr fs, s.traceMarker ty n = { s with trace := tr, faults := fs } := by
  unfold State.traceMarker
  split
  · exact ⟨_, _, rfl⟩
  · dsimp only
    obtain ⟨tr0, fs0, h0⟩ := traceLost_eq s
    rw [h0]
    obtain ⟨tr, fs, h⟩ := traceWords_eq { s with trace := tr0, faults := fs0 }
      (traceWord 5 (ty * 2 ^ 12 + n) 0 :: traceStamp s.timebase) s.timebase
    rw [h]
    exact ⟨_, _, rfl⟩

/-- With the trace off, no entry is made. -/
theorem traceEntry_off (s : State) (h : s.trace.on = false) (kind data : Nat) : s.traceEntry kind data = s := by
  simp [State.traceEntry, h]

/-- An accepted write leaves its answer, its trace entry, and nothing else. -/
theorem accept_eq (s : State) (index : Nat) :
    ∃ tr fs, s.accept index = { s with trace := tr, faults := fs, resp := none } := by
  obtain ⟨tr, fs, h⟩ := traceEntry_eq s 3 index
  exact ⟨tr, fs, by rw [State.accept, h]⟩

@[simp] theorem accept_resp (s : State) (index : Nat) : (s.accept index).resp = none := rfl

/-- A pair that leaves recess changes its own state and, where it resumes the trace, that and the inbox. -/
theorem leaveRecess_eq (s : State) (d : Nat) :
    ∃ th tr fs, s.leaveRecess d = { s with thermal := th, trace := tr, faults := fs } := by
  unfold State.leaveRecess
  split
  · exact ⟨_, _, _, rfl⟩
  · dsimp only
    split
    · obtain ⟨tr, fs, h⟩ := traceMarker_eq { s with
        thermal := mapMod {} s.thermal d fun x => { x with recess := false }, trace := { s.trace with paused := false } } 2 0
      rw [h]
      exact ⟨_, _, _, rfl⟩
    · exact ⟨_, _, _, rfl⟩

theorem awake_eq (s : State) : ∃ th tr fs, s.awake = { s with thermal := th, trace := tr, faults := fs } := leaveRecess_eq s _

/-- A fault note goes to the collector's inbox and to the trace, and ends recess. -/
theorem note_eq (s : State) (code : Nat) (inj : Bool) :
    ∃ th tr fs, s.note code inj = { s with thermal := th, trace := tr, faults := fs } := by
  unfold State.note
  dsimp only
  obtain ⟨th, tr, fs, h⟩ := leaveRecess_eq s (codeDie code)
  obtain ⟨th2, tr2, fs2, h2⟩ := awake_eq (s.leaveRecess (codeDie code))
  obtain ⟨tr3, fs3, h3⟩ := traceEntry_eq ((s.leaveRecess (codeDie code)).awake.inboxPush code
    ((s.leaveRecess (codeDie code)).awake.inDetention code) inj) (8 + codeDie code) (codeUnit code * 2 ^ 10 + codeCause code)
  rw [h3, inboxPush_eq, h2, h]
  exact ⟨_, _, _, rfl⟩

theorem noteFault_eq (s : State) (unit die inst cause : Nat) (inj : Bool) :
    ∃ th tr fs, s.noteFault unit die inst cause inj = { s with thermal := th, trace := tr, faults := fs } := by
  unfold State.noteFault
  dsimp only
  obtain ⟨th, tr, fs, h⟩ := note_eq s (codeOf unit die inst cause) inj
  rw [h]
  exact ⟨_, _, _, rfl⟩

theorem detainUnit_eq (s : State) (unit die inst code : Nat) :
    ∃ fs, s.detainUnit unit die inst code = { s with faults := fs } := by
  unfold State.detainUnit
  split
  · exact ⟨_, rfl⟩
  · exact ⟨_, rfl⟩

/-! Events and interrupts. -/

theorem sendMsix_eq (s : State) (v : Nat) : ∃ it o, s.sendMsix v = { s with intake := it, out := o } := by
  unfold State.sendMsix
  dsimp only
  split <;> exact ⟨_, _, rfl⟩

theorem writeEvent_eq (s : State) (q ev subject data : Nat) :
    ∃ it o, s.writeEvent q ev subject data = { s with intake := it, out := o } := ⟨_, _, rfl⟩

theorem reportDrops_eq (s : State) (d q : Nat) :
    ∃ tr fs it o, s.reportDrops d q = { s with trace := tr, faults := fs, intake := it, out := o } := by
  unfold State.reportDrops
  dsimp only
  split
  · obtain ⟨tr, fs, h⟩ := traceEntry_eq s 1 7
    rw [h]
    exact ⟨_, _, _, _, rfl⟩
  · exact ⟨_, _, _, _, rfl⟩

/-- An event changes the trace, the inbox, the rings' indices and counters, and what has been sent. -/
theorem postEvent_eq (s : State) (d ev subject data : Nat) :
    ∃ tr fs it o, s.postEvent d ev subject data = { s with trace := tr, faults := fs, intake := it, out := o } := by
  unfold State.postEvent
  split
  · obtain ⟨tr, fs, h⟩ := traceEntry_eq s 1 ev
    rw [h]
    exact ⟨_, _, _, _, rfl⟩
  · rename_i q _
    dsimp only
    obtain ⟨tr, fs, it, o, h⟩ := reportDrops_eq s d q
    obtain ⟨tr2, fs2, h2⟩ := traceEntry_eq (s.reportDrops d q) 1 ev
    rw [h2, h]
    split <;> exact ⟨_, _, _, _, rfl⟩

theorem postLead_eq (s : State) (ev subject data : Nat) :
    ∃ tr fs it o, s.postLead ev subject data = { s with trace := tr, faults := fs, intake := it, out := o } :=
  postEvent_eq s _ ev subject data

/-! The Haling link. -/

theorem sendPort_eq (s : State) (k : OutKind) (p : Nat) (d : List Nat) :
    ∃ hl o, s.sendPort k p d = { s with haling := hl, out := o } := by
  unfold State.sendPort
  split <;> exact ⟨_, _, rfl⟩

theorem broadcast_eq (s : State) (k : OutKind) (d : List Nat) :
    ∃ hl o, s.broadcast k d = { s with haling := hl, out := o } := by
  unfold State.broadcast
  dsimp only
  obtain ⟨hl, o, h⟩ := sendPort_eq s.nextFseq k 0 (halingFrame k (s.nextFseq.halingHeader 0 true) d)
  obtain ⟨hl2, o2, h2⟩ := sendPort_eq (s.nextFseq.sendPort k 0 (halingFrame k (s.nextFseq.halingHeader 0 true) d)) k 1
    (halingFrame k (s.nextFseq.halingHeader 0 true) d)
  rw [h2, h]
  exact ⟨_, _, rfl⟩

theorem unicast_eq (s : State) (k : OutKind) (dest : Nat) (d : List Nat) :
    ∃ hl o, s.unicast k dest d = { s with haling := hl, out := o } := by
  unfold State.unicast
  dsimp only
  obtain ⟨hl, o, h⟩ := sendPort_eq s.nextFseq k (s.nextFseq.portFor dest)
    (halingFrame k (s.nextFseq.halingHeader dest false) d)
  rw [h]
  exact ⟨_, _, rfl⟩

/-- Outside a timetable group there is nobody to tell. -/
theorem settleGroup_alone (s : State) (h : s.inGroup = false) : s.settleGroup = s := by
  simp [State.settleGroup, State.settleVotes, State.settleReady, State.settleState, h]

theorem settleVotes_eq (s : State) :
    ∃ sl hl o th tr fs, s.settleVotes =
      { s with slots := sl, haling := hl, out := o, thermal := th, trace := tr, faults := fs } := by
  unfold State.settleVotes
  split
  · split
    · exact ⟨_, _, _, _, _, _, rfl⟩
    · rename_i i _
      dsimp only
      split
      · exact ⟨_, _, _, _, _, _, rfl⟩
      · split
        · split
          · exact ⟨_, _, _, _, _, _, rfl⟩
          · obtain ⟨th, tr, fs, h⟩ := noteFault_eq (s.modSlot i fun p => { p with disagreed := true }) 0x29 0 0 8 false
            have hr : (s.modSlot i fun p => { p with disagreed := true }).raise 0x29 0 0 8
                = (s.modSlot i fun p => { p with disagreed := true }).noteFault 0x29 0 0 8 := by
              rw [State.raise, State.react]
              rfl
            rw [hr, h]
            exact ⟨_, _, _, _, _, _, rfl⟩
        · split
          · obtain ⟨hl, o, h⟩ := broadcast_eq (({ s with haling := { s.haling with
                votes := s.haling.votes.filter fun kv => decide (kv.1 % 2 ^ 32 ≠ (s.slot i).seq) } }).modSlot i
              fun p => { p with commitMsg := true }) .commitFrame [(s.slot i).seq]
            rw [h]
            exact ⟨_, _, _, _, _, _, rfl⟩
          · exact ⟨_, _, _, _, _, _, rfl⟩
  · exact ⟨_, _, _, _, _, _, rfl⟩

theorem settleReady_eq (s : State) : ∃ hl o, s.settleReady = { s with haling := hl, out := o } := by
  unfold State.settleReady
  split
  · split
    · exact ⟨_, _, rfl⟩
    · dsimp only
      split
      · exact ⟨_, _, rfl⟩
      · rename_i i _ _
        obtain ⟨hl, o, h⟩ := unicast_eq { s with haling := { s.haling with votedReady := s.restartReady i } } .voteFrame
          s.haling.homeroom
          [(s.slot i).seq, b2n (s.slot i).voted, ofSigned 64 (s.slot i).origin, (s.slot i).h + (s.slot i).g,
            b2n (s.restartReady i)]
        rw [h]
        exact ⟨_, _, rfl⟩
  · exact ⟨_, _, rfl⟩

theorem settleState_eq (s : State) : ∃ hl o, s.settleState = { s with haling := hl, out := o } := by
  unfold State.settleState
  split
  · obtain ⟨hl, o, h⟩ := broadcast_eq { s with haling := { s.haling with sentState := s.tt.state.code } } .stateFrame (s.stateData 0)
    rw [h]
    exact ⟨_, _, rfl⟩
  · exact ⟨_, _, rfl⟩

/-- Telling the group changes the panels' commit flags, the link's own state, what has been sent, the trace, the collector's inbox and,
by a vote that disagrees, the recess of a pair; every other field stays. -/
theorem settleGroup_eq (s : State) :
    ∃ sl hl o th tr fs, s.settleGroup =
      { s with slots := sl, haling := hl, out := o, thermal := th, trace := tr, faults := fs } := by
  obtain ⟨sl, hl, o, th, tr, fs, h⟩ := settleVotes_eq s
  obtain ⟨hl2, o2, h2⟩ := settleReady_eq s.settleVotes
  obtain ⟨hl3, o3, h3⟩ := settleState_eq s.settleVotes.settleReady
  refine ⟨sl, hl3, o3, th, tr, fs, ?_⟩
  rw [State.settleGroup, h3, h2, h]

end Sys2Proof.Laws
end

