-- ==== Sys2Proof/Laws/State.lean ====
section
/-! SUPPORT. One lemma per field per shared update: what an update of one table leaves as it was. -/

namespace Sys2Proof.Laws

open Sys2Proof Sys2Proof.Machine

variable (s : State)

/-! `modSlot` changes `slots` alone. -/

@[simp] theorem modSlot_pending (i : Nat) (f : Slot → Slot) : (s.modSlot i f).pending = s.pending := rfl
@[simp] theorem modSlot_resp (i : Nat) (f : Slot → Slot) : (s.modSlot i f).resp = s.resp := rfl
@[simp] theorem modSlot_answer (i : Nat) (f : Slot → Slot) : (s.modSlot i f).answer = s.answer := rfl
@[simp] theorem modSlot_out (i : Nat) (f : Slot → Slot) : (s.modSlot i f).out = s.out := rfl
@[simp] theorem modSlot_freeCount (i : Nat) (f : Slot → Slot) : (s.modSlot i f).freeCount = s.freeCount := rfl
@[simp] theorem modSlot_variant (i : Nat) (f : Slot → Slot) : (s.modSlot i f).variant = s.variant := rfl
@[simp] theorem modSlot_timebase (i : Nat) (f : Slot → Slot) : (s.modSlot i f).timebase = s.timebase := rfl
@[simp] theorem modSlot_od (i : Nat) (f : Slot → Slot) : (s.modSlot i f).od = s.od := rfl
@[simp] theorem modSlot_domains (i : Nat) (f : Slot → Slot) : (s.modSlot i f).domains = s.domains := rfl
@[simp] theorem modSlot_web (i : Nat) (f : Slot → Slot) : (s.modSlot i f).web = s.web := rfl
@[simp] theorem modSlot_tt (i : Nat) (f : Slot → Slot) : (s.modSlot i f).tt = s.tt := rfl
@[simp] theorem modSlot_stations (i : Nat) (f : Slot → Slot) : (s.modSlot i f).stations = s.stations := rfl
@[simp] theorem modSlot_record (i : Nat) (f : Slot → Slot) : (s.modSlot i f).record = s.record := rfl
@[simp] theorem modSlot_tones (i : Nat) (f : Slot → Slot) : (s.modSlot i f).tones = s.tones := rfl
@[simp] theorem modSlot_leading (i : Nat) (f : Slot → Slot) : (s.modSlot i f).leading = s.leading := rfl
@[simp] theorem modSlot_stitches (i : Nat) (f : Slot → Slot) : (s.modSlot i f).stitches = s.stitches := rfl
@[simp] theorem modSlot_lines (i : Nat) (f : Slot → Slot) : (s.modSlot i f).lines = s.lines := rfl
@[simp] theorem modSlot_played (i : Nat) (f : Slot → Slot) : (s.modSlot i f).played = s.played := rfl
@[simp] theorem modSlot_lanes (i : Nat) (f : Slot → Slot) : (s.modSlot i f).lanes = s.lanes := rfl
@[simp] theorem modSlot_laneResult (i : Nat) (f : Slot → Slot) : (s.modSlot i f).laneResult = s.laneResult := rfl
@[simp] theorem modSlot_laneCmd (i : Nat) (f : Slot → Slot) : (s.modSlot i f).laneCmd = s.laneCmd := rfl
@[simp] theorem modSlot_flips (i : Nat) (f : Slot → Slot) : (s.modSlot i f).flips = s.flips := rfl
@[simp] theorem modSlot_blends (i : Nat) (f : Slot → Slot) : (s.modSlot i f).blends = s.blends := rfl
@[simp] theorem modSlot_scanners (i : Nat) (f : Slot → Slot) : (s.modSlot i f).scanners = s.scanners := rfl
@[simp] theorem modSlot_links (i : Nat) (f : Slot → Slot) : (s.modSlot i f).links = s.links := rfl
@[simp] theorem modSlot_chans (i : Nat) (f : Slot → Slot) : (s.modSlot i f).chans = s.chans := rfl
@[simp] theorem modSlot_latches (i : Nat) (f : Slot → Slot) : (s.modSlot i f).latches = s.latches := rfl
@[simp] theorem modSlot_compares (i : Nat) (f : Slot → Slot) : (s.modSlot i f).compares = s.compares := rfl
@[simp] theorem modSlot_axes (i : Nat) (f : Slot → Slot) : (s.modSlot i f).axes = s.axes := rfl
@[simp] theorem modSlot_transport (i : Nat) (f : Slot → Slot) : (s.modSlot i f).transport = s.transport := rfl
@[simp] theorem modSlot_slotsL (i : Nat) (f : Slot → Slot) : (s.modSlot i f).slotsL = s.slotsL := rfl
@[simp] theorem modSlot_conv0 (i : Nat) (f : Slot → Slot) : (s.modSlot i f).conv0 = s.conv0 := rfl
@[simp] theorem modSlot_conv1 (i : Nat) (f : Slot → Slot) : (s.modSlot i f).conv1 = s.conv1 := rfl
@[simp] theorem modSlot_dsInputs (i : Nat) (f : Slot → Slot) : (s.modSlot i f).dsInputs = s.dsInputs := rfl
@[simp] theorem modSlot_hv (i : Nat) (f : Slot → Slot) : (s.modSlot i f).hv = s.hv := rfl
@[simp] theorem modSlot_zones (i : Nat) (f : Slot → Slot) : (s.modSlot i f).zones = s.zones := rfl
@[simp] theorem modSlot_nip (i : Nat) (f : Slot → Slot) : (s.modSlot i f).nip = s.nip := rfl
@[simp] theorem modSlot_clocks (i : Nat) (f : Slot → Slot) : (s.modSlot i f).clocks = s.clocks := rfl
@[simp] theorem modSlot_dividers (i : Nat) (f : Slot → Slot) : (s.modSlot i f).dividers = s.dividers := rfl
@[simp] theorem modSlot_group (i : Nat) (f : Slot → Slot) : (s.modSlot i f).group = s.group := rfl
@[simp] theorem modSlot_haling (i : Nat) (f : Slot → Slot) : (s.modSlot i f).haling = s.haling := rfl
@[simp] theorem modSlot_power (i : Nat) (f : Slot → Slot) : (s.modSlot i f).power = s.power := rfl
@[simp] theorem modSlot_thermal (i : Nat) (f : Slot → Slot) : (s.modSlot i f).thermal = s.thermal := rfl
@[simp] theorem modSlot_thermalCeiling (i : Nat) (f : Slot → Slot) : (s.modSlot i f).thermalCeiling = s.thermalCeiling := rfl
@[simp] theorem modSlot_flash (i : Nat) (f : Slot → Slot) : (s.modSlot i f).flash = s.flash := rfl
@[simp] theorem modSlot_straps (i : Nat) (f : Slot → Slot) : (s.modSlot i f).straps = s.straps := rfl
@[simp] theorem modSlot_jtag (i : Nat) (f : Slot → Slot) : (s.modSlot i f).jtag = s.jtag := rfl
@[simp] theorem modSlot_intake (i : Nat) (f : Slot → Slot) : (s.modSlot i f).intake = s.intake := rfl
@[simp] theorem modSlot_store (i : Nat) (f : Slot → Slot) : (s.modSlot i f).store = s.store := rfl
@[simp] theorem modSlot_hazard (i : Nat) (f : Slot → Slot) : (s.modSlot i f).hazard = s.hazard := rfl
@[simp] theorem modSlot_sealed (i : Nat) (f : Slot → Slot) : (s.modSlot i f).sealed = s.sealed := rfl
@[simp] theorem modSlot_fuses (i : Nat) (f : Slot → Slot) : (s.modSlot i f).fuses = s.fuses := rfl
@[simp] theorem modSlot_faults (i : Nat) (f : Slot → Slot) : (s.modSlot i f).faults = s.faults := rfl
@[simp] theorem modSlot_dies (i : Nat) (f : Slot → Slot) : (s.modSlot i f).dies = s.dies := rfl
@[simp] theorem modSlot_inject (i : Nat) (f : Slot → Slot) : (s.modSlot i f).inject = s.inject := rfl
@[simp] theorem modSlot_nmt (i : Nat) (f : Slot → Slot) : (s.modSlot i f).nmt = s.nmt := rfl
@[simp] theorem modSlot_can (i : Nat) (f : Slot → Slot) : (s.modSlot i f).can = s.can := rfl
@[simp] theorem modSlot_usdo (i : Nat) (f : Slot → Slot) : (s.modSlot i f).usdo = s.usdo := rfl
@[simp] theorem modSlot_mirrors (i : Nat) (f : Slot → Slot) : (s.modSlot i f).mirrors = s.mirrors := rfl
@[simp] theorem modSlot_mirrorQueue (i : Nat) (f : Slot → Slot) : (s.modSlot i f).mirrorQueue = s.mirrorQueue := rfl
@[simp] theorem modSlot_trace (i : Nat) (f : Slot → Slot) : (s.modSlot i f).trace = s.trace := rfl

/-! `modStation` changes `stations` alone. -/

@[simp] theorem modStation_pending (i : Nat) (f : Station → Station) : (s.modStation i f).pending = s.pending := rfl
@[simp] theorem modStation_resp (i : Nat) (f : Station → Station) : (s.modStation i f).resp = s.resp := rfl
@[simp] theorem modStation_answer (i : Nat) (f : Station → Station) : (s.modStation i f).answer = s.answer := rfl
@[simp] theorem modStation_out (i : Nat) (f : Station → Station) : (s.modStation i f).out = s.out := rfl
@[simp] theorem modStation_freeCount (i : Nat) (f : Station → Station) : (s.modStation i f).freeCount = s.freeCount := rfl
@[simp] theorem modStation_variant (i : Nat) (f : Station → Station) : (s.modStation i f).variant = s.variant := rfl
@[simp] theorem modStation_timebase (i : Nat) (f : Station → Station) : (s.modStation i f).timebase = s.timebase := rfl
@[simp] theorem modStation_od (i : Nat) (f : Station → Station) : (s.modStation i f).od = s.od := rfl
@[simp] theorem modStation_domains (i : Nat) (f : Station → Station) : (s.modStation i f).domains = s.domains := rfl
@[simp] theorem modStation_web (i : Nat) (f : Station → Station) : (s.modStation i f).web = s.web := rfl
@[simp] theorem modStation_tt (i : Nat) (f : Station → Station) : (s.modStation i f).tt = s.tt := rfl
@[simp] theorem modStation_slots (i : Nat) (f : Station → Station) : (s.modStation i f).slots = s.slots := rfl
@[simp] theorem modStation_record (i : Nat) (f : Station → Station) : (s.modStation i f).record = s.record := rfl
@[simp] theorem modStation_tones (i : Nat) (f : Station → Station) : (s.modStation i f).tones = s.tones := rfl
@[simp] theorem modStation_leading (i : Nat) (f : Station → Station) : (s.modStation i f).leading = s.leading := rfl
@[simp] theorem modStation_stitches (i : Nat) (f : Station → Station) : (s.modStation i f).stitches = s.stitches := rfl
@[simp] theorem modStation_lines (i : Nat) (f : Station → Station) : (s.modStation i f).lines = s.lines := rfl
@[simp] theorem modStation_played (i : Nat) (f : Station → Station) : (s.modStation i f).played = s.played := rfl
@[simp] theorem modStation_lanes (i : Nat) (f : Station → Station) : (s.modStation i f).lanes = s.lanes := rfl
@[simp] theorem modStation_laneResult (i : Nat) (f : Station → Station) : (s.modStation i f).laneResult = s.laneResult := rfl
@[simp] theorem modStation_laneCmd (i : Nat) (f : Station → Station) : (s.modStation i f).laneCmd = s.laneCmd := rfl
@[simp] theorem modStation_flips (i : Nat) (f : Station → Station) : (s.modStation i f).flips = s.flips := rfl
@[simp] theorem modStation_blends (i : Nat) (f : Station → Station) : (s.modStation i f).blends = s.blends := rfl
@[simp] theorem modStation_scanners (i : Nat) (f : Station → Station) : (s.modStation i f).scanners = s.scanners := rfl
@[simp] theorem modStation_links (i : Nat) (f : Station → Station) : (s.modStation i f).links = s.links := rfl
@[simp] theorem modStation_chans (i : Nat) (f : Station → Station) : (s.modStation i f).chans = s.chans := rfl
@[simp] theorem modStation_latches (i : Nat) (f : Station → Station) : (s.modStation i f).latches = s.latches := rfl
@[simp] theorem modStation_compares (i : Nat) (f : Station → Station) : (s.modStation i f).compares = s.compares := rfl
@[simp] theorem modStation_axes (i : Nat) (f : Station → Station) : (s.modStation i f).axes = s.axes := rfl
@[simp] theorem modStation_transport (i : Nat) (f : Station → Station) : (s.modStation i f).transport = s.transport := rfl
@[simp] theorem modStation_slotsL (i : Nat) (f : Station → Station) : (s.modStation i f).slotsL = s.slotsL := rfl
@[simp] theorem modStation_conv0 (i : Nat) (f : Station → Station) : (s.modStation i f).conv0 = s.conv0 := rfl
@[simp] theorem modStation_conv1 (i : Nat) (f : Station → Station) : (s.modStation i f).conv1 = s.conv1 := rfl
@[simp] theorem modStation_dsInputs (i : Nat) (f : Station → Station) : (s.modStation i f).dsInputs = s.dsInputs := rfl
@[simp] theorem modStation_hv (i : Nat) (f : Station → Station) : (s.modStation i f).hv = s.hv := rfl
@[simp] theorem modStation_zones (i : Nat) (f : Station → Station) : (s.modStation i f).zones = s.zones := rfl
@[simp] theorem modStation_nip (i : Nat) (f : Station → Station) : (s.modStation i f).nip = s.nip := rfl
@[simp] theorem modStation_clocks (i : Nat) (f : Station → Station) : (s.modStation i f).clocks = s.clocks := rfl
@[simp] theorem modStation_dividers (i : Nat) (f : Station → Station) : (s.modStation i f).dividers = s.dividers := rfl
@[simp] theorem modStation_group (i : Nat) (f : Station → Station) : (s.modStation i f).group = s.group := rfl
@[simp] theorem modStation_haling (i : Nat) (f : Station → Station) : (s.modStation i f).haling = s.haling := rfl
@[simp] theorem modStation_power (i : Nat) (f : Station → Station) : (s.modStation i f).power = s.power := rfl
@[simp] theorem modStation_thermal (i : Nat) (f : Station → Station) : (s.modStation i f).thermal = s.thermal := rfl
@[simp] theorem modStation_thermalCeiling (i : Nat) (f : Station → Station) : (s.modStation i f).thermalCeiling = s.thermalCeiling := rfl
@[simp] theorem modStation_flash (i : Nat) (f : Station → Station) : (s.modStation i f).flash = s.flash := rfl
@[simp] theorem modStation_straps (i : Nat) (f : Station → Station) : (s.modStation i f).straps = s.straps := rfl
@[simp] theorem modStation_jtag (i : Nat) (f : Station → Station) : (s.modStation i f).jtag = s.jtag := rfl
@[simp] theorem modStation_intake (i : Nat) (f : Station → Station) : (s.modStation i f).intake = s.intake := rfl
@[simp] theorem modStation_store (i : Nat) (f : Station → Station) : (s.modStation i f).store = s.store := rfl
@[simp] theorem modStation_hazard (i : Nat) (f : Station → Station) : (s.modStation i f).hazard = s.hazard := rfl
@[simp] theorem modStation_sealed (i : Nat) (f : Station → Station) : (s.modStation i f).sealed = s.sealed := rfl
@[simp] theorem modStation_fuses (i : Nat) (f : Station → Station) : (s.modStation i f).fuses = s.fuses := rfl
@[simp] theorem modStation_faults (i : Nat) (f : Station → Station) : (s.modStation i f).faults = s.faults := rfl
@[simp] theorem modStation_dies (i : Nat) (f : Station → Station) : (s.modStation i f).dies = s.dies := rfl
@[simp] theorem modStation_inject (i : Nat) (f : Station → Station) : (s.modStation i f).inject = s.inject := rfl
@[simp] theorem modStation_nmt (i : Nat) (f : Station → Station) : (s.modStation i f).nmt = s.nmt := rfl
@[simp] theorem modStation_can (i : Nat) (f : Station → Station) : (s.modStation i f).can = s.can := rfl
@[simp] theorem modStation_usdo (i : Nat) (f : Station → Station) : (s.modStation i f).usdo = s.usdo := rfl
@[simp] theorem modStation_mirrors (i : Nat) (f : Station → Station) : (s.modStation i f).mirrors = s.mirrors := rfl
@[simp] theorem modStation_mirrorQueue (i : Nat) (f : Station → Station) : (s.modStation i f).mirrorQueue = s.mirrorQueue := rfl
@[simp] theorem modStation_trace (i : Nat) (f : Station → Station) : (s.modStation i f).trace = s.trace := rfl

/-! `modRing` changes `intake` alone. -/

@[simp] theorem modRing_pending (q : Nat) (f : Ring → Ring) : (s.modRing q f).pending = s.pending := rfl
@[simp] theorem modRing_resp (q : Nat) (f : Ring → Ring) : (s.modRing q f).resp = s.resp := rfl
@[simp] theorem modRing_answer (q : Nat) (f : Ring → Ring) : (s.modRing q f).answer = s.answer := rfl
@[simp] theorem modRing_out (q : Nat) (f : Ring → Ring) : (s.modRing q f).out = s.out := rfl
@[simp] theorem modRing_freeCount (q : Nat) (f : Ring → Ring) : (s.modRing q f).freeCount = s.freeCount := rfl
@[simp] theorem modRing_variant (q : Nat) (f : Ring → Ring) : (s.modRing q f).variant = s.variant := rfl
@[simp] theorem modRing_timebase (q : Nat) (f : Ring → Ring) : (s.modRing q f).timebase = s.timebase := rfl
@[simp] theorem modRing_od (q : Nat) (f : Ring → Ring) : (s.modRing q f).od = s.od := rfl
@[simp] theorem modRing_domains (q : Nat) (f : Ring → Ring) : (s.modRing q f).domains = s.domains := rfl
@[simp] theorem modRing_web (q : Nat) (f : Ring → Ring) : (s.modRing q f).web = s.web := rfl
@[simp] theorem modRing_tt (q : Nat) (f : Ring → Ring) : (s.modRing q f).tt = s.tt := rfl
@[simp] theorem modRing_slots (q : Nat) (f : Ring → Ring) : (s.modRing q f).slots = s.slots := rfl
@[simp] theorem modRing_stations (q : Nat) (f : Ring → Ring) : (s.modRing q f).stations = s.stations := rfl
@[simp] theorem modRing_record (q : Nat) (f : Ring → Ring) : (s.modRing q f).record = s.record := rfl
@[simp] theorem modRing_tones (q : Nat) (f : Ring → Ring) : (s.modRing q f).tones = s.tones := rfl
@[simp] theorem modRing_leading (q : Nat) (f : Ring → Ring) : (s.modRing q f).leading = s.leading := rfl
@[simp] theorem modRing_stitches (q : Nat) (f : Ring → Ring) : (s.modRing q f).stitches = s.stitches := rfl
@[simp] theorem modRing_lines (q : Nat) (f : Ring → Ring) : (s.modRing q f).lines = s.lines := rfl
@[simp] theorem modRing_played (q : Nat) (f : Ring → Ring) : (s.modRing q f).played = s.played := rfl
@[simp] theorem modRing_lanes (q : Nat) (f : Ring → Ring) : (s.modRing q f).lanes = s.lanes := rfl
@[simp] theorem modRing_laneResult (q : Nat) (f : Ring → Ring) : (s.modRing q f).laneResult = s.laneResult := rfl
@[simp] theorem modRing_laneCmd (q : Nat) (f : Ring → Ring) : (s.modRing q f).laneCmd = s.laneCmd := rfl
@[simp] theorem modRing_flips (q : Nat) (f : Ring → Ring) : (s.modRing q f).flips = s.flips := rfl
@[simp] theorem modRing_blends (q : Nat) (f : Ring → Ring) : (s.modRing q f).blends = s.blends := rfl
@[simp] theorem modRing_scanners (q : Nat) (f : Ring → Ring) : (s.modRing q f).scanners = s.scanners := rfl
@[simp] theorem modRing_links (q : Nat) (f : Ring → Ring) : (s.modRing q f).links = s.links := rfl
@[simp] theorem modRing_chans (q : Nat) (f : Ring → Ring) : (s.modRing q f).chans = s.chans := rfl
@[simp] theorem modRing_latches (q : Nat) (f : Ring → Ring) : (s.modRing q f).latches = s.latches := rfl
@[simp] theorem modRing_compares (q : Nat) (f : Ring → Ring) : (s.modRing q f).compares = s.compares := rfl
@[simp] theorem modRing_axes (q : Nat) (f : Ring → Ring) : (s.modRing q f).axes = s.axes := rfl
@[simp] theorem modRing_transport (q : Nat) (f : Ring → Ring) : (s.modRing q f).transport = s.transport := rfl
@[simp] theorem modRing_slotsL (q : Nat) (f : Ring → Ring) : (s.modRing q f).slotsL = s.slotsL := rfl
@[simp] theorem modRing_conv0 (q : Nat) (f : Ring → Ring) : (s.modRing q f).conv0 = s.conv0 := rfl
@[simp] theorem modRing_conv1 (q : Nat) (f : Ring → Ring) : (s.modRing q f).conv1 = s.conv1 := rfl
@[simp] theorem modRing_dsInputs (q : Nat) (f : Ring → Ring) : (s.modRing q f).dsInputs = s.dsInputs := rfl
@[simp] theorem modRing_hv (q : Nat) (f : Ring → Ring) : (s.modRing q f).hv = s.hv := rfl
@[simp] theorem modRing_zones (q : Nat) (f : Ring → Ring) : (s.modRing q f).zones = s.zones := rfl
@[simp] theorem modRing_nip (q : Nat) (f : Ring → Ring) : (s.modRing q f).nip = s.nip := rfl
@[simp] theorem modRing_clocks (q : Nat) (f : Ring → Ring) : (s.modRing q f).clocks = s.clocks := rfl
@[simp] theorem modRing_dividers (q : Nat) (f : Ring → Ring) : (s.modRing q f).dividers = s.dividers := rfl
@[simp] theorem modRing_group (q : Nat) (f : Ring → Ring) : (s.modRing q f).group = s.group := rfl
@[simp] theorem modRing_haling (q : Nat) (f : Ring → Ring) : (s.modRing q f).haling = s.haling := rfl
@[simp] theorem modRing_power (q : Nat) (f : Ring → Ring) : (s.modRing q f).power = s.power := rfl
@[simp] theorem modRing_thermal (q : Nat) (f : Ring → Ring) : (s.modRing q f).thermal = s.thermal := rfl
@[simp] theorem modRing_thermalCeiling (q : Nat) (f : Ring → Ring) : (s.modRing q f).thermalCeiling = s.thermalCeiling := rfl
@[simp] theorem modRing_flash (q : Nat) (f : Ring → Ring) : (s.modRing q f).flash = s.flash := rfl
@[simp] theorem modRing_straps (q : Nat) (f : Ring → Ring) : (s.modRing q f).straps = s.straps := rfl
@[simp] theorem modRing_jtag (q : Nat) (f : Ring → Ring) : (s.modRing q f).jtag = s.jtag := rfl
@[simp] theorem modRing_store (q : Nat) (f : Ring → Ring) : (s.modRing q f).store = s.store := rfl
@[simp] theorem modRing_hazard (q : Nat) (f : Ring → Ring) : (s.modRing q f).hazard = s.hazard := rfl
@[simp] theorem modRing_sealed (q : Nat) (f : Ring → Ring) : (s.modRing q f).sealed = s.sealed := rfl
@[simp] theorem modRing_fuses (q : Nat) (f : Ring → Ring) : (s.modRing q f).fuses = s.fuses := rfl
@[simp] theorem modRing_faults (q : Nat) (f : Ring → Ring) : (s.modRing q f).faults = s.faults := rfl
@[simp] theorem modRing_dies (q : Nat) (f : Ring → Ring) : (s.modRing q f).dies = s.dies := rfl
@[simp] theorem modRing_inject (q : Nat) (f : Ring → Ring) : (s.modRing q f).inject = s.inject := rfl
@[simp] theorem modRing_nmt (q : Nat) (f : Ring → Ring) : (s.modRing q f).nmt = s.nmt := rfl
@[simp] theorem modRing_can (q : Nat) (f : Ring → Ring) : (s.modRing q f).can = s.can := rfl
@[simp] theorem modRing_usdo (q : Nat) (f : Ring → Ring) : (s.modRing q f).usdo = s.usdo := rfl
@[simp] theorem modRing_mirrors (q : Nat) (f : Ring → Ring) : (s.modRing q f).mirrors = s.mirrors := rfl
@[simp] theorem modRing_mirrorQueue (q : Nat) (f : Ring → Ring) : (s.modRing q f).mirrorQueue = s.mirrorQueue := rfl
@[simp] theorem modRing_trace (q : Nat) (f : Ring → Ring) : (s.modRing q f).trace = s.trace := rfl

/-! `advanceTo` changes `timebase` alone. -/

@[simp] theorem advanceTo_pending (t : Nat) : (s.advanceTo t).pending = s.pending := rfl
@[simp] theorem advanceTo_resp (t : Nat) : (s.advanceTo t).resp = s.resp := rfl
@[simp] theorem advanceTo_answer (t : Nat) : (s.advanceTo t).answer = s.answer := rfl
@[simp] theorem advanceTo_out (t : Nat) : (s.advanceTo t).out = s.out := rfl
@[simp] theorem advanceTo_freeCount (t : Nat) : (s.advanceTo t).freeCount = s.freeCount := rfl
@[simp] theorem advanceTo_variant (t : Nat) : (s.advanceTo t).variant = s.variant := rfl
@[simp] theorem advanceTo_od (t : Nat) : (s.advanceTo t).od = s.od := rfl
@[simp] theorem advanceTo_domains (t : Nat) : (s.advanceTo t).domains = s.domains := rfl
@[simp] theorem advanceTo_web (t : Nat) : (s.advanceTo t).web = s.web := rfl
@[simp] theorem advanceTo_tt (t : Nat) : (s.advanceTo t).tt = s.tt := rfl
@[simp] theorem advanceTo_slots (t : Nat) : (s.advanceTo t).slots = s.slots := rfl
@[simp] theorem advanceTo_stations (t : Nat) : (s.advanceTo t).stations = s.stations := rfl
@[simp] theorem advanceTo_record (t : Nat) : (s.advanceTo t).record = s.record := rfl
@[simp] theorem advanceTo_tones (t : Nat) : (s.advanceTo t).tones = s.tones := rfl
@[simp] theorem advanceTo_leading (t : Nat) : (s.advanceTo t).leading = s.leading := rfl
@[simp] theorem advanceTo_stitches (t : Nat) : (s.advanceTo t).stitches = s.stitches := rfl
@[simp] theorem advanceTo_lines (t : Nat) : (s.advanceTo t).lines = s.lines := rfl
@[simp] theorem advanceTo_played (t : Nat) : (s.advanceTo t).played = s.played := rfl
@[simp] theorem advanceTo_lanes (t : Nat) : (s.advanceTo t).lanes = s.lanes := rfl
@[simp] theorem advanceTo_laneResult (t : Nat) : (s.advanceTo t).laneResult = s.laneResult := rfl
@[simp] theorem advanceTo_laneCmd (t : Nat) : (s.advanceTo t).laneCmd = s.laneCmd := rfl
@[simp] theorem advanceTo_flips (t : Nat) : (s.advanceTo t).flips = s.flips := rfl
@[simp] theorem advanceTo_blends (t : Nat) : (s.advanceTo t).blends = s.blends := rfl
@[simp] theorem advanceTo_scanners (t : Nat) : (s.advanceTo t).scanners = s.scanners := rfl
@[simp] theorem advanceTo_links (t : Nat) : (s.advanceTo t).links = s.links := rfl
@[simp] theorem advanceTo_chans (t : Nat) : (s.advanceTo t).chans = s.chans := rfl
@[simp] theorem advanceTo_latches (t : Nat) : (s.advanceTo t).latches = s.latches := rfl
@[simp] theorem advanceTo_compares (t : Nat) : (s.advanceTo t).compares = s.compares := rfl
@[simp] theorem advanceTo_axes (t : Nat) : (s.advanceTo t).axes = s.axes := rfl
@[simp] theorem advanceTo_transport (t : Nat) : (s.advanceTo t).transport = s.transport := rfl
@[simp] theorem advanceTo_slotsL (t : Nat) : (s.advanceTo t).slotsL = s.slotsL := rfl
@[simp] theorem advanceTo_conv0 (t : Nat) : (s.advanceTo t).conv0 = s.conv0 := rfl
@[simp] theorem advanceTo_conv1 (t : Nat) : (s.advanceTo t).conv1 = s.conv1 := rfl
@[simp] theorem advanceTo_dsInputs (t : Nat) : (s.advanceTo t).dsInputs = s.dsInputs := rfl
@[simp] theorem advanceTo_hv (t : Nat) : (s.advanceTo t).hv = s.hv := rfl
@[simp] theorem advanceTo_zones (t : Nat) : (s.advanceTo t).zones = s.zones := rfl
@[simp] theorem advanceTo_nip (t : Nat) : (s.advanceTo t).nip = s.nip := rfl
@[simp] theorem advanceTo_clocks (t : Nat) : (s.advanceTo t).clocks = s.clocks := rfl
@[simp] theorem advanceTo_dividers (t : Nat) : (s.advanceTo t).dividers = s.dividers := rfl
@[simp] theorem advanceTo_group (t : Nat) : (s.advanceTo t).group = s.group := rfl
@[simp] theorem advanceTo_haling (t : Nat) : (s.advanceTo t).haling = s.haling := rfl
@[simp] theorem advanceTo_power (t : Nat) : (s.advanceTo t).power = s.power := rfl
@[simp] theorem advanceTo_thermal (t : Nat) : (s.advanceTo t).thermal = s.thermal := rfl
@[simp] theorem advanceTo_thermalCeiling (t : Nat) : (s.advanceTo t).thermalCeiling = s.thermalCeiling := rfl
@[simp] theorem advanceTo_flash (t : Nat) : (s.advanceTo t).flash = s.flash := rfl
@[simp] theorem advanceTo_straps (t : Nat) : (s.advanceTo t).straps = s.straps := rfl
@[simp] theorem advanceTo_jtag (t : Nat) : (s.advanceTo t).jtag = s.jtag := rfl
@[simp] theorem advanceTo_intake (t : Nat) : (s.advanceTo t).intake = s.intake := rfl
@[simp] theorem advanceTo_store (t : Nat) : (s.advanceTo t).store = s.store := rfl
@[simp] theorem advanceTo_hazard (t : Nat) : (s.advanceTo t).hazard = s.hazard := rfl
@[simp] theorem advanceTo_sealed (t : Nat) : (s.advanceTo t).sealed = s.sealed := rfl
@[simp] theorem advanceTo_fuses (t : Nat) : (s.advanceTo t).fuses = s.fuses := rfl
@[simp] theorem advanceTo_faults (t : Nat) : (s.advanceTo t).faults = s.faults := rfl
@[simp] theorem advanceTo_dies (t : Nat) : (s.advanceTo t).dies = s.dies := rfl
@[simp] theorem advanceTo_inject (t : Nat) : (s.advanceTo t).inject = s.inject := rfl
@[simp] theorem advanceTo_nmt (t : Nat) : (s.advanceTo t).nmt = s.nmt := rfl
@[simp] theorem advanceTo_can (t : Nat) : (s.advanceTo t).can = s.can := rfl
@[simp] theorem advanceTo_usdo (t : Nat) : (s.advanceTo t).usdo = s.usdo := rfl
@[simp] theorem advanceTo_mirrors (t : Nat) : (s.advanceTo t).mirrors = s.mirrors := rfl
@[simp] theorem advanceTo_mirrorQueue (t : Nat) : (s.advanceTo t).mirrorQueue = s.mirrorQueue := rfl
@[simp] theorem advanceTo_trace (t : Nat) : (s.advanceTo t).trace = s.trace := rfl

/-! `emit` changes `out` alone. -/

@[simp] theorem emit_pending (k : OutKind) (u : Nat) (d : List Nat) : (s.emit k u d).pending = s.pending := rfl
@[simp] theorem emit_resp (k : OutKind) (u : Nat) (d : List Nat) : (s.emit k u d).resp = s.resp := rfl
@[simp] theorem emit_answer (k : OutKind) (u : Nat) (d : List Nat) : (s.emit k u d).answer = s.answer := rfl
@[simp] theorem emit_freeCount (k : OutKind) (u : Nat) (d : List Nat) : (s.emit k u d).freeCount = s.freeCount := rfl
@[simp] theorem emit_variant (k : OutKind) (u : Nat) (d : List Nat) : (s.emit k u d).variant = s.variant := rfl
@[simp] theorem emit_timebase (k : OutKind) (u : Nat) (d : List Nat) : (s.emit k u d).timebase = s.timebase := rfl
@[simp] theorem emit_od (k : OutKind) (u : Nat) (d : List Nat) : (s.emit k u d).od = s.od := rfl
@[simp] theorem emit_domains (k : OutKind) (u : Nat) (d : List Nat) : (s.emit k u d).domains = s.domains := rfl
@[simp] theorem emit_web (k : OutKind) (u : Nat) (d : List Nat) : (s.emit k u d).web = s.web := rfl
@[simp] theorem emit_tt (k : OutKind) (u : Nat) (d : List Nat) : (s.emit k u d).tt = s.tt := rfl
@[simp] theorem emit_slots (k : OutKind) (u : Nat) (d : List Nat) : (s.emit k u d).slots = s.slots := rfl
@[simp] theorem emit_stations (k : OutKind) (u : Nat) (d : List Nat) : (s.emit k u d).stations = s.stations := rfl
@[simp] theorem emit_record (k : OutKind) (u : Nat) (d : List Nat) : (s.emit k u d).record = s.record := rfl
@[simp] theorem emit_tones (k : OutKind) (u : Nat) (d : List Nat) : (s.emit k u d).tones = s.tones := rfl
@[simp] theorem emit_leading (k : OutKind) (u : Nat) (d : List Nat) : (s.emit k u d).leading = s.leading := rfl
@[simp] theorem emit_stitches (k : OutKind) (u : Nat) (d : List Nat) : (s.emit k u d).stitches = s.stitches := rfl
@[simp] theorem emit_lines (k : OutKind) (u : Nat) (d : List Nat) : (s.emit k u d).lines = s.lines := rfl
@[simp] theorem emit_played (k : OutKind) (u : Nat) (d : List Nat) : (s.emit k u d).played = s.played := rfl
@[simp] theorem emit_lanes (k : OutKind) (u : Nat) (d : List Nat) : (s.emit k u d).lanes = s.lanes := rfl
@[simp] theorem emit_laneResult (k : OutKind) (u : Nat) (d : List Nat) : (s.emit k u d).laneResult = s.laneResult := rfl
@[simp] theorem emit_laneCmd (k : OutKind) (u : Nat) (d : List Nat) : (s.emit k u d).laneCmd = s.laneCmd := rfl
@[simp] theorem emit_flips (k : OutKind) (u : Nat) (d : List Nat) : (s.emit k u d).flips = s.flips := rfl
@[simp] theorem emit_blends (k : OutKind) (u : Nat) (d : List Nat) : (s.emit k u d).blends = s.blends := rfl
@[simp] theorem emit_scanners (k : OutKind) (u : Nat) (d : List Nat) : (s.emit k u d).scanners = s.scanners := rfl
@[simp] theorem emit_links (k : OutKind) (u : Nat) (d : List Nat) : (s.emit k u d).links = s.links := rfl
@[simp] theorem emit_chans (k : OutKind) (u : Nat) (d : List Nat) : (s.emit k u d).chans = s.chans := rfl
@[simp] theorem emit_latches (k : OutKind) (u : Nat) (d : List Nat) : (s.emit k u d).latches = s.latches := rfl
@[simp] theorem emit_compares (k : OutKind) (u : Nat) (d : List Nat) : (s.emit k u d).compares = s.compares := rfl
@[simp] theorem emit_axes (k : OutKind) (u : Nat) (d : List Nat) : (s.emit k u d).axes = s.axes := rfl
@[simp] theorem emit_transport (k : OutKind) (u : Nat) (d : List Nat) : (s.emit k u d).transport = s.transport := rfl
@[simp] theorem emit_slotsL (k : OutKind) (u : Nat) (d : List Nat) : (s.emit k u d).slotsL = s.slotsL := rfl
@[simp] theorem emit_conv0 (k : OutKind) (u : Nat) (d : List Nat) : (s.emit k u d).conv0 = s.conv0 := rfl
@[simp] theorem emit_conv1 (k : OutKind) (u : Nat) (d : List Nat) : (s.emit k u d).conv1 = s.conv1 := rfl
@[simp] theorem emit_dsInputs (k : OutKind) (u : Nat) (d : List Nat) : (s.emit k u d).dsInputs = s.dsInputs := rfl
@[simp] theorem emit_hv (k : OutKind) (u : Nat) (d : List Nat) : (s.emit k u d).hv = s.hv := rfl
@[simp] theorem emit_zones (k : OutKind) (u : Nat) (d : List Nat) : (s.emit k u d).zones = s.zones := rfl
@[simp] theorem emit_nip (k : OutKind) (u : Nat) (d : List Nat) : (s.emit k u d).nip = s.nip := rfl
@[simp] theorem emit_clocks (k : OutKind) (u : Nat) (d : List Nat) : (s.emit k u d).clocks = s.clocks := rfl
@[simp] theorem emit_dividers (k : OutKind) (u : Nat) (d : List Nat) : (s.emit k u d).dividers = s.dividers := rfl
@[simp] theorem emit_group (k : OutKind) (u : Nat) (d : List Nat) : (s.emit k u d).group = s.group := rfl
@[simp] theorem emit_haling (k : OutKind) (u : Nat) (d : List Nat) : (s.emit k u d).haling = s.haling := rfl
@[simp] theorem emit_power (k : OutKind) (u : Nat) (d : List Nat) : (s.emit k u d).power = s.power := rfl
@[simp] theorem emit_thermal (k : OutKind) (u : Nat) (d : List Nat) : (s.emit k u d).thermal = s.thermal := rfl
@[simp] theorem emit_thermalCeiling (k : OutKind) (u : Nat) (d : List Nat) : (s.emit k u d).thermalCeiling = s.thermalCeiling := rfl
@[simp] theorem emit_flash (k : OutKind) (u : Nat) (d : List Nat) : (s.emit k u d).flash = s.flash := rfl
@[simp] theorem emit_straps (k : OutKind) (u : Nat) (d : List Nat) : (s.emit k u d).straps = s.straps := rfl
@[simp] theorem emit_jtag (k : OutKind) (u : Nat) (d : List Nat) : (s.emit k u d).jtag = s.jtag := rfl
@[simp] theorem emit_intake (k : OutKind) (u : Nat) (d : List Nat) : (s.emit k u d).intake = s.intake := rfl
@[simp] theorem emit_store (k : OutKind) (u : Nat) (d : List Nat) : (s.emit k u d).store = s.store := rfl
@[simp] theorem emit_hazard (k : OutKind) (u : Nat) (d : List Nat) : (s.emit k u d).hazard = s.hazard := rfl
@[simp] theorem emit_sealed (k : OutKind) (u : Nat) (d : List Nat) : (s.emit k u d).sealed = s.sealed := rfl
@[simp] theorem emit_fuses (k : OutKind) (u : Nat) (d : List Nat) : (s.emit k u d).fuses = s.fuses := rfl
@[simp] theorem emit_faults (k : OutKind) (u : Nat) (d : List Nat) : (s.emit k u d).faults = s.faults := rfl
@[simp] theorem emit_dies (k : OutKind) (u : Nat) (d : List Nat) : (s.emit k u d).dies = s.dies := rfl
@[simp] theorem emit_inject (k : OutKind) (u : Nat) (d : List Nat) : (s.emit k u d).inject = s.inject := rfl
@[simp] theorem emit_nmt (k : OutKind) (u : Nat) (d : List Nat) : (s.emit k u d).nmt = s.nmt := rfl
@[simp] theorem emit_can (k : OutKind) (u : Nat) (d : List Nat) : (s.emit k u d).can = s.can := rfl
@[simp] theorem emit_usdo (k : OutKind) (u : Nat) (d : List Nat) : (s.emit k u d).usdo = s.usdo := rfl
@[simp] theorem emit_mirrors (k : OutKind) (u : Nat) (d : List Nat) : (s.emit k u d).mirrors = s.mirrors := rfl
@[simp] theorem emit_mirrorQueue (k : OutKind) (u : Nat) (d : List Nat) : (s.emit k u d).mirrorQueue = s.mirrorQueue := rfl
@[simp] theorem emit_trace (k : OutKind) (u : Nat) (d : List Nat) : (s.emit k u d).trace = s.trace := rfl

/-! `setCfg` changes `od` alone. -/

@[simp] theorem setCfg_pending (i j v : Nat) : (s.setCfg i j v).pending = s.pending := rfl
@[simp] theorem setCfg_resp (i j v : Nat) : (s.setCfg i j v).resp = s.resp := rfl
@[simp] theorem setCfg_answer (i j v : Nat) : (s.setCfg i j v).answer = s.answer := rfl
@[simp] theorem setCfg_out (i j v : Nat) : (s.setCfg i j v).out = s.out := rfl
@[simp] theorem setCfg_freeCount (i j v : Nat) : (s.setCfg i j v).freeCount = s.freeCount := rfl
@[simp] theorem setCfg_variant (i j v : Nat) : (s.setCfg i j v).variant = s.variant := rfl
@[simp] theorem setCfg_timebase (i j v : Nat) : (s.setCfg i j v).timebase = s.timebase := rfl
@[simp] theorem setCfg_domains (i j v : Nat) : (s.setCfg i j v).domains = s.domains := rfl
@[simp] theorem setCfg_web (i j v : Nat) : (s.setCfg i j v).web = s.web := rfl
@[simp] theorem setCfg_tt (i j v : Nat) : (s.setCfg i j v).tt = s.tt := rfl
@[simp] theorem setCfg_slots (i j v : Nat) : (s.setCfg i j v).slots = s.slots := rfl
@[simp] theorem setCfg_stations (i j v : Nat) : (s.setCfg i j v).stations = s.stations := rfl
@[simp] theorem setCfg_record (i j v : Nat) : (s.setCfg i j v).record = s.record := rfl
@[simp] theorem setCfg_tones (i j v : Nat) : (s.setCfg i j v).tones = s.tones := rfl
@[simp] theorem setCfg_leading (i j v : Nat) : (s.setCfg i j v).leading = s.leading := rfl
@[simp] theorem setCfg_stitches (i j v : Nat) : (s.setCfg i j v).stitches = s.stitches := rfl
@[simp] theorem setCfg_lines (i j v : Nat) : (s.setCfg i j v).lines = s.lines := rfl
@[simp] theorem setCfg_played (i j v : Nat) : (s.setCfg i j v).played = s.played := rfl
@[simp] theorem setCfg_lanes (i j v : Nat) : (s.setCfg i j v).lanes = s.lanes := rfl
@[simp] theorem setCfg_laneResult (i j v : Nat) : (s.setCfg i j v).laneResult = s.laneResult := rfl
@[simp] theorem setCfg_laneCmd (i j v : Nat) : (s.setCfg i j v).laneCmd = s.laneCmd := rfl
@[simp] theorem setCfg_flips (i j v : Nat) : (s.setCfg i j v).flips = s.flips := rfl
@[simp] theorem setCfg_blends (i j v : Nat) : (s.setCfg i j v).blends = s.blends := rfl
@[simp] theorem setCfg_scanners (i j v : Nat) : (s.setCfg i j v).scanners = s.scanners := rfl
@[simp] theorem setCfg_links (i j v : Nat) : (s.setCfg i j v).links = s.links := rfl
@[simp] theorem setCfg_chans (i j v : Nat) : (s.setCfg i j v).chans = s.chans := rfl
@[simp] theorem setCfg_latches (i j v : Nat) : (s.setCfg i j v).latches = s.latches := rfl
@[simp] theorem setCfg_compares (i j v : Nat) : (s.setCfg i j v).compares = s.compares := rfl
@[simp] theorem setCfg_axes (i j v : Nat) : (s.setCfg i j v).axes = s.axes := rfl
@[simp] theorem setCfg_transport (i j v : Nat) : (s.setCfg i j v).transport = s.transport := rfl
@[simp] theorem setCfg_slotsL (i j v : Nat) : (s.setCfg i j v).slotsL = s.slotsL := rfl
@[simp] theorem setCfg_conv0 (i j v : Nat) : (s.setCfg i j v).conv0 = s.conv0 := rfl
@[simp] theorem setCfg_conv1 (i j v : Nat) : (s.setCfg i j v).conv1 = s.conv1 := rfl
@[simp] theorem setCfg_dsInputs (i j v : Nat) : (s.setCfg i j v).dsInputs = s.dsInputs := rfl
@[simp] theorem setCfg_hv (i j v : Nat) : (s.setCfg i j v).hv = s.hv := rfl
@[simp] theorem setCfg_zones (i j v : Nat) : (s.setCfg i j v).zones = s.zones := rfl
@[simp] theorem setCfg_nip (i j v : Nat) : (s.setCfg i j v).nip = s.nip := rfl
@[simp] theorem setCfg_clocks (i j v : Nat) : (s.setCfg i j v).clocks = s.clocks := rfl
@[simp] theorem setCfg_dividers (i j v : Nat) : (s.setCfg i j v).dividers = s.dividers := rfl
@[simp] theorem setCfg_group (i j v : Nat) : (s.setCfg i j v).group = s.group := rfl
@[simp] theorem setCfg_haling (i j v : Nat) : (s.setCfg i j v).haling = s.haling := rfl
@[simp] theorem setCfg_power (i j v : Nat) : (s.setCfg i j v).power = s.power := rfl
@[simp] theorem setCfg_thermal (i j v : Nat) : (s.setCfg i j v).thermal = s.thermal := rfl
@[simp] theorem setCfg_thermalCeiling (i j v : Nat) : (s.setCfg i j v).thermalCeiling = s.thermalCeiling := rfl
@[simp] theorem setCfg_flash (i j v : Nat) : (s.setCfg i j v).flash = s.flash := rfl
@[simp] theorem setCfg_straps (i j v : Nat) : (s.setCfg i j v).straps = s.straps := rfl
@[simp] theorem setCfg_jtag (i j v : Nat) : (s.setCfg i j v).jtag = s.jtag := rfl
@[simp] theorem setCfg_intake (i j v : Nat) : (s.setCfg i j v).intake = s.intake := rfl
@[simp] theorem setCfg_store (i j v : Nat) : (s.setCfg i j v).store = s.store := rfl
@[simp] theorem setCfg_hazard (i j v : Nat) : (s.setCfg i j v).hazard = s.hazard := rfl
@[simp] theorem setCfg_sealed (i j v : Nat) : (s.setCfg i j v).sealed = s.sealed := rfl
@[simp] theorem setCfg_fuses (i j v : Nat) : (s.setCfg i j v).fuses = s.fuses := rfl
@[simp] theorem setCfg_faults (i j v : Nat) : (s.setCfg i j v).faults = s.faults := rfl
@[simp] theorem setCfg_dies (i j v : Nat) : (s.setCfg i j v).dies = s.dies := rfl
@[simp] theorem setCfg_inject (i j v : Nat) : (s.setCfg i j v).inject = s.inject := rfl
@[simp] theorem setCfg_nmt (i j v : Nat) : (s.setCfg i j v).nmt = s.nmt := rfl
@[simp] theorem setCfg_can (i j v : Nat) : (s.setCfg i j v).can = s.can := rfl
@[simp] theorem setCfg_usdo (i j v : Nat) : (s.setCfg i j v).usdo = s.usdo := rfl
@[simp] theorem setCfg_mirrors (i j v : Nat) : (s.setCfg i j v).mirrors = s.mirrors := rfl
@[simp] theorem setCfg_mirrorQueue (i j v : Nat) : (s.setCfg i j v).mirrorQueue = s.mirrorQueue := rfl
@[simp] theorem setCfg_trace (i j v : Nat) : (s.setCfg i j v).trace = s.trace := rfl

/-! `setDomain` changes `domains` alone. -/

@[simp] theorem setDomain_pending (i j : Nat) (b : List Nat) : (s.setDomain i j b).pending = s.pending := rfl
@[simp] theorem setDomain_resp (i j : Nat) (b : List Nat) : (s.setDomain i j b).resp = s.resp := rfl
@[simp] theorem setDomain_answer (i j : Nat) (b : List Nat) : (s.setDomain i j b).answer = s.answer := rfl
@[simp] theorem setDomain_out (i j : Nat) (b : List Nat) : (s.setDomain i j b).out = s.out := rfl
@[simp] theorem setDomain_freeCount (i j : Nat) (b : List Nat) : (s.setDomain i j b).freeCount = s.freeCount := rfl
@[simp] theorem setDomain_variant (i j : Nat) (b : List Nat) : (s.setDomain i j b).variant = s.variant := rfl
@[simp] theorem setDomain_timebase (i j : Nat) (b : List Nat) : (s.setDomain i j b).timebase = s.timebase := rfl
@[simp] theorem setDomain_od (i j : Nat) (b : List Nat) : (s.setDomain i j b).od = s.od := rfl
@[simp] theorem setDomain_web (i j : Nat) (b : List Nat) : (s.setDomain i j b).web = s.web := rfl
@[simp] theorem setDomain_tt (i j : Nat) (b : List Nat) : (s.setDomain i j b).tt = s.tt := rfl
@[simp] theorem setDomain_slots (i j : Nat) (b : List Nat) : (s.setDomain i j b).slots = s.slots := rfl
@[simp] theorem setDomain_stations (i j : Nat) (b : List Nat) : (s.setDomain i j b).stations = s.stations := rfl
@[simp] theorem setDomain_record (i j : Nat) (b : List Nat) : (s.setDomain i j b).record = s.record := rfl
@[simp] theorem setDomain_tones (i j : Nat) (b : List Nat) : (s.setDomain i j b).tones = s.tones := rfl
@[simp] theorem setDomain_leading (i j : Nat) (b : List Nat) : (s.setDomain i j b).leading = s.leading := rfl
@[simp] theorem setDomain_stitches (i j : Nat) (b : List Nat) : (s.setDomain i j b).stitches = s.stitches := rfl
@[simp] theorem setDomain_lines (i j : Nat) (b : List Nat) : (s.setDomain i j b).lines = s.lines := rfl
@[simp] theorem setDomain_played (i j : Nat) (b : List Nat) : (s.setDomain i j b).played = s.played := rfl
@[simp] theorem setDomain_lanes (i j : Nat) (b : List Nat) : (s.setDomain i j b).lanes = s.lanes := rfl
@[simp] theorem setDomain_laneResult (i j : Nat) (b : List Nat) : (s.setDomain i j b).laneResult = s.laneResult := rfl
@[simp] theorem setDomain_laneCmd (i j : Nat) (b : List Nat) : (s.setDomain i j b).laneCmd = s.laneCmd := rfl
@[simp] theorem setDomain_flips (i j : Nat) (b : List Nat) : (s.setDomain i j b).flips = s.flips := rfl
@[simp] theorem setDomain_blends (i j : Nat) (b : List Nat) : (s.setDomain i j b).blends = s.blends := rfl
@[simp] theorem setDomain_scanners (i j : Nat) (b : List Nat) : (s.setDomain i j b).scanners = s.scanners := rfl
@[simp] theorem setDomain_links (i j : Nat) (b : List Nat) : (s.setDomain i j b).links = s.links := rfl
@[simp] theorem setDomain_chans (i j : Nat) (b : List Nat) : (s.setDomain i j b).chans = s.chans := rfl
@[simp] theorem setDomain_latches (i j : Nat) (b : List Nat) : (s.setDomain i j b).latches = s.latches := rfl
@[simp] theorem setDomain_compares (i j : Nat) (b : List Nat) : (s.setDomain i j b).compares = s.compares := rfl
@[simp] theorem setDomain_axes (i j : Nat) (b : List Nat) : (s.setDomain i j b).axes = s.axes := rfl
@[simp] theorem setDomain_transport (i j : Nat) (b : List Nat) : (s.setDomain i j b).transport = s.transport := rfl
@[simp] theorem setDomain_slotsL (i j : Nat) (b : List Nat) : (s.setDomain i j b).slotsL = s.slotsL := rfl
@[simp] theorem setDomain_conv0 (i j : Nat) (b : List Nat) : (s.setDomain i j b).conv0 = s.conv0 := rfl
@[simp] theorem setDomain_conv1 (i j : Nat) (b : List Nat) : (s.setDomain i j b).conv1 = s.conv1 := rfl
@[simp] theorem setDomain_dsInputs (i j : Nat) (b : List Nat) : (s.setDomain i j b).dsInputs = s.dsInputs := rfl
@[simp] theorem setDomain_hv (i j : Nat) (b : List Nat) : (s.setDomain i j b).hv = s.hv := rfl
@[simp] theorem setDomain_zones (i j : Nat) (b : List Nat) : (s.setDomain i j b).zones = s.zones := rfl
@[simp] theorem setDomain_nip (i j : Nat) (b : List Nat) : (s.setDomain i j b).nip = s.nip := rfl
@[simp] theorem setDomain_clocks (i j : Nat) (b : List Nat) : (s.setDomain i j b).clocks = s.clocks := rfl
@[simp] theorem setDomain_dividers (i j : Nat) (b : List Nat) : (s.setDomain i j b).dividers = s.dividers := rfl
@[simp] theorem setDomain_group (i j : Nat) (b : List Nat) : (s.setDomain i j b).group = s.group := rfl
@[simp] theorem setDomain_haling (i j : Nat) (b : List Nat) : (s.setDomain i j b).haling = s.haling := rfl
@[simp] theorem setDomain_power (i j : Nat) (b : List Nat) : (s.setDomain i j b).power = s.power := rfl
@[simp] theorem setDomain_thermal (i j : Nat) (b : List Nat) : (s.setDomain i j b).thermal = s.thermal := rfl
@[simp] theorem setDomain_thermalCeiling (i j : Nat) (b : List Nat) : (s.setDomain i j b).thermalCeiling = s.thermalCeiling := rfl
@[simp] theorem setDomain_flash (i j : Nat) (b : List Nat) : (s.setDomain i j b).flash = s.flash := rfl
@[simp] theorem setDomain_straps (i j : Nat) (b : List Nat) : (s.setDomain i j b).straps = s.straps := rfl
@[simp] theorem setDomain_jtag (i j : Nat) (b : List Nat) : (s.setDomain i j b).jtag = s.jtag := rfl
@[simp] theorem setDomain_intake (i j : Nat) (b : List Nat) : (s.setDomain i j b).intake = s.intake := rfl
@[simp] theorem setDomain_store (i j : Nat) (b : List Nat) : (s.setDomain i j b).store = s.store := rfl
@[simp] theorem setDomain_hazard (i j : Nat) (b : List Nat) : (s.setDomain i j b).hazard = s.hazard := rfl
@[simp] theorem setDomain_sealed (i j : Nat) (b : List Nat) : (s.setDomain i j b).sealed = s.sealed := rfl
@[simp] theorem setDomain_fuses (i j : Nat) (b : List Nat) : (s.setDomain i j b).fuses = s.fuses := rfl
@[simp] theorem setDomain_faults (i j : Nat) (b : List Nat) : (s.setDomain i j b).faults = s.faults := rfl
@[simp] theorem setDomain_dies (i j : Nat) (b : List Nat) : (s.setDomain i j b).dies = s.dies := rfl
@[simp] theorem setDomain_inject (i j : Nat) (b : List Nat) : (s.setDomain i j b).inject = s.inject := rfl
@[simp] theorem setDomain_nmt (i j : Nat) (b : List Nat) : (s.setDomain i j b).nmt = s.nmt := rfl
@[simp] theorem setDomain_can (i j : Nat) (b : List Nat) : (s.setDomain i j b).can = s.can := rfl
@[simp] theorem setDomain_usdo (i j : Nat) (b : List Nat) : (s.setDomain i j b).usdo = s.usdo := rfl
@[simp] theorem setDomain_mirrors (i j : Nat) (b : List Nat) : (s.setDomain i j b).mirrors = s.mirrors := rfl
@[simp] theorem setDomain_mirrorQueue (i j : Nat) (b : List Nat) : (s.setDomain i j b).mirrorQueue = s.mirrorQueue := rfl
@[simp] theorem setDomain_trace (i j : Nat) (b : List Nat) : (s.setDomain i j b).trace = s.trace := rfl

/-! `refuse` changes `resp` alone. -/

@[simp] theorem refuse_pending (a : Abort) : (s.refuse a).pending = s.pending := rfl
@[simp] theorem refuse_answer (a : Abort) : (s.refuse a).answer = s.answer := rfl
@[simp] theorem refuse_out (a : Abort) : (s.refuse a).out = s.out := rfl
@[simp] theorem refuse_freeCount (a : Abort) : (s.refuse a).freeCount = s.freeCount := rfl
@[simp] theorem refuse_variant (a : Abort) : (s.refuse a).variant = s.variant := rfl
@[simp] theorem refuse_timebase (a : Abort) : (s.refuse a).timebase = s.timebase := rfl
@[simp] theorem refuse_od (a : Abort) : (s.refuse a).od = s.od := rfl
@[simp] theorem refuse_domains (a : Abort) : (s.refuse a).domains = s.domains := rfl
@[simp] theorem refuse_web (a : Abort) : (s.refuse a).web = s.web := rfl
@[simp] theorem refuse_tt (a : Abort) : (s.refuse a).tt = s.tt := rfl
@[simp] theorem refuse_slots (a : Abort) : (s.refuse a).slots = s.slots := rfl
@[simp] theorem refuse_stations (a : Abort) : (s.refuse a).stations = s.stations := rfl
@[simp] theorem refuse_record (a : Abort) : (s.refuse a).record = s.record := rfl
@[simp] theorem refuse_tones (a : Abort) : (s.refuse a).tones = s.tones := rfl
@[simp] theorem refuse_leading (a : Abort) : (s.refuse a).leading = s.leading := rfl
@[simp] theorem refuse_stitches (a : Abort) : (s.refuse a).stitches = s.stitches := rfl
@[simp] theorem refuse_lines (a : Abort) : (s.refuse a).lines = s.lines := rfl
@[simp] theorem refuse_played (a : Abort) : (s.refuse a).played = s.played := rfl
@[simp] theorem refuse_lanes (a : Abort) : (s.refuse a).lanes = s.lanes := rfl
@[simp] theorem refuse_laneResult (a : Abort) : (s.refuse a).laneResult = s.laneResult := rfl
@[simp] theorem refuse_laneCmd (a : Abort) : (s.refuse a).laneCmd = s.laneCmd := rfl
@[simp] theorem refuse_flips (a : Abort) : (s.refuse a).flips = s.flips := rfl
@[simp] theorem refuse_blends (a : Abort) : (s.refuse a).blends = s.blends := rfl
@[simp] theorem refuse_scanners (a : Abort) : (s.refuse a).scanners = s.scanners := rfl
@[simp] theorem refuse_links (a : Abort) : (s.refuse a).links = s.links := rfl
@[simp] theorem refuse_chans (a : Abort) : (s.refuse a).chans = s.chans := rfl
@[simp] theorem refuse_latches (a : Abort) : (s.refuse a).latches = s.latches := rfl
@[simp] theorem refuse_compares (a : Abort) : (s.refuse a).compares = s.compares := rfl
@[simp] theorem refuse_axes (a : Abort) : (s.refuse a).axes = s.axes := rfl
@[simp] theorem refuse_transport (a : Abort) : (s.refuse a).transport = s.transport := rfl
@[simp] theorem refuse_slotsL (a : Abort) : (s.refuse a).slotsL = s.slotsL := rfl
@[simp] theorem refuse_conv0 (a : Abort) : (s.refuse a).conv0 = s.conv0 := rfl
@[simp] theorem refuse_conv1 (a : Abort) : (s.refuse a).conv1 = s.conv1 := rfl
@[simp] theorem refuse_dsInputs (a : Abort) : (s.refuse a).dsInputs = s.dsInputs := rfl
@[simp] theorem refuse_hv (a : Abort) : (s.refuse a).hv = s.hv := rfl
@[simp] theorem refuse_zones (a : Abort) : (s.refuse a).zones = s.zones := rfl
@[simp] theorem refuse_nip (a : Abort) : (s.refuse a).nip = s.nip := rfl
@[simp] theorem refuse_clocks (a : Abort) : (s.refuse a).clocks = s.clocks := rfl
@[simp] theorem refuse_dividers (a : Abort) : (s.refuse a).dividers = s.dividers := rfl
@[simp] theorem refuse_group (a : Abort) : (s.refuse a).group = s.group := rfl
@[simp] theorem refuse_haling (a : Abort) : (s.refuse a).haling = s.haling := rfl
@[simp] theorem refuse_power (a : Abort) : (s.refuse a).power = s.power := rfl
@[simp] theorem refuse_thermal (a : Abort) : (s.refuse a).thermal = s.thermal := rfl
@[simp] theorem refuse_thermalCeiling (a : Abort) : (s.refuse a).thermalCeiling = s.thermalCeiling := rfl
@[simp] theorem refuse_flash (a : Abort) : (s.refuse a).flash = s.flash := rfl
@[simp] theorem refuse_straps (a : Abort) : (s.refuse a).straps = s.straps := rfl
@[simp] theorem refuse_jtag (a : Abort) : (s.refuse a).jtag = s.jtag := rfl
@[simp] theorem refuse_intake (a : Abort) : (s.refuse a).intake = s.intake := rfl
@[simp] theorem refuse_store (a : Abort) : (s.refuse a).store = s.store := rfl
@[simp] theorem refuse_hazard (a : Abort) : (s.refuse a).hazard = s.hazard := rfl
@[simp] theorem refuse_sealed (a : Abort) : (s.refuse a).sealed = s.sealed := rfl
@[simp] theorem refuse_fuses (a : Abort) : (s.refuse a).fuses = s.fuses := rfl
@[simp] theorem refuse_faults (a : Abort) : (s.refuse a).faults = s.faults := rfl
@[simp] theorem refuse_dies (a : Abort) : (s.refuse a).dies = s.dies := rfl
@[simp] theorem refuse_inject (a : Abort) : (s.refuse a).inject = s.inject := rfl
@[simp] theorem refuse_nmt (a : Abort) : (s.refuse a).nmt = s.nmt := rfl
@[simp] theorem refuse_can (a : Abort) : (s.refuse a).can = s.can := rfl
@[simp] theorem refuse_usdo (a : Abort) : (s.refuse a).usdo = s.usdo := rfl
@[simp] theorem refuse_mirrors (a : Abort) : (s.refuse a).mirrors = s.mirrors := rfl
@[simp] theorem refuse_mirrorQueue (a : Abort) : (s.refuse a).mirrorQueue = s.mirrorQueue := rfl
@[simp] theorem refuse_trace (a : Abort) : (s.refuse a).trace = s.trace := rfl

/-! `undetain` changes `faults` alone. -/

@[simp] theorem undetain_pending (u d i : Nat) : (s.undetain u d i).pending = s.pending := rfl
@[simp] theorem undetain_resp (u d i : Nat) : (s.undetain u d i).resp = s.resp := rfl
@[simp] theorem undetain_answer (u d i : Nat) : (s.undetain u d i).answer = s.answer := rfl
@[simp] theorem undetain_out (u d i : Nat) : (s.undetain u d i).out = s.out := rfl
@[simp] theorem undetain_freeCount (u d i : Nat) : (s.undetain u d i).freeCount = s.freeCount := rfl
@[simp] theorem undetain_variant (u d i : Nat) : (s.undetain u d i).variant = s.variant := rfl
@[simp] theorem undetain_timebase (u d i : Nat) : (s.undetain u d i).timebase = s.timebase := rfl
@[simp] theorem undetain_od (u d i : Nat) : (s.undetain u d i).od = s.od := rfl
@[simp] theorem undetain_domains (u d i : Nat) : (s.undetain u d i).domains = s.domains := rfl
@[simp] theorem undetain_web (u d i : Nat) : (s.undetain u d i).web = s.web := rfl
@[simp] theorem undetain_tt (u d i : Nat) : (s.undetain u d i).tt = s.tt := rfl
@[simp] theorem undetain_slots (u d i : Nat) : (s.undetain u d i).slots = s.slots := rfl
@[simp] theorem undetain_stations (u d i : Nat) : (s.undetain u d i).stations = s.stations := rfl
@[simp] theorem undetain_record (u d i : Nat) : (s.undetain u d i).record = s.record := rfl
@[simp] theorem undetain_tones (u d i : Nat) : (s.undetain u d i).tones = s.tones := rfl
@[simp] theorem undetain_leading (u d i : Nat) : (s.undetain u d i).leading = s.leading := rfl
@[simp] theorem undetain_stitches (u d i : Nat) : (s.undetain u d i).stitches = s.stitches := rfl
@[simp] theorem undetain_lines (u d i : Nat) : (s.undetain u d i).lines = s.lines := rfl
@[simp] theorem undetain_played (u d i : Nat) : (s.undetain u d i).played = s.played := rfl
@[simp] theorem undetain_lanes (u d i : Nat) : (s.undetain u d i).lanes = s.lanes := rfl
@[simp] theorem undetain_laneResult (u d i : Nat) : (s.undetain u d i).laneResult = s.laneResult := rfl
@[simp] theorem undetain_laneCmd (u d i : Nat) : (s.undetain u d i).laneCmd = s.laneCmd := rfl
@[simp] theorem undetain_flips (u d i : Nat) : (s.undetain u d i).flips = s.flips := rfl
@[simp] theorem undetain_blends (u d i : Nat) : (s.undetain u d i).blends = s.blends := rfl
@[simp] theorem undetain_scanners (u d i : Nat) : (s.undetain u d i).scanners = s.scanners := rfl
@[simp] theorem undetain_links (u d i : Nat) : (s.undetain u d i).links = s.links := rfl
@[simp] theorem undetain_chans (u d i : Nat) : (s.undetain u d i).chans = s.chans := rfl
@[simp] theorem undetain_latches (u d i : Nat) : (s.undetain u d i).latches = s.latches := rfl
@[simp] theorem undetain_compares (u d i : Nat) : (s.undetain u d i).compares = s.compares := rfl
@[simp] theorem undetain_axes (u d i : Nat) : (s.undetain u d i).axes = s.axes := rfl
@[simp] theorem undetain_transport (u d i : Nat) : (s.undetain u d i).transport = s.transport := rfl
@[simp] theorem undetain_slotsL (u d i : Nat) : (s.undetain u d i).slotsL = s.slotsL := rfl
@[simp] theorem undetain_conv0 (u d i : Nat) : (s.undetain u d i).conv0 = s.conv0 := rfl
@[simp] theorem undetain_conv1 (u d i : Nat) : (s.undetain u d i).conv1 = s.conv1 := rfl
@[simp] theorem undetain_dsInputs (u d i : Nat) : (s.undetain u d i).dsInputs = s.dsInputs := rfl
@[simp] theorem undetain_hv (u d i : Nat) : (s.undetain u d i).hv = s.hv := rfl
@[simp] theorem undetain_zones (u d i : Nat) : (s.undetain u d i).zones = s.zones := rfl
@[simp] theorem undetain_nip (u d i : Nat) : (s.undetain u d i).nip = s.nip := rfl
@[simp] theorem undetain_clocks (u d i : Nat) : (s.undetain u d i).clocks = s.clocks := rfl
@[simp] theorem undetain_dividers (u d i : Nat) : (s.undetain u d i).dividers = s.dividers := rfl
@[simp] theorem undetain_group (u d i : Nat) : (s.undetain u d i).group = s.group := rfl
@[simp] theorem undetain_haling (u d i : Nat) : (s.undetain u d i).haling = s.haling := rfl
@[simp] theorem undetain_power (u d i : Nat) : (s.undetain u d i).power = s.power := rfl
@[simp] theorem undetain_thermal (u d i : Nat) : (s.undetain u d i).thermal = s.thermal := rfl
@[simp] theorem undetain_thermalCeiling (u d i : Nat) : (s.undetain u d i).thermalCeiling = s.thermalCeiling := rfl
@[simp] theorem undetain_flash (u d i : Nat) : (s.undetain u d i).flash = s.flash := rfl
@[simp] theorem undetain_straps (u d i : Nat) : (s.undetain u d i).straps = s.straps := rfl
@[simp] theorem undetain_jtag (u d i : Nat) : (s.undetain u d i).jtag = s.jtag := rfl
@[simp] theorem undetain_intake (u d i : Nat) : (s.undetain u d i).intake = s.intake := rfl
@[simp] theorem undetain_store (u d i : Nat) : (s.undetain u d i).store = s.store := rfl
@[simp] theorem undetain_hazard (u d i : Nat) : (s.undetain u d i).hazard = s.hazard := rfl
@[simp] theorem undetain_sealed (u d i : Nat) : (s.undetain u d i).sealed = s.sealed := rfl
@[simp] theorem undetain_fuses (u d i : Nat) : (s.undetain u d i).fuses = s.fuses := rfl
@[simp] theorem undetain_dies (u d i : Nat) : (s.undetain u d i).dies = s.dies := rfl
@[simp] theorem undetain_inject (u d i : Nat) : (s.undetain u d i).inject = s.inject := rfl
@[simp] theorem undetain_nmt (u d i : Nat) : (s.undetain u d i).nmt = s.nmt := rfl
@[simp] theorem undetain_can (u d i : Nat) : (s.undetain u d i).can = s.can := rfl
@[simp] theorem undetain_usdo (u d i : Nat) : (s.undetain u d i).usdo = s.usdo := rfl
@[simp] theorem undetain_mirrors (u d i : Nat) : (s.undetain u d i).mirrors = s.mirrors := rfl
@[simp] theorem undetain_mirrorQueue (u d i : Nat) : (s.undetain u d i).mirrorQueue = s.mirrorQueue := rfl
@[simp] theorem undetain_trace (u d i : Nat) : (s.undetain u d i).trace = s.trace := rfl

/-! `modLane` changes `lanes` alone. -/

@[simp] theorem modLane_pending (l : Nat) (f : Lane → Lane) : (s.modLane l f).pending = s.pending := rfl
@[simp] theorem modLane_resp (l : Nat) (f : Lane → Lane) : (s.modLane l f).resp = s.resp := rfl
@[simp] theorem modLane_answer (l : Nat) (f : Lane → Lane) : (s.modLane l f).answer = s.answer := rfl
@[simp] theorem modLane_out (l : Nat) (f : Lane → Lane) : (s.modLane l f).out = s.out := rfl
@[simp] theorem modLane_freeCount (l : Nat) (f : Lane → Lane) : (s.modLane l f).freeCount = s.freeCount := rfl
@[simp] theorem modLane_variant (l : Nat) (f : Lane → Lane) : (s.modLane l f).variant = s.variant := rfl
@[simp] theorem modLane_timebase (l : Nat) (f : Lane → Lane) : (s.modLane l f).timebase = s.timebase := rfl
@[simp] theorem modLane_od (l : Nat) (f : Lane → Lane) : (s.modLane l f).od = s.od := rfl
@[simp] theorem modLane_domains (l : Nat) (f : Lane → Lane) : (s.modLane l f).domains = s.domains := rfl
@[simp] theorem modLane_web (l : Nat) (f : Lane → Lane) : (s.modLane l f).web = s.web := rfl
@[simp] theorem modLane_tt (l : Nat) (f : Lane → Lane) : (s.modLane l f).tt = s.tt := rfl
@[simp] theorem modLane_slots (l : Nat) (f : Lane → Lane) : (s.modLane l f).slots = s.slots := rfl
@[simp] theorem modLane_stations (l : Nat) (f : Lane → Lane) : (s.modLane l f).stations = s.stations := rfl
@[simp] theorem modLane_record (l : Nat) (f : Lane → Lane) : (s.modLane l f).record = s.record := rfl
@[simp] theorem modLane_tones (l : Nat) (f : Lane → Lane) : (s.modLane l f).tones = s.tones := rfl
@[simp] theorem modLane_leading (l : Nat) (f : Lane → Lane) : (s.modLane l f).leading = s.leading := rfl
@[simp] theorem modLane_stitches (l : Nat) (f : Lane → Lane) : (s.modLane l f).stitches = s.stitches := rfl
@[simp] theorem modLane_lines (l : Nat) (f : Lane → Lane) : (s.modLane l f).lines = s.lines := rfl
@[simp] theorem modLane_played (l : Nat) (f : Lane → Lane) : (s.modLane l f).played = s.played := rfl
@[simp] theorem modLane_laneResult (l : Nat) (f : Lane → Lane) : (s.modLane l f).laneResult = s.laneResult := rfl
@[simp] theorem modLane_laneCmd (l : Nat) (f : Lane → Lane) : (s.modLane l f).laneCmd = s.laneCmd := rfl
@[simp] theorem modLane_flips (l : Nat) (f : Lane → Lane) : (s.modLane l f).flips = s.flips := rfl
@[simp] theorem modLane_blends (l : Nat) (f : Lane → Lane) : (s.modLane l f).blends = s.blends := rfl
@[simp] theorem modLane_scanners (l : Nat) (f : Lane → Lane) : (s.modLane l f).scanners = s.scanners := rfl
@[simp] theorem modLane_links (l : Nat) (f : Lane → Lane) : (s.modLane l f).links = s.links := rfl
@[simp] theorem modLane_chans (l : Nat) (f : Lane → Lane) : (s.modLane l f).chans = s.chans := rfl
@[simp] theorem modLane_latches (l : Nat) (f : Lane → Lane) : (s.modLane l f).latches = s.latches := rfl
@[simp] theorem modLane_compares (l : Nat) (f : Lane → Lane) : (s.modLane l f).compares = s.compares := rfl
@[simp] theorem modLane_axes (l : Nat) (f : Lane → Lane) : (s.modLane l f).axes = s.axes := rfl
@[simp] theorem modLane_transport (l : Nat) (f : Lane → Lane) : (s.modLane l f).transport = s.transport := rfl
@[simp] theorem modLane_slotsL (l : Nat) (f : Lane → Lane) : (s.modLane l f).slotsL = s.slotsL := rfl
@[simp] theorem modLane_conv0 (l : Nat) (f : Lane → Lane) : (s.modLane l f).conv0 = s.conv0 := rfl
@[simp] theorem modLane_conv1 (l : Nat) (f : Lane → Lane) : (s.modLane l f).conv1 = s.conv1 := rfl
@[simp] theorem modLane_dsInputs (l : Nat) (f : Lane → Lane) : (s.modLane l f).dsInputs = s.dsInputs := rfl
@[simp] theorem modLane_hv (l : Nat) (f : Lane → Lane) : (s.modLane l f).hv = s.hv := rfl
@[simp] theorem modLane_zones (l : Nat) (f : Lane → Lane) : (s.modLane l f).zones = s.zones := rfl
@[simp] theorem modLane_nip (l : Nat) (f : Lane → Lane) : (s.modLane l f).nip = s.nip := rfl
@[simp] theorem modLane_clocks (l : Nat) (f : Lane → Lane) : (s.modLane l f).clocks = s.clocks := rfl
@[simp] theorem modLane_dividers (l : Nat) (f : Lane → Lane) : (s.modLane l f).dividers = s.dividers := rfl
@[simp] theorem modLane_group (l : Nat) (f : Lane → Lane) : (s.modLane l f).group = s.group := rfl
@[simp] theorem modLane_haling (l : Nat) (f : Lane → Lane) : (s.modLane l f).haling = s.haling := rfl
@[simp] theorem modLane_power (l : Nat) (f : Lane → Lane) : (s.modLane l f).power = s.power := rfl
@[simp] theorem modLane_thermal (l : Nat) (f : Lane → Lane) : (s.modLane l f).thermal = s.thermal := rfl
@[simp] theorem modLane_thermalCeiling (l : Nat) (f : Lane → Lane) : (s.modLane l f).thermalCeiling = s.thermalCeiling := rfl
@[simp] theorem modLane_flash (l : Nat) (f : Lane → Lane) : (s.modLane l f).flash = s.flash := rfl
@[simp] theorem modLane_straps (l : Nat) (f : Lane → Lane) : (s.modLane l f).straps = s.straps := rfl
@[simp] theorem modLane_jtag (l : Nat) (f : Lane → Lane) : (s.modLane l f).jtag = s.jtag := rfl
@[simp] theorem modLane_intake (l : Nat) (f : Lane → Lane) : (s.modLane l f).intake = s.intake := rfl
@[simp] theorem modLane_store (l : Nat) (f : Lane → Lane) : (s.modLane l f).store = s.store := rfl
@[simp] theorem modLane_hazard (l : Nat) (f : Lane → Lane) : (s.modLane l f).hazard = s.hazard := rfl
@[simp] theorem modLane_sealed (l : Nat) (f : Lane → Lane) : (s.modLane l f).sealed = s.sealed := rfl
@[simp] theorem modLane_fuses (l : Nat) (f : Lane → Lane) : (s.modLane l f).fuses = s.fuses := rfl
@[simp] theorem modLane_faults (l : Nat) (f : Lane → Lane) : (s.modLane l f).faults = s.faults := rfl
@[simp] theorem modLane_dies (l : Nat) (f : Lane → Lane) : (s.modLane l f).dies = s.dies := rfl
@[simp] theorem modLane_inject (l : Nat) (f : Lane → Lane) : (s.modLane l f).inject = s.inject := rfl
@[simp] theorem modLane_nmt (l : Nat) (f : Lane → Lane) : (s.modLane l f).nmt = s.nmt := rfl
@[simp] theorem modLane_can (l : Nat) (f : Lane → Lane) : (s.modLane l f).can = s.can := rfl
@[simp] theorem modLane_usdo (l : Nat) (f : Lane → Lane) : (s.modLane l f).usdo = s.usdo := rfl
@[simp] theorem modLane_mirrors (l : Nat) (f : Lane → Lane) : (s.modLane l f).mirrors = s.mirrors := rfl
@[simp] theorem modLane_mirrorQueue (l : Nat) (f : Lane → Lane) : (s.modLane l f).mirrorQueue = s.mirrorQueue := rfl
@[simp] theorem modLane_trace (l : Nat) (f : Lane → Lane) : (s.modLane l f).trace = s.trace := rfl

/-! `modScanner` changes `scanners` alone. -/

@[simp] theorem modScanner_pending (g : Nat) (f : Scanner → Scanner) : (s.modScanner g f).pending = s.pending := rfl
@[simp] theorem modScanner_resp (g : Nat) (f : Scanner → Scanner) : (s.modScanner g f).resp = s.resp := rfl
@[simp] theorem modScanner_answer (g : Nat) (f : Scanner → Scanner) : (s.modScanner g f).answer = s.answer := rfl
@[simp] theorem modScanner_out (g : Nat) (f : Scanner → Scanner) : (s.modScanner g f).out = s.out := rfl
@[simp] theorem modScanner_freeCount (g : Nat) (f : Scanner → Scanner) : (s.modScanner g f).freeCount = s.freeCount := rfl
@[simp] theorem modScanner_variant (g : Nat) (f : Scanner → Scanner) : (s.modScanner g f).variant = s.variant := rfl
@[simp] theorem modScanner_timebase (g : Nat) (f : Scanner → Scanner) : (s.modScanner g f).timebase = s.timebase := rfl
@[simp] theorem modScanner_od (g : Nat) (f : Scanner → Scanner) : (s.modScanner g f).od = s.od := rfl
@[simp] theorem modScanner_domains (g : Nat) (f : Scanner → Scanner) : (s.modScanner g f).domains = s.domains := rfl
@[simp] theorem modScanner_web (g : Nat) (f : Scanner → Scanner) : (s.modScanner g f).web = s.web := rfl
@[simp] theorem modScanner_tt (g : Nat) (f : Scanner → Scanner) : (s.modScanner g f).tt = s.tt := rfl
@[simp] theorem modScanner_slots (g : Nat) (f : Scanner → Scanner) : (s.modScanner g f).slots = s.slots := rfl
@[simp] theorem modScanner_stations (g : Nat) (f : Scanner → Scanner) : (s.modScanner g f).stations = s.stations := rfl
@[simp] theorem modScanner_record (g : Nat) (f : Scanner → Scanner) : (s.modScanner g f).record = s.record := rfl
@[simp] theorem modScanner_tones (g : Nat) (f : Scanner → Scanner) : (s.modScanner g f).tones = s.tones := rfl
@[simp] theorem modScanner_leading (g : Nat) (f : Scanner → Scanner) : (s.modScanner g f).leading = s.leading := rfl
@[simp] theorem modScanner_stitches (g : Nat) (f : Scanner → Scanner) : (s.modScanner g f).stitches = s.stitches := rfl
@[simp] theorem modScanner_lines (g : Nat) (f : Scanner → Scanner) : (s.modScanner g f).lines = s.lines := rfl
@[simp] theorem modScanner_played (g : Nat) (f : Scanner → Scanner) : (s.modScanner g f).played = s.played := rfl
@[simp] theorem modScanner_lanes (g : Nat) (f : Scanner → Scanner) : (s.modScanner g f).lanes = s.lanes := rfl
@[simp] theorem modScanner_laneResult (g : Nat) (f : Scanner → Scanner) : (s.modScanner g f).laneResult = s.laneResult := rfl
@[simp] theorem modScanner_laneCmd (g : Nat) (f : Scanner → Scanner) : (s.modScanner g f).laneCmd = s.laneCmd := rfl
@[simp] theorem modScanner_flips (g : Nat) (f : Scanner → Scanner) : (s.modScanner g f).flips = s.flips := rfl
@[simp] theorem modScanner_blends (g : Nat) (f : Scanner → Scanner) : (s.modScanner g f).blends = s.blends := rfl
@[simp] theorem modScanner_links (g : Nat) (f : Scanner → Scanner) : (s.modScanner g f).links = s.links := rfl
@[simp] theorem modScanner_chans (g : Nat) (f : Scanner → Scanner) : (s.modScanner g f).chans = s.chans := rfl
@[simp] theorem modScanner_latches (g : Nat) (f : Scanner → Scanner) : (s.modScanner g f).latches = s.latches := rfl
@[simp] theorem modScanner_compares (g : Nat) (f : Scanner → Scanner) : (s.modScanner g f).compares = s.compares := rfl
@[simp] theorem modScanner_axes (g : Nat) (f : Scanner → Scanner) : (s.modScanner g f).axes = s.axes := rfl
@[simp] theorem modScanner_transport (g : Nat) (f : Scanner → Scanner) : (s.modScanner g f).transport = s.transport := rfl
@[simp] theorem modScanner_slotsL (g : Nat) (f : Scanner → Scanner) : (s.modScanner g f).slotsL = s.slotsL := rfl
@[simp] theorem modScanner_conv0 (g : Nat) (f : Scanner → Scanner) : (s.modScanner g f).conv0 = s.conv0 := rfl
@[simp] theorem modScanner_conv1 (g : Nat) (f : Scanner → Scanner) : (s.modScanner g f).conv1 = s.conv1 := rfl
@[simp] theorem modScanner_dsInputs (g : Nat) (f : Scanner → Scanner) : (s.modScanner g f).dsInputs = s.dsInputs := rfl
@[simp] theorem modScanner_hv (g : Nat) (f : Scanner → Scanner) : (s.modScanner g f).hv = s.hv := rfl
@[simp] theorem modScanner_zones (g : Nat) (f : Scanner → Scanner) : (s.modScanner g f).zones = s.zones := rfl
@[simp] theorem modScanner_nip (g : Nat) (f : Scanner → Scanner) : (s.modScanner g f).nip = s.nip := rfl
@[simp] theorem modScanner_clocks (g : Nat) (f : Scanner → Scanner) : (s.modScanner g f).clocks = s.clocks := rfl
@[simp] theorem modScanner_dividers (g : Nat) (f : Scanner → Scanner) : (s.modScanner g f).dividers = s.dividers := rfl
@[simp] theorem modScanner_group (g : Nat) (f : Scanner → Scanner) : (s.modScanner g f).group = s.group := rfl
@[simp] theorem modScanner_haling (g : Nat) (f : Scanner → Scanner) : (s.modScanner g f).haling = s.haling := rfl
@[simp] theorem modScanner_power (g : Nat) (f : Scanner → Scanner) : (s.modScanner g f).power = s.power := rfl
@[simp] theorem modScanner_thermal (g : Nat) (f : Scanner → Scanner) : (s.modScanner g f).thermal = s.thermal := rfl
@[simp] theorem modScanner_thermalCeiling (g : Nat) (f : Scanner → Scanner) : (s.modScanner g f).thermalCeiling = s.thermalCeiling := rfl
@[simp] theorem modScanner_flash (g : Nat) (f : Scanner → Scanner) : (s.modScanner g f).flash = s.flash := rfl
@[simp] theorem modScanner_straps (g : Nat) (f : Scanner → Scanner) : (s.modScanner g f).straps = s.straps := rfl
@[simp] theorem modScanner_jtag (g : Nat) (f : Scanner → Scanner) : (s.modScanner g f).jtag = s.jtag := rfl
@[simp] theorem modScanner_intake (g : Nat) (f : Scanner → Scanner) : (s.modScanner g f).intake = s.intake := rfl
@[simp] theorem modScanner_store (g : Nat) (f : Scanner → Scanner) : (s.modScanner g f).store = s.store := rfl
@[simp] theorem modScanner_hazard (g : Nat) (f : Scanner → Scanner) : (s.modScanner g f).hazard = s.hazard := rfl
@[simp] theorem modScanner_sealed (g : Nat) (f : Scanner → Scanner) : (s.modScanner g f).sealed = s.sealed := rfl
@[simp] theorem modScanner_fuses (g : Nat) (f : Scanner → Scanner) : (s.modScanner g f).fuses = s.fuses := rfl
@[simp] theorem modScanner_faults (g : Nat) (f : Scanner → Scanner) : (s.modScanner g f).faults = s.faults := rfl
@[simp] theorem modScanner_dies (g : Nat) (f : Scanner → Scanner) : (s.modScanner g f).dies = s.dies := rfl
@[simp] theorem modScanner_inject (g : Nat) (f : Scanner → Scanner) : (s.modScanner g f).inject = s.inject := rfl
@[simp] theorem modScanner_nmt (g : Nat) (f : Scanner → Scanner) : (s.modScanner g f).nmt = s.nmt := rfl
@[simp] theorem modScanner_can (g : Nat) (f : Scanner → Scanner) : (s.modScanner g f).can = s.can := rfl
@[simp] theorem modScanner_usdo (g : Nat) (f : Scanner → Scanner) : (s.modScanner g f).usdo = s.usdo := rfl
@[simp] theorem modScanner_mirrors (g : Nat) (f : Scanner → Scanner) : (s.modScanner g f).mirrors = s.mirrors := rfl
@[simp] theorem modScanner_mirrorQueue (g : Nat) (f : Scanner → Scanner) : (s.modScanner g f).mirrorQueue = s.mirrorQueue := rfl
@[simp] theorem modScanner_trace (g : Nat) (f : Scanner → Scanner) : (s.modScanner g f).trace = s.trace := rfl

/-! `modLink` changes `links` alone. -/

@[simp] theorem modLink_pending (g : Nat) (f : Link → Link) : (s.modLink g f).pending = s.pending := rfl
@[simp] theorem modLink_resp (g : Nat) (f : Link → Link) : (s.modLink g f).resp = s.resp := rfl
@[simp] theorem modLink_answer (g : Nat) (f : Link → Link) : (s.modLink g f).answer = s.answer := rfl
@[simp] theorem modLink_out (g : Nat) (f : Link → Link) : (s.modLink g f).out = s.out := rfl
@[simp] theorem modLink_freeCount (g : Nat) (f : Link → Link) : (s.modLink g f).freeCount = s.freeCount := rfl
@[simp] theorem modLink_variant (g : Nat) (f : Link → Link) : (s.modLink g f).variant = s.variant := rfl
@[simp] theorem modLink_timebase (g : Nat) (f : Link → Link) : (s.modLink g f).timebase = s.timebase := rfl
@[simp] theorem modLink_od (g : Nat) (f : Link → Link) : (s.modLink g f).od = s.od := rfl
@[simp] theorem modLink_domains (g : Nat) (f : Link → Link) : (s.modLink g f).domains = s.domains := rfl
@[simp] theorem modLink_web (g : Nat) (f : Link → Link) : (s.modLink g f).web = s.web := rfl
@[simp] theorem modLink_tt (g : Nat) (f : Link → Link) : (s.modLink g f).tt = s.tt := rfl
@[simp] theorem modLink_slots (g : Nat) (f : Link → Link) : (s.modLink g f).slots = s.slots := rfl
@[simp] theorem modLink_stations (g : Nat) (f : Link → Link) : (s.modLink g f).stations = s.stations := rfl
@[simp] theorem modLink_record (g : Nat) (f : Link → Link) : (s.modLink g f).record = s.record := rfl
@[simp] theorem modLink_tones (g : Nat) (f : Link → Link) : (s.modLink g f).tones = s.tones := rfl
@[simp] theorem modLink_leading (g : Nat) (f : Link → Link) : (s.modLink g f).leading = s.leading := rfl
@[simp] theorem modLink_stitches (g : Nat) (f : Link → Link) : (s.modLink g f).stitches = s.stitches := rfl
@[simp] theorem modLink_lines (g : Nat) (f : Link → Link) : (s.modLink g f).lines = s.lines := rfl
@[simp] theorem modLink_played (g : Nat) (f : Link → Link) : (s.modLink g f).played = s.played := rfl
@[simp] theorem modLink_lanes (g : Nat) (f : Link → Link) : (s.modLink g f).lanes = s.lanes := rfl
@[simp] theorem modLink_laneResult (g : Nat) (f : Link → Link) : (s.modLink g f).laneResult = s.laneResult := rfl
@[simp] theorem modLink_laneCmd (g : Nat) (f : Link → Link) : (s.modLink g f).laneCmd = s.laneCmd := rfl
@[simp] theorem modLink_flips (g : Nat) (f : Link → Link) : (s.modLink g f).flips = s.flips := rfl
@[simp] theorem modLink_blends (g : Nat) (f : Link → Link) : (s.modLink g f).blends = s.blends := rfl
@[simp] theorem modLink_scanners (g : Nat) (f : Link → Link) : (s.modLink g f).scanners = s.scanners := rfl
@[simp] theorem modLink_chans (g : Nat) (f : Link → Link) : (s.modLink g f).chans = s.chans := rfl
@[simp] theorem modLink_latches (g : Nat) (f : Link → Link) : (s.modLink g f).latches = s.latches := rfl
@[simp] theorem modLink_compares (g : Nat) (f : Link → Link) : (s.modLink g f).compares = s.compares := rfl
@[simp] theorem modLink_axes (g : Nat) (f : Link → Link) : (s.modLink g f).axes = s.axes := rfl
@[simp] theorem modLink_transport (g : Nat) (f : Link → Link) : (s.modLink g f).transport = s.transport := rfl
@[simp] theorem modLink_slotsL (g : Nat) (f : Link → Link) : (s.modLink g f).slotsL = s.slotsL := rfl
@[simp] theorem modLink_conv0 (g : Nat) (f : Link → Link) : (s.modLink g f).conv0 = s.conv0 := rfl
@[simp] theorem modLink_conv1 (g : Nat) (f : Link → Link) : (s.modLink g f).conv1 = s.conv1 := rfl
@[simp] theorem modLink_dsInputs (g : Nat) (f : Link → Link) : (s.modLink g f).dsInputs = s.dsInputs := rfl
@[simp] theorem modLink_hv (g : Nat) (f : Link → Link) : (s.modLink g f).hv = s.hv := rfl
@[simp] theorem modLink_zones (g : Nat) (f : Link → Link) : (s.modLink g f).zones = s.zones := rfl
@[simp] theorem modLink_nip (g : Nat) (f : Link → Link) : (s.modLink g f).nip = s.nip := rfl
@[simp] theorem modLink_clocks (g : Nat) (f : Link → Link) : (s.modLink g f).clocks = s.clocks := rfl
@[simp] theorem modLink_dividers (g : Nat) (f : Link → Link) : (s.modLink g f).dividers = s.dividers := rfl
@[simp] theorem modLink_group (g : Nat) (f : Link → Link) : (s.modLink g f).group = s.group := rfl
@[simp] theorem modLink_haling (g : Nat) (f : Link → Link) : (s.modLink g f).haling = s.haling := rfl
@[simp] theorem modLink_power (g : Nat) (f : Link → Link) : (s.modLink g f).power = s.power := rfl
@[simp] theorem modLink_thermal (g : Nat) (f : Link → Link) : (s.modLink g f).thermal = s.thermal := rfl
@[simp] theorem modLink_thermalCeiling (g : Nat) (f : Link → Link) : (s.modLink g f).thermalCeiling = s.thermalCeiling := rfl
@[simp] theorem modLink_flash (g : Nat) (f : Link → Link) : (s.modLink g f).flash = s.flash := rfl
@[simp] theorem modLink_straps (g : Nat) (f : Link → Link) : (s.modLink g f).straps = s.straps := rfl
@[simp] theorem modLink_jtag (g : Nat) (f : Link → Link) : (s.modLink g f).jtag = s.jtag := rfl
@[simp] theorem modLink_intake (g : Nat) (f : Link → Link) : (s.modLink g f).intake = s.intake := rfl
@[simp] theorem modLink_store (g : Nat) (f : Link → Link) : (s.modLink g f).store = s.store := rfl
@[simp] theorem modLink_hazard (g : Nat) (f : Link → Link) : (s.modLink g f).hazard = s.hazard := rfl
@[simp] theorem modLink_sealed (g : Nat) (f : Link → Link) : (s.modLink g f).sealed = s.sealed := rfl
@[simp] theorem modLink_fuses (g : Nat) (f : Link → Link) : (s.modLink g f).fuses = s.fuses := rfl
@[simp] theorem modLink_faults (g : Nat) (f : Link → Link) : (s.modLink g f).faults = s.faults := rfl
@[simp] theorem modLink_dies (g : Nat) (f : Link → Link) : (s.modLink g f).dies = s.dies := rfl
@[simp] theorem modLink_inject (g : Nat) (f : Link → Link) : (s.modLink g f).inject = s.inject := rfl
@[simp] theorem modLink_nmt (g : Nat) (f : Link → Link) : (s.modLink g f).nmt = s.nmt := rfl
@[simp] theorem modLink_can (g : Nat) (f : Link → Link) : (s.modLink g f).can = s.can := rfl
@[simp] theorem modLink_usdo (g : Nat) (f : Link → Link) : (s.modLink g f).usdo = s.usdo := rfl
@[simp] theorem modLink_mirrors (g : Nat) (f : Link → Link) : (s.modLink g f).mirrors = s.mirrors := rfl
@[simp] theorem modLink_mirrorQueue (g : Nat) (f : Link → Link) : (s.modLink g f).mirrorQueue = s.mirrorQueue := rfl
@[simp] theorem modLink_trace (g : Nat) (f : Link → Link) : (s.modLink g f).trace = s.trace := rfl

/-! `modChan` changes `chans` alone. -/

@[simp] theorem modChan_pending (c : Nat) (f : Channel → Channel) : (s.modChan c f).pending = s.pending := rfl
@[simp] theorem modChan_resp (c : Nat) (f : Channel → Channel) : (s.modChan c f).resp = s.resp := rfl
@[simp] theorem modChan_answer (c : Nat) (f : Channel → Channel) : (s.modChan c f).answer = s.answer := rfl
@[simp] theorem modChan_out (c : Nat) (f : Channel → Channel) : (s.modChan c f).out = s.out := rfl
@[simp] theorem modChan_freeCount (c : Nat) (f : Channel → Channel) : (s.modChan c f).freeCount = s.freeCount := rfl
@[simp] theorem modChan_variant (c : Nat) (f : Channel → Channel) : (s.modChan c f).variant = s.variant := rfl
@[simp] theorem modChan_timebase (c : Nat) (f : Channel → Channel) : (s.modChan c f).timebase = s.timebase := rfl
@[simp] theorem modChan_od (c : Nat) (f : Channel → Channel) : (s.modChan c f).od = s.od := rfl
@[simp] theorem modChan_domains (c : Nat) (f : Channel → Channel) : (s.modChan c f).domains = s.domains := rfl
@[simp] theorem modChan_web (c : Nat) (f : Channel → Channel) : (s.modChan c f).web = s.web := rfl
@[simp] theorem modChan_tt (c : Nat) (f : Channel → Channel) : (s.modChan c f).tt = s.tt := rfl
@[simp] theorem modChan_slots (c : Nat) (f : Channel → Channel) : (s.modChan c f).slots = s.slots := rfl
@[simp] theorem modChan_stations (c : Nat) (f : Channel → Channel) : (s.modChan c f).stations = s.stations := rfl
@[simp] theorem modChan_record (c : Nat) (f : Channel → Channel) : (s.modChan c f).record = s.record := rfl
@[simp] theorem modChan_tones (c : Nat) (f : Channel → Channel) : (s.modChan c f).tones = s.tones := rfl
@[simp] theorem modChan_leading (c : Nat) (f : Channel → Channel) : (s.modChan c f).leading = s.leading := rfl
@[simp] theorem modChan_stitches (c : Nat) (f : Channel → Channel) : (s.modChan c f).stitches = s.stitches := rfl
@[simp] theorem modChan_lines (c : Nat) (f : Channel → Channel) : (s.modChan c f).lines = s.lines := rfl
@[simp] theorem modChan_played (c : Nat) (f : Channel → Channel) : (s.modChan c f).played = s.played := rfl
@[simp] theorem modChan_lanes (c : Nat) (f : Channel → Channel) : (s.modChan c f).lanes = s.lanes := rfl
@[simp] theorem modChan_laneResult (c : Nat) (f : Channel → Channel) : (s.modChan c f).laneResult = s.laneResult := rfl
@[simp] theorem modChan_laneCmd (c : Nat) (f : Channel → Channel) : (s.modChan c f).laneCmd = s.laneCmd := rfl
@[simp] theorem modChan_flips (c : Nat) (f : Channel → Channel) : (s.modChan c f).flips = s.flips := rfl
@[simp] theorem modChan_blends (c : Nat) (f : Channel → Channel) : (s.modChan c f).blends = s.blends := rfl
@[simp] theorem modChan_scanners (c : Nat) (f : Channel → Channel) : (s.modChan c f).scanners = s.scanners := rfl
@[simp] theorem modChan_links (c : Nat) (f : Channel → Channel) : (s.modChan c f).links = s.links := rfl
@[simp] theorem modChan_latches (c : Nat) (f : Channel → Channel) : (s.modChan c f).latches = s.latches := rfl
@[simp] theorem modChan_compares (c : Nat) (f : Channel → Channel) : (s.modChan c f).compares = s.compares := rfl
@[simp] theorem modChan_axes (c : Nat) (f : Channel → Channel) : (s.modChan c f).axes = s.axes := rfl
@[simp] theorem modChan_transport (c : Nat) (f : Channel → Channel) : (s.modChan c f).transport = s.transport := rfl
@[simp] theorem modChan_slotsL (c : Nat) (f : Channel → Channel) : (s.modChan c f).slotsL = s.slotsL := rfl
@[simp] theorem modChan_conv0 (c : Nat) (f : Channel → Channel) : (s.modChan c f).conv0 = s.conv0 := rfl
@[simp] theorem modChan_conv1 (c : Nat) (f : Channel → Channel) : (s.modChan c f).conv1 = s.conv1 := rfl
@[simp] theorem modChan_dsInputs (c : Nat) (f : Channel → Channel) : (s.modChan c f).dsInputs = s.dsInputs := rfl
@[simp] theorem modChan_hv (c : Nat) (f : Channel → Channel) : (s.modChan c f).hv = s.hv := rfl
@[simp] theorem modChan_zones (c : Nat) (f : Channel → Channel) : (s.modChan c f).zones = s.zones := rfl
@[simp] theorem modChan_nip (c : Nat) (f : Channel → Channel) : (s.modChan c f).nip = s.nip := rfl
@[simp] theorem modChan_clocks (c : Nat) (f : Channel → Channel) : (s.modChan c f).clocks = s.clocks := rfl
@[simp] theorem modChan_dividers (c : Nat) (f : Channel → Channel) : (s.modChan c f).dividers = s.dividers := rfl
@[simp] theorem modChan_group (c : Nat) (f : Channel → Channel) : (s.modChan c f).group = s.group := rfl
@[simp] theorem modChan_haling (c : Nat) (f : Channel → Channel) : (s.modChan c f).haling = s.haling := rfl
@[simp] theorem modChan_power (c : Nat) (f : Channel → Channel) : (s.modChan c f).power = s.power := rfl
@[simp] theorem modChan_thermal (c : Nat) (f : Channel → Channel) : (s.modChan c f).thermal = s.thermal := rfl
@[simp] theorem modChan_thermalCeiling (c : Nat) (f : Channel → Channel) : (s.modChan c f).thermalCeiling = s.thermalCeiling := rfl
@[simp] theorem modChan_flash (c : Nat) (f : Channel → Channel) : (s.modChan c f).flash = s.flash := rfl
@[simp] theorem modChan_straps (c : Nat) (f : Channel → Channel) : (s.modChan c f).straps = s.straps := rfl
@[simp] theorem modChan_jtag (c : Nat) (f : Channel → Channel) : (s.modChan c f).jtag = s.jtag := rfl
@[simp] theorem modChan_intake (c : Nat) (f : Channel → Channel) : (s.modChan c f).intake = s.intake := rfl
@[simp] theorem modChan_store (c : Nat) (f : Channel → Channel) : (s.modChan c f).store = s.store := rfl
@[simp] theorem modChan_hazard (c : Nat) (f : Channel → Channel) : (s.modChan c f).hazard = s.hazard := rfl
@[simp] theorem modChan_sealed (c : Nat) (f : Channel → Channel) : (s.modChan c f).sealed = s.sealed := rfl
@[simp] theorem modChan_fuses (c : Nat) (f : Channel → Channel) : (s.modChan c f).fuses = s.fuses := rfl
@[simp] theorem modChan_faults (c : Nat) (f : Channel → Channel) : (s.modChan c f).faults = s.faults := rfl
@[simp] theorem modChan_dies (c : Nat) (f : Channel → Channel) : (s.modChan c f).dies = s.dies := rfl
@[simp] theorem modChan_inject (c : Nat) (f : Channel → Channel) : (s.modChan c f).inject = s.inject := rfl
@[simp] theorem modChan_nmt (c : Nat) (f : Channel → Channel) : (s.modChan c f).nmt = s.nmt := rfl
@[simp] theorem modChan_can (c : Nat) (f : Channel → Channel) : (s.modChan c f).can = s.can := rfl
@[simp] theorem modChan_usdo (c : Nat) (f : Channel → Channel) : (s.modChan c f).usdo = s.usdo := rfl
@[simp] theorem modChan_mirrors (c : Nat) (f : Channel → Channel) : (s.modChan c f).mirrors = s.mirrors := rfl
@[simp] theorem modChan_mirrorQueue (c : Nat) (f : Channel → Channel) : (s.modChan c f).mirrorQueue = s.mirrorQueue := rfl
@[simp] theorem modChan_trace (c : Nat) (f : Channel → Channel) : (s.modChan c f).trace = s.trace := rfl

/-! `modLatch` changes `latches` alone. -/

@[simp] theorem modLatch_pending (n : Nat) (f : Latch → Latch) : (s.modLatch n f).pending = s.pending := rfl
@[simp] theorem modLatch_resp (n : Nat) (f : Latch → Latch) : (s.modLatch n f).resp = s.resp := rfl
@[simp] theorem modLatch_answer (n : Nat) (f : Latch → Latch) : (s.modLatch n f).answer = s.answer := rfl
@[simp] theorem modLatch_out (n : Nat) (f : Latch → Latch) : (s.modLatch n f).out = s.out := rfl
@[simp] theorem modLatch_freeCount (n : Nat) (f : Latch → Latch) : (s.modLatch n f).freeCount = s.freeCount := rfl
@[simp] theorem modLatch_variant (n : Nat) (f : Latch → Latch) : (s.modLatch n f).variant = s.variant := rfl
@[simp] theorem modLatch_timebase (n : Nat) (f : Latch → Latch) : (s.modLatch n f).timebase = s.timebase := rfl
@[simp] theorem modLatch_od (n : Nat) (f : Latch → Latch) : (s.modLatch n f).od = s.od := rfl
@[simp] theorem modLatch_domains (n : Nat) (f : Latch → Latch) : (s.modLatch n f).domains = s.domains := rfl
@[simp] theorem modLatch_web (n : Nat) (f : Latch → Latch) : (s.modLatch n f).web = s.web := rfl
@[simp] theorem modLatch_tt (n : Nat) (f : Latch → Latch) : (s.modLatch n f).tt = s.tt := rfl
@[simp] theorem modLatch_slots (n : Nat) (f : Latch → Latch) : (s.modLatch n f).slots = s.slots := rfl
@[simp] theorem modLatch_stations (n : Nat) (f : Latch → Latch) : (s.modLatch n f).stations = s.stations := rfl
@[simp] theorem modLatch_record (n : Nat) (f : Latch → Latch) : (s.modLatch n f).record = s.record := rfl
@[simp] theorem modLatch_tones (n : Nat) (f : Latch → Latch) : (s.modLatch n f).tones = s.tones := rfl
@[simp] theorem modLatch_leading (n : Nat) (f : Latch → Latch) : (s.modLatch n f).leading = s.leading := rfl
@[simp] theorem modLatch_stitches (n : Nat) (f : Latch → Latch) : (s.modLatch n f).stitches = s.stitches := rfl
@[simp] theorem modLatch_lines (n : Nat) (f : Latch → Latch) : (s.modLatch n f).lines = s.lines := rfl
@[simp] theorem modLatch_played (n : Nat) (f : Latch → Latch) : (s.modLatch n f).played = s.played := rfl
@[simp] theorem modLatch_lanes (n : Nat) (f : Latch → Latch) : (s.modLatch n f).lanes = s.lanes := rfl
@[simp] theorem modLatch_laneResult (n : Nat) (f : Latch → Latch) : (s.modLatch n f).laneResult = s.laneResult := rfl
@[simp] theorem modLatch_laneCmd (n : Nat) (f : Latch → Latch) : (s.modLatch n f).laneCmd = s.laneCmd := rfl
@[simp] theorem modLatch_flips (n : Nat) (f : Latch → Latch) : (s.modLatch n f).flips = s.flips := rfl
@[simp] theorem modLatch_blends (n : Nat) (f : Latch → Latch) : (s.modLatch n f).blends = s.blends := rfl
@[simp] theorem modLatch_scanners (n : Nat) (f : Latch → Latch) : (s.modLatch n f).scanners = s.scanners := rfl
@[simp] theorem modLatch_links (n : Nat) (f : Latch → Latch) : (s.modLatch n f).links = s.links := rfl
@[simp] theorem modLatch_chans (n : Nat) (f : Latch → Latch) : (s.modLatch n f).chans = s.chans := rfl
@[simp] theorem modLatch_compares (n : Nat) (f : Latch → Latch) : (s.modLatch n f).compares = s.compares := rfl
@[simp] theorem modLatch_axes (n : Nat) (f : Latch → Latch) : (s.modLatch n f).axes = s.axes := rfl
@[simp] theorem modLatch_transport (n : Nat) (f : Latch → Latch) : (s.modLatch n f).transport = s.transport := rfl
@[simp] theorem modLatch_slotsL (n : Nat) (f : Latch → Latch) : (s.modLatch n f).slotsL = s.slotsL := rfl
@[simp] theorem modLatch_conv0 (n : Nat) (f : Latch → Latch) : (s.modLatch n f).conv0 = s.conv0 := rfl
@[simp] theorem modLatch_conv1 (n : Nat) (f : Latch → Latch) : (s.modLatch n f).conv1 = s.conv1 := rfl
@[simp] theorem modLatch_dsInputs (n : Nat) (f : Latch → Latch) : (s.modLatch n f).dsInputs = s.dsInputs := rfl
@[simp] theorem modLatch_hv (n : Nat) (f : Latch → Latch) : (s.modLatch n f).hv = s.hv := rfl
@[simp] theorem modLatch_zones (n : Nat) (f : Latch → Latch) : (s.modLatch n f).zones = s.zones := rfl
@[simp] theorem modLatch_nip (n : Nat) (f : Latch → Latch) : (s.modLatch n f).nip = s.nip := rfl
@[simp] theorem modLatch_clocks (n : Nat) (f : Latch → Latch) : (s.modLatch n f).clocks = s.clocks := rfl
@[simp] theorem modLatch_dividers (n : Nat) (f : Latch → Latch) : (s.modLatch n f).dividers = s.dividers := rfl
@[simp] theorem modLatch_group (n : Nat) (f : Latch → Latch) : (s.modLatch n f).group = s.group := rfl
@[simp] theorem modLatch_haling (n : Nat) (f : Latch → Latch) : (s.modLatch n f).haling = s.haling := rfl
@[simp] theorem modLatch_power (n : Nat) (f : Latch → Latch) : (s.modLatch n f).power = s.power := rfl
@[simp] theorem modLatch_thermal (n : Nat) (f : Latch → Latch) : (s.modLatch n f).thermal = s.thermal := rfl
@[simp] theorem modLatch_thermalCeiling (n : Nat) (f : Latch → Latch) : (s.modLatch n f).thermalCeiling = s.thermalCeiling := rfl
@[simp] theorem modLatch_flash (n : Nat) (f : Latch → Latch) : (s.modLatch n f).flash = s.flash := rfl
@[simp] theorem modLatch_straps (n : Nat) (f : Latch → Latch) : (s.modLatch n f).straps = s.straps := rfl
@[simp] theorem modLatch_jtag (n : Nat) (f : Latch → Latch) : (s.modLatch n f).jtag = s.jtag := rfl
@[simp] theorem modLatch_intake (n : Nat) (f : Latch → Latch) : (s.modLatch n f).intake = s.intake := rfl
@[simp] theorem modLatch_store (n : Nat) (f : Latch → Latch) : (s.modLatch n f).store = s.store := rfl
@[simp] theorem modLatch_hazard (n : Nat) (f : Latch → Latch) : (s.modLatch n f).hazard = s.hazard := rfl
@[simp] theorem modLatch_sealed (n : Nat) (f : Latch → Latch) : (s.modLatch n f).sealed = s.sealed := rfl
@[simp] theorem modLatch_fuses (n : Nat) (f : Latch → Latch) : (s.modLatch n f).fuses = s.fuses := rfl
@[simp] theorem modLatch_faults (n : Nat) (f : Latch → Latch) : (s.modLatch n f).faults = s.faults := rfl
@[simp] theorem modLatch_dies (n : Nat) (f : Latch → Latch) : (s.modLatch n f).dies = s.dies := rfl
@[simp] theorem modLatch_inject (n : Nat) (f : Latch → Latch) : (s.modLatch n f).inject = s.inject := rfl
@[simp] theorem modLatch_nmt (n : Nat) (f : Latch → Latch) : (s.modLatch n f).nmt = s.nmt := rfl
@[simp] theorem modLatch_can (n : Nat) (f : Latch → Latch) : (s.modLatch n f).can = s.can := rfl
@[simp] theorem modLatch_usdo (n : Nat) (f : Latch → Latch) : (s.modLatch n f).usdo = s.usdo := rfl
@[simp] theorem modLatch_mirrors (n : Nat) (f : Latch → Latch) : (s.modLatch n f).mirrors = s.mirrors := rfl
@[simp] theorem modLatch_mirrorQueue (n : Nat) (f : Latch → Latch) : (s.modLatch n f).mirrorQueue = s.mirrorQueue := rfl
@[simp] theorem modLatch_trace (n : Nat) (f : Latch → Latch) : (s.modLatch n f).trace = s.trace := rfl

/-! `modCmp` changes `compares` alone. -/

@[simp] theorem modCmp_pending (n : Nat) (f : Compare → Compare) : (s.modCmp n f).pending = s.pending := rfl
@[simp] theorem modCmp_resp (n : Nat) (f : Compare → Compare) : (s.modCmp n f).resp = s.resp := rfl
@[simp] theorem modCmp_answer (n : Nat) (f : Compare → Compare) : (s.modCmp n f).answer = s.answer := rfl
@[simp] theorem modCmp_out (n : Nat) (f : Compare → Compare) : (s.modCmp n f).out = s.out := rfl
@[simp] theorem modCmp_freeCount (n : Nat) (f : Compare → Compare) : (s.modCmp n f).freeCount = s.freeCount := rfl
@[simp] theorem modCmp_variant (n : Nat) (f : Compare → Compare) : (s.modCmp n f).variant = s.variant := rfl
@[simp] theorem modCmp_timebase (n : Nat) (f : Compare → Compare) : (s.modCmp n f).timebase = s.timebase := rfl
@[simp] theorem modCmp_od (n : Nat) (f : Compare → Compare) : (s.modCmp n f).od = s.od := rfl
@[simp] theorem modCmp_domains (n : Nat) (f : Compare → Compare) : (s.modCmp n f).domains = s.domains := rfl
@[simp] theorem modCmp_web (n : Nat) (f : Compare → Compare) : (s.modCmp n f).web = s.web := rfl
@[simp] theorem modCmp_tt (n : Nat) (f : Compare → Compare) : (s.modCmp n f).tt = s.tt := rfl
@[simp] theorem modCmp_slots (n : Nat) (f : Compare → Compare) : (s.modCmp n f).slots = s.slots := rfl
@[simp] theorem modCmp_stations (n : Nat) (f : Compare → Compare) : (s.modCmp n f).stations = s.stations := rfl
@[simp] theorem modCmp_record (n : Nat) (f : Compare → Compare) : (s.modCmp n f).record = s.record := rfl
@[simp] theorem modCmp_tones (n : Nat) (f : Compare → Compare) : (s.modCmp n f).tones = s.tones := rfl
@[simp] theorem modCmp_leading (n : Nat) (f : Compare → Compare) : (s.modCmp n f).leading = s.leading := rfl
@[simp] theorem modCmp_stitches (n : Nat) (f : Compare → Compare) : (s.modCmp n f).stitches = s.stitches := rfl
@[simp] theorem modCmp_lines (n : Nat) (f : Compare → Compare) : (s.modCmp n f).lines = s.lines := rfl
@[simp] theorem modCmp_played (n : Nat) (f : Compare → Compare) : (s.modCmp n f).played = s.played := rfl
@[simp] theorem modCmp_lanes (n : Nat) (f : Compare → Compare) : (s.modCmp n f).lanes = s.lanes := rfl
@[simp] theorem modCmp_laneResult (n : Nat) (f : Compare → Compare) : (s.modCmp n f).laneResult = s.laneResult := rfl
@[simp] theorem modCmp_laneCmd (n : Nat) (f : Compare → Compare) : (s.modCmp n f).laneCmd = s.laneCmd := rfl
@[simp] theorem modCmp_flips (n : Nat) (f : Compare → Compare) : (s.modCmp n f).flips = s.flips := rfl
@[simp] theorem modCmp_blends (n : Nat) (f : Compare → Compare) : (s.modCmp n f).blends = s.blends := rfl
@[simp] theorem modCmp_scanners (n : Nat) (f : Compare → Compare) : (s.modCmp n f).scanners = s.scanners := rfl
@[simp] theorem modCmp_links (n : Nat) (f : Compare → Compare) : (s.modCmp n f).links = s.links := rfl
@[simp] theorem modCmp_chans (n : Nat) (f : Compare → Compare) : (s.modCmp n f).chans = s.chans := rfl
@[simp] theorem modCmp_latches (n : Nat) (f : Compare → Compare) : (s.modCmp n f).latches = s.latches := rfl
@[simp] theorem modCmp_axes (n : Nat) (f : Compare → Compare) : (s.modCmp n f).axes = s.axes := rfl
@[simp] theorem modCmp_transport (n : Nat) (f : Compare → Compare) : (s.modCmp n f).transport = s.transport := rfl
@[simp] theorem modCmp_slotsL (n : Nat) (f : Compare → Compare) : (s.modCmp n f).slotsL = s.slotsL := rfl
@[simp] theorem modCmp_conv0 (n : Nat) (f : Compare → Compare) : (s.modCmp n f).conv0 = s.conv0 := rfl
@[simp] theorem modCmp_conv1 (n : Nat) (f : Compare → Compare) : (s.modCmp n f).conv1 = s.conv1 := rfl
@[simp] theorem modCmp_dsInputs (n : Nat) (f : Compare → Compare) : (s.modCmp n f).dsInputs = s.dsInputs := rfl
@[simp] theorem modCmp_hv (n : Nat) (f : Compare → Compare) : (s.modCmp n f).hv = s.hv := rfl
@[simp] theorem modCmp_zones (n : Nat) (f : Compare → Compare) : (s.modCmp n f).zones = s.zones := rfl
@[simp] theorem modCmp_nip (n : Nat) (f : Compare → Compare) : (s.modCmp n f).nip = s.nip := rfl
@[simp] theorem modCmp_clocks (n : Nat) (f : Compare → Compare) : (s.modCmp n f).clocks = s.clocks := rfl
@[simp] theorem modCmp_dividers (n : Nat) (f : Compare → Compare) : (s.modCmp n f).dividers = s.dividers := rfl
@[simp] theorem modCmp_group (n : Nat) (f : Compare → Compare) : (s.modCmp n f).group = s.group := rfl
@[simp] theorem modCmp_haling (n : Nat) (f : Compare → Compare) : (s.modCmp n f).haling = s.haling := rfl
@[simp] theorem modCmp_power (n : Nat) (f : Compare → Compare) : (s.modCmp n f).power = s.power := rfl
@[simp] theorem modCmp_thermal (n : Nat) (f : Compare → Compare) : (s.modCmp n f).thermal = s.thermal := rfl
@[simp] theorem modCmp_thermalCeiling (n : Nat) (f : Compare → Compare) : (s.modCmp n f).thermalCeiling = s.thermalCeiling := rfl
@[simp] theorem modCmp_flash (n : Nat) (f : Compare → Compare) : (s.modCmp n f).flash = s.flash := rfl
@[simp] theorem modCmp_straps (n : Nat) (f : Compare → Compare) : (s.modCmp n f).straps = s.straps := rfl
@[simp] theorem modCmp_jtag (n : Nat) (f : Compare → Compare) : (s.modCmp n f).jtag = s.jtag := rfl
@[simp] theorem modCmp_intake (n : Nat) (f : Compare → Compare) : (s.modCmp n f).intake = s.intake := rfl
@[simp] theorem modCmp_store (n : Nat) (f : Compare → Compare) : (s.modCmp n f).store = s.store := rfl
@[simp] theorem modCmp_hazard (n : Nat) (f : Compare → Compare) : (s.modCmp n f).hazard = s.hazard := rfl
@[simp] theorem modCmp_sealed (n : Nat) (f : Compare → Compare) : (s.modCmp n f).sealed = s.sealed := rfl
@[simp] theorem modCmp_fuses (n : Nat) (f : Compare → Compare) : (s.modCmp n f).fuses = s.fuses := rfl
@[simp] theorem modCmp_faults (n : Nat) (f : Compare → Compare) : (s.modCmp n f).faults = s.faults := rfl
@[simp] theorem modCmp_dies (n : Nat) (f : Compare → Compare) : (s.modCmp n f).dies = s.dies := rfl
@[simp] theorem modCmp_inject (n : Nat) (f : Compare → Compare) : (s.modCmp n f).inject = s.inject := rfl
@[simp] theorem modCmp_nmt (n : Nat) (f : Compare → Compare) : (s.modCmp n f).nmt = s.nmt := rfl
@[simp] theorem modCmp_can (n : Nat) (f : Compare → Compare) : (s.modCmp n f).can = s.can := rfl
@[simp] theorem modCmp_usdo (n : Nat) (f : Compare → Compare) : (s.modCmp n f).usdo = s.usdo := rfl
@[simp] theorem modCmp_mirrors (n : Nat) (f : Compare → Compare) : (s.modCmp n f).mirrors = s.mirrors := rfl
@[simp] theorem modCmp_mirrorQueue (n : Nat) (f : Compare → Compare) : (s.modCmp n f).mirrorQueue = s.mirrorQueue := rfl
@[simp] theorem modCmp_trace (n : Nat) (f : Compare → Compare) : (s.modCmp n f).trace = s.trace := rfl

/-! `modAxis` changes `axes` alone. -/

@[simp] theorem modAxis_pending (a : Nat) (f : Axis → Axis) : (s.modAxis a f).pending = s.pending := rfl
@[simp] theorem modAxis_resp (a : Nat) (f : Axis → Axis) : (s.modAxis a f).resp = s.resp := rfl
@[simp] theorem modAxis_answer (a : Nat) (f : Axis → Axis) : (s.modAxis a f).answer = s.answer := rfl
@[simp] theorem modAxis_out (a : Nat) (f : Axis → Axis) : (s.modAxis a f).out = s.out := rfl
@[simp] theorem modAxis_freeCount (a : Nat) (f : Axis → Axis) : (s.modAxis a f).freeCount = s.freeCount := rfl
@[simp] theorem modAxis_variant (a : Nat) (f : Axis → Axis) : (s.modAxis a f).variant = s.variant := rfl
@[simp] theorem modAxis_timebase (a : Nat) (f : Axis → Axis) : (s.modAxis a f).timebase = s.timebase := rfl
@[simp] theorem modAxis_od (a : Nat) (f : Axis → Axis) : (s.modAxis a f).od = s.od := rfl
@[simp] theorem modAxis_domains (a : Nat) (f : Axis → Axis) : (s.modAxis a f).domains = s.domains := rfl
@[simp] theorem modAxis_web (a : Nat) (f : Axis → Axis) : (s.modAxis a f).web = s.web := rfl
@[simp] theorem modAxis_tt (a : Nat) (f : Axis → Axis) : (s.modAxis a f).tt = s.tt := rfl
@[simp] theorem modAxis_slots (a : Nat) (f : Axis → Axis) : (s.modAxis a f).slots = s.slots := rfl
@[simp] theorem modAxis_stations (a : Nat) (f : Axis → Axis) : (s.modAxis a f).stations = s.stations := rfl
@[simp] theorem modAxis_record (a : Nat) (f : Axis → Axis) : (s.modAxis a f).record = s.record := rfl
@[simp] theorem modAxis_tones (a : Nat) (f : Axis → Axis) : (s.modAxis a f).tones = s.tones := rfl
@[simp] theorem modAxis_leading (a : Nat) (f : Axis → Axis) : (s.modAxis a f).leading = s.leading := rfl
@[simp] theorem modAxis_stitches (a : Nat) (f : Axis → Axis) : (s.modAxis a f).stitches = s.stitches := rfl
@[simp] theorem modAxis_lines (a : Nat) (f : Axis → Axis) : (s.modAxis a f).lines = s.lines := rfl
@[simp] theorem modAxis_played (a : Nat) (f : Axis → Axis) : (s.modAxis a f).played = s.played := rfl
@[simp] theorem modAxis_lanes (a : Nat) (f : Axis → Axis) : (s.modAxis a f).lanes = s.lanes := rfl
@[simp] theorem modAxis_laneResult (a : Nat) (f : Axis → Axis) : (s.modAxis a f).laneResult = s.laneResult := rfl
@[simp] theorem modAxis_laneCmd (a : Nat) (f : Axis → Axis) : (s.modAxis a f).laneCmd = s.laneCmd := rfl
@[simp] theorem modAxis_flips (a : Nat) (f : Axis → Axis) : (s.modAxis a f).flips = s.flips := rfl
@[simp] theorem modAxis_blends (a : Nat) (f : Axis → Axis) : (s.modAxis a f).blends = s.blends := rfl
@[simp] theorem modAxis_scanners (a : Nat) (f : Axis → Axis) : (s.modAxis a f).scanners = s.scanners := rfl
@[simp] theorem modAxis_links (a : Nat) (f : Axis → Axis) : (s.modAxis a f).links = s.links := rfl
@[simp] theorem modAxis_chans (a : Nat) (f : Axis → Axis) : (s.modAxis a f).chans = s.chans := rfl
@[simp] theorem modAxis_latches (a : Nat) (f : Axis → Axis) : (s.modAxis a f).latches = s.latches := rfl
@[simp] theorem modAxis_compares (a : Nat) (f : Axis → Axis) : (s.modAxis a f).compares = s.compares := rfl
@[simp] theorem modAxis_transport (a : Nat) (f : Axis → Axis) : (s.modAxis a f).transport = s.transport := rfl
@[simp] theorem modAxis_slotsL (a : Nat) (f : Axis → Axis) : (s.modAxis a f).slotsL = s.slotsL := rfl
@[simp] theorem modAxis_conv0 (a : Nat) (f : Axis → Axis) : (s.modAxis a f).conv0 = s.conv0 := rfl
@[simp] theorem modAxis_conv1 (a : Nat) (f : Axis → Axis) : (s.modAxis a f).conv1 = s.conv1 := rfl
@[simp] theorem modAxis_dsInputs (a : Nat) (f : Axis → Axis) : (s.modAxis a f).dsInputs = s.dsInputs := rfl
@[simp] theorem modAxis_hv (a : Nat) (f : Axis → Axis) : (s.modAxis a f).hv = s.hv := rfl
@[simp] theorem modAxis_zones (a : Nat) (f : Axis → Axis) : (s.modAxis a f).zones = s.zones := rfl
@[simp] theorem modAxis_nip (a : Nat) (f : Axis → Axis) : (s.modAxis a f).nip = s.nip := rfl
@[simp] theorem modAxis_clocks (a : Nat) (f : Axis → Axis) : (s.modAxis a f).clocks = s.clocks := rfl
@[simp] theorem modAxis_dividers (a : Nat) (f : Axis → Axis) : (s.modAxis a f).dividers = s.dividers := rfl
@[simp] theorem modAxis_group (a : Nat) (f : Axis → Axis) : (s.modAxis a f).group = s.group := rfl
@[simp] theorem modAxis_haling (a : Nat) (f : Axis → Axis) : (s.modAxis a f).haling = s.haling := rfl
@[simp] theorem modAxis_power (a : Nat) (f : Axis → Axis) : (s.modAxis a f).power = s.power := rfl
@[simp] theorem modAxis_thermal (a : Nat) (f : Axis → Axis) : (s.modAxis a f).thermal = s.thermal := rfl
@[simp] theorem modAxis_thermalCeiling (a : Nat) (f : Axis → Axis) : (s.modAxis a f).thermalCeiling = s.thermalCeiling := rfl
@[simp] theorem modAxis_flash (a : Nat) (f : Axis → Axis) : (s.modAxis a f).flash = s.flash := rfl
@[simp] theorem modAxis_straps (a : Nat) (f : Axis → Axis) : (s.modAxis a f).straps = s.straps := rfl
@[simp] theorem modAxis_jtag (a : Nat) (f : Axis → Axis) : (s.modAxis a f).jtag = s.jtag := rfl
@[simp] theorem modAxis_intake (a : Nat) (f : Axis → Axis) : (s.modAxis a f).intake = s.intake := rfl
@[simp] theorem modAxis_store (a : Nat) (f : Axis → Axis) : (s.modAxis a f).store = s.store := rfl
@[simp] theorem modAxis_hazard (a : Nat) (f : Axis → Axis) : (s.modAxis a f).hazard = s.hazard := rfl
@[simp] theorem modAxis_sealed (a : Nat) (f : Axis → Axis) : (s.modAxis a f).sealed = s.sealed := rfl
@[simp] theorem modAxis_fuses (a : Nat) (f : Axis → Axis) : (s.modAxis a f).fuses = s.fuses := rfl
@[simp] theorem modAxis_faults (a : Nat) (f : Axis → Axis) : (s.modAxis a f).faults = s.faults := rfl
@[simp] theorem modAxis_dies (a : Nat) (f : Axis → Axis) : (s.modAxis a f).dies = s.dies := rfl
@[simp] theorem modAxis_inject (a : Nat) (f : Axis → Axis) : (s.modAxis a f).inject = s.inject := rfl
@[simp] theorem modAxis_nmt (a : Nat) (f : Axis → Axis) : (s.modAxis a f).nmt = s.nmt := rfl
@[simp] theorem modAxis_can (a : Nat) (f : Axis → Axis) : (s.modAxis a f).can = s.can := rfl
@[simp] theorem modAxis_usdo (a : Nat) (f : Axis → Axis) : (s.modAxis a f).usdo = s.usdo := rfl
@[simp] theorem modAxis_mirrors (a : Nat) (f : Axis → Axis) : (s.modAxis a f).mirrors = s.mirrors := rfl
@[simp] theorem modAxis_mirrorQueue (a : Nat) (f : Axis → Axis) : (s.modAxis a f).mirrorQueue = s.mirrorQueue := rfl
@[simp] theorem modAxis_trace (a : Nat) (f : Axis → Axis) : (s.modAxis a f).trace = s.trace := rfl

/-! `modLoop` changes `slotsL` alone. -/

@[simp] theorem modLoop_pending (j : Nat) (f : LoopSlot → LoopSlot) : (s.modLoop j f).pending = s.pending := rfl
@[simp] theorem modLoop_resp (j : Nat) (f : LoopSlot → LoopSlot) : (s.modLoop j f).resp = s.resp := rfl
@[simp] theorem modLoop_answer (j : Nat) (f : LoopSlot → LoopSlot) : (s.modLoop j f).answer = s.answer := rfl
@[simp] theorem modLoop_out (j : Nat) (f : LoopSlot → LoopSlot) : (s.modLoop j f).out = s.out := rfl
@[simp] theorem modLoop_freeCount (j : Nat) (f : LoopSlot → LoopSlot) : (s.modLoop j f).freeCount = s.freeCount := rfl
@[simp] theorem modLoop_variant (j : Nat) (f : LoopSlot → LoopSlot) : (s.modLoop j f).variant = s.variant := rfl
@[simp] theorem modLoop_timebase (j : Nat) (f : LoopSlot → LoopSlot) : (s.modLoop j f).timebase = s.timebase := rfl
@[simp] theorem modLoop_od (j : Nat) (f : LoopSlot → LoopSlot) : (s.modLoop j f).od = s.od := rfl
@[simp] theorem modLoop_domains (j : Nat) (f : LoopSlot → LoopSlot) : (s.modLoop j f).domains = s.domains := rfl
@[simp] theorem modLoop_web (j : Nat) (f : LoopSlot → LoopSlot) : (s.modLoop j f).web = s.web := rfl
@[simp] theorem modLoop_tt (j : Nat) (f : LoopSlot → LoopSlot) : (s.modLoop j f).tt = s.tt := rfl
@[simp] theorem modLoop_slots (j : Nat) (f : LoopSlot → LoopSlot) : (s.modLoop j f).slots = s.slots := rfl
@[simp] theorem modLoop_stations (j : Nat) (f : LoopSlot → LoopSlot) : (s.modLoop j f).stations = s.stations := rfl
@[simp] theorem modLoop_record (j : Nat) (f : LoopSlot → LoopSlot) : (s.modLoop j f).record = s.record := rfl
@[simp] theorem modLoop_tones (j : Nat) (f : LoopSlot → LoopSlot) : (s.modLoop j f).tones = s.tones := rfl
@[simp] theorem modLoop_leading (j : Nat) (f : LoopSlot → LoopSlot) : (s.modLoop j f).leading = s.leading := rfl
@[simp] theorem modLoop_stitches (j : Nat) (f : LoopSlot → LoopSlot) : (s.modLoop j f).stitches = s.stitches := rfl
@[simp] theorem modLoop_lines (j : Nat) (f : LoopSlot → LoopSlot) : (s.modLoop j f).lines = s.lines := rfl
@[simp] theorem modLoop_played (j : Nat) (f : LoopSlot → LoopSlot) : (s.modLoop j f).played = s.played := rfl
@[simp] theorem modLoop_lanes (j : Nat) (f : LoopSlot → LoopSlot) : (s.modLoop j f).lanes = s.lanes := rfl
@[simp] theorem modLoop_laneResult (j : Nat) (f : LoopSlot → LoopSlot) : (s.modLoop j f).laneResult = s.laneResult := rfl
@[simp] theorem modLoop_laneCmd (j : Nat) (f : LoopSlot → LoopSlot) : (s.modLoop j f).laneCmd = s.laneCmd := rfl
@[simp] theorem modLoop_flips (j : Nat) (f : LoopSlot → LoopSlot) : (s.modLoop j f).flips = s.flips := rfl
@[simp] theorem modLoop_blends (j : Nat) (f : LoopSlot → LoopSlot) : (s.modLoop j f).blends = s.blends := rfl
@[simp] theorem modLoop_scanners (j : Nat) (f : LoopSlot → LoopSlot) : (s.modLoop j f).scanners = s.scanners := rfl
@[simp] theorem modLoop_links (j : Nat) (f : LoopSlot → LoopSlot) : (s.modLoop j f).links = s.links := rfl
@[simp] theorem modLoop_chans (j : Nat) (f : LoopSlot → LoopSlot) : (s.modLoop j f).chans = s.chans := rfl
@[simp] theorem modLoop_latches (j : Nat) (f : LoopSlot → LoopSlot) : (s.modLoop j f).latches = s.latches := rfl
@[simp] theorem modLoop_compares (j : Nat) (f : LoopSlot → LoopSlot) : (s.modLoop j f).compares = s.compares := rfl
@[simp] theorem modLoop_axes (j : Nat) (f : LoopSlot → LoopSlot) : (s.modLoop j f).axes = s.axes := rfl
@[simp] theorem modLoop_transport (j : Nat) (f : LoopSlot → LoopSlot) : (s.modLoop j f).transport = s.transport := rfl
@[simp] theorem modLoop_conv0 (j : Nat) (f : LoopSlot → LoopSlot) : (s.modLoop j f).conv0 = s.conv0 := rfl
@[simp] theorem modLoop_conv1 (j : Nat) (f : LoopSlot → LoopSlot) : (s.modLoop j f).conv1 = s.conv1 := rfl
@[simp] theorem modLoop_dsInputs (j : Nat) (f : LoopSlot → LoopSlot) : (s.modLoop j f).dsInputs = s.dsInputs := rfl
@[simp] theorem modLoop_hv (j : Nat) (f : LoopSlot → LoopSlot) : (s.modLoop j f).hv = s.hv := rfl
@[simp] theorem modLoop_zones (j : Nat) (f : LoopSlot → LoopSlot) : (s.modLoop j f).zones = s.zones := rfl
@[simp] theorem modLoop_nip (j : Nat) (f : LoopSlot → LoopSlot) : (s.modLoop j f).nip = s.nip := rfl
@[simp] theorem modLoop_clocks (j : Nat) (f : LoopSlot → LoopSlot) : (s.modLoop j f).clocks = s.clocks := rfl
@[simp] theorem modLoop_dividers (j : Nat) (f : LoopSlot → LoopSlot) : (s.modLoop j f).dividers = s.dividers := rfl
@[simp] theorem modLoop_group (j : Nat) (f : LoopSlot → LoopSlot) : (s.modLoop j f).group = s.group := rfl
@[simp] theorem modLoop_haling (j : Nat) (f : LoopSlot → LoopSlot) : (s.modLoop j f).haling = s.haling := rfl
@[simp] theorem modLoop_power (j : Nat) (f : LoopSlot → LoopSlot) : (s.modLoop j f).power = s.power := rfl
@[simp] theorem modLoop_thermal (j : Nat) (f : LoopSlot → LoopSlot) : (s.modLoop j f).thermal = s.thermal := rfl
@[simp] theorem modLoop_thermalCeiling (j : Nat) (f : LoopSlot → LoopSlot) : (s.modLoop j f).thermalCeiling = s.thermalCeiling := rfl
@[simp] theorem modLoop_flash (j : Nat) (f : LoopSlot → LoopSlot) : (s.modLoop j f).flash = s.flash := rfl
@[simp] theorem modLoop_straps (j : Nat) (f : LoopSlot → LoopSlot) : (s.modLoop j f).straps = s.straps := rfl
@[simp] theorem modLoop_jtag (j : Nat) (f : LoopSlot → LoopSlot) : (s.modLoop j f).jtag = s.jtag := rfl
@[simp] theorem modLoop_intake (j : Nat) (f : LoopSlot → LoopSlot) : (s.modLoop j f).intake = s.intake := rfl
@[simp] theorem modLoop_store (j : Nat) (f : LoopSlot → LoopSlot) : (s.modLoop j f).store = s.store := rfl
@[simp] theorem modLoop_hazard (j : Nat) (f : LoopSlot → LoopSlot) : (s.modLoop j f).hazard = s.hazard := rfl
@[simp] theorem modLoop_sealed (j : Nat) (f : LoopSlot → LoopSlot) : (s.modLoop j f).sealed = s.sealed := rfl
@[simp] theorem modLoop_fuses (j : Nat) (f : LoopSlot → LoopSlot) : (s.modLoop j f).fuses = s.fuses := rfl
@[simp] theorem modLoop_faults (j : Nat) (f : LoopSlot → LoopSlot) : (s.modLoop j f).faults = s.faults := rfl
@[simp] theorem modLoop_dies (j : Nat) (f : LoopSlot → LoopSlot) : (s.modLoop j f).dies = s.dies := rfl
@[simp] theorem modLoop_inject (j : Nat) (f : LoopSlot → LoopSlot) : (s.modLoop j f).inject = s.inject := rfl
@[simp] theorem modLoop_nmt (j : Nat) (f : LoopSlot → LoopSlot) : (s.modLoop j f).nmt = s.nmt := rfl
@[simp] theorem modLoop_can (j : Nat) (f : LoopSlot → LoopSlot) : (s.modLoop j f).can = s.can := rfl
@[simp] theorem modLoop_usdo (j : Nat) (f : LoopSlot → LoopSlot) : (s.modLoop j f).usdo = s.usdo := rfl
@[simp] theorem modLoop_mirrors (j : Nat) (f : LoopSlot → LoopSlot) : (s.modLoop j f).mirrors = s.mirrors := rfl
@[simp] theorem modLoop_mirrorQueue (j : Nat) (f : LoopSlot → LoopSlot) : (s.modLoop j f).mirrorQueue = s.mirrorQueue := rfl
@[simp] theorem modLoop_trace (j : Nat) (f : LoopSlot → LoopSlot) : (s.modLoop j f).trace = s.trace := rfl

/-! `modDs` changes `dsInputs` alone. -/

@[simp] theorem modDs_pending (i : Nat) (f : DsInput → DsInput) : (s.modDs i f).pending = s.pending := rfl
@[simp] theorem modDs_resp (i : Nat) (f : DsInput → DsInput) : (s.modDs i f).resp = s.resp := rfl
@[simp] theorem modDs_answer (i : Nat) (f : DsInput → DsInput) : (s.modDs i f).answer = s.answer := rfl
@[simp] theorem modDs_out (i : Nat) (f : DsInput → DsInput) : (s.modDs i f).out = s.out := rfl
@[simp] theorem modDs_freeCount (i : Nat) (f : DsInput → DsInput) : (s.modDs i f).freeCount = s.freeCount := rfl
@[simp] theorem modDs_variant (i : Nat) (f : DsInput → DsInput) : (s.modDs i f).variant = s.variant := rfl
@[simp] theorem modDs_timebase (i : Nat) (f : DsInput → DsInput) : (s.modDs i f).timebase = s.timebase := rfl
@[simp] theorem modDs_od (i : Nat) (f : DsInput → DsInput) : (s.modDs i f).od = s.od := rfl
@[simp] theorem modDs_domains (i : Nat) (f : DsInput → DsInput) : (s.modDs i f).domains = s.domains := rfl
@[simp] theorem modDs_web (i : Nat) (f : DsInput → DsInput) : (s.modDs i f).web = s.web := rfl
@[simp] theorem modDs_tt (i : Nat) (f : DsInput → DsInput) : (s.modDs i f).tt = s.tt := rfl
@[simp] theorem modDs_slots (i : Nat) (f : DsInput → DsInput) : (s.modDs i f).slots = s.slots := rfl
@[simp] theorem modDs_stations (i : Nat) (f : DsInput → DsInput) : (s.modDs i f).stations = s.stations := rfl
@[simp] theorem modDs_record (i : Nat) (f : DsInput → DsInput) : (s.modDs i f).record = s.record := rfl
@[simp] theorem modDs_tones (i : Nat) (f : DsInput → DsInput) : (s.modDs i f).tones = s.tones := rfl
@[simp] theorem modDs_leading (i : Nat) (f : DsInput → DsInput) : (s.modDs i f).leading = s.leading := rfl
@[simp] theorem modDs_stitches (i : Nat) (f : DsInput → DsInput) : (s.modDs i f).stitches = s.stitches := rfl
@[simp] theorem modDs_lines (i : Nat) (f : DsInput → DsInput) : (s.modDs i f).lines = s.lines := rfl
@[simp] theorem modDs_played (i : Nat) (f : DsInput → DsInput) : (s.modDs i f).played = s.played := rfl
@[simp] theorem modDs_lanes (i : Nat) (f : DsInput → DsInput) : (s.modDs i f).lanes = s.lanes := rfl
@[simp] theorem modDs_laneResult (i : Nat) (f : DsInput → DsInput) : (s.modDs i f).laneResult = s.laneResult := rfl
@[simp] theorem modDs_laneCmd (i : Nat) (f : DsInput → DsInput) : (s.modDs i f).laneCmd = s.laneCmd := rfl
@[simp] theorem modDs_flips (i : Nat) (f : DsInput → DsInput) : (s.modDs i f).flips = s.flips := rfl
@[simp] theorem modDs_blends (i : Nat) (f : DsInput → DsInput) : (s.modDs i f).blends = s.blends := rfl
@[simp] theorem modDs_scanners (i : Nat) (f : DsInput → DsInput) : (s.modDs i f).scanners = s.scanners := rfl
@[simp] theorem modDs_links (i : Nat) (f : DsInput → DsInput) : (s.modDs i f).links = s.links := rfl
@[simp] theorem modDs_chans (i : Nat) (f : DsInput → DsInput) : (s.modDs i f).chans = s.chans := rfl
@[simp] theorem modDs_latches (i : Nat) (f : DsInput → DsInput) : (s.modDs i f).latches = s.latches := rfl
@[simp] theorem modDs_compares (i : Nat) (f : DsInput → DsInput) : (s.modDs i f).compares = s.compares := rfl
@[simp] theorem modDs_axes (i : Nat) (f : DsInput → DsInput) : (s.modDs i f).axes = s.axes := rfl
@[simp] theorem modDs_transport (i : Nat) (f : DsInput → DsInput) : (s.modDs i f).transport = s.transport := rfl
@[simp] theorem modDs_slotsL (i : Nat) (f : DsInput → DsInput) : (s.modDs i f).slotsL = s.slotsL := rfl
@[simp] theorem modDs_conv0 (i : Nat) (f : DsInput → DsInput) : (s.modDs i f).conv0 = s.conv0 := rfl
@[simp] theorem modDs_conv1 (i : Nat) (f : DsInput → DsInput) : (s.modDs i f).conv1 = s.conv1 := rfl
@[simp] theorem modDs_hv (i : Nat) (f : DsInput → DsInput) : (s.modDs i f).hv = s.hv := rfl
@[simp] theorem modDs_zones (i : Nat) (f : DsInput → DsInput) : (s.modDs i f).zones = s.zones := rfl
@[simp] theorem modDs_nip (i : Nat) (f : DsInput → DsInput) : (s.modDs i f).nip = s.nip := rfl
@[simp] theorem modDs_clocks (i : Nat) (f : DsInput → DsInput) : (s.modDs i f).clocks = s.clocks := rfl
@[simp] theorem modDs_dividers (i : Nat) (f : DsInput → DsInput) : (s.modDs i f).dividers = s.dividers := rfl
@[simp] theorem modDs_group (i : Nat) (f : DsInput → DsInput) : (s.modDs i f).group = s.group := rfl
@[simp] theorem modDs_haling (i : Nat) (f : DsInput → DsInput) : (s.modDs i f).haling = s.haling := rfl
@[simp] theorem modDs_power (i : Nat) (f : DsInput → DsInput) : (s.modDs i f).power = s.power := rfl
@[simp] theorem modDs_thermal (i : Nat) (f : DsInput → DsInput) : (s.modDs i f).thermal = s.thermal := rfl
@[simp] theorem modDs_thermalCeiling (i : Nat) (f : DsInput → DsInput) : (s.modDs i f).thermalCeiling = s.thermalCeiling := rfl
@[simp] theorem modDs_flash (i : Nat) (f : DsInput → DsInput) : (s.modDs i f).flash = s.flash := rfl
@[simp] theorem modDs_straps (i : Nat) (f : DsInput → DsInput) : (s.modDs i f).straps = s.straps := rfl
@[simp] theorem modDs_jtag (i : Nat) (f : DsInput → DsInput) : (s.modDs i f).jtag = s.jtag := rfl
@[simp] theorem modDs_intake (i : Nat) (f : DsInput → DsInput) : (s.modDs i f).intake = s.intake := rfl
@[simp] theorem modDs_store (i : Nat) (f : DsInput → DsInput) : (s.modDs i f).store = s.store := rfl
@[simp] theorem modDs_hazard (i : Nat) (f : DsInput → DsInput) : (s.modDs i f).hazard = s.hazard := rfl
@[simp] theorem modDs_sealed (i : Nat) (f : DsInput → DsInput) : (s.modDs i f).sealed = s.sealed := rfl
@[simp] theorem modDs_fuses (i : Nat) (f : DsInput → DsInput) : (s.modDs i f).fuses = s.fuses := rfl
@[simp] theorem modDs_faults (i : Nat) (f : DsInput → DsInput) : (s.modDs i f).faults = s.faults := rfl
@[simp] theorem modDs_dies (i : Nat) (f : DsInput → DsInput) : (s.modDs i f).dies = s.dies := rfl
@[simp] theorem modDs_inject (i : Nat) (f : DsInput → DsInput) : (s.modDs i f).inject = s.inject := rfl
@[simp] theorem modDs_nmt (i : Nat) (f : DsInput → DsInput) : (s.modDs i f).nmt = s.nmt := rfl
@[simp] theorem modDs_can (i : Nat) (f : DsInput → DsInput) : (s.modDs i f).can = s.can := rfl
@[simp] theorem modDs_usdo (i : Nat) (f : DsInput → DsInput) : (s.modDs i f).usdo = s.usdo := rfl
@[simp] theorem modDs_mirrors (i : Nat) (f : DsInput → DsInput) : (s.modDs i f).mirrors = s.mirrors := rfl
@[simp] theorem modDs_mirrorQueue (i : Nat) (f : DsInput → DsInput) : (s.modDs i f).mirrorQueue = s.mirrorQueue := rfl
@[simp] theorem modDs_trace (i : Nat) (f : DsInput → DsInput) : (s.modDs i f).trace = s.trace := rfl

/-! `modHv` changes `hv` alone. -/

@[simp] theorem modHv_pending (h : Nat) (f : HvChannel → HvChannel) : (s.modHv h f).pending = s.pending := rfl
@[simp] theorem modHv_resp (h : Nat) (f : HvChannel → HvChannel) : (s.modHv h f).resp = s.resp := rfl
@[simp] theorem modHv_answer (h : Nat) (f : HvChannel → HvChannel) : (s.modHv h f).answer = s.answer := rfl
@[simp] theorem modHv_out (h : Nat) (f : HvChannel → HvChannel) : (s.modHv h f).out = s.out := rfl
@[simp] theorem modHv_freeCount (h : Nat) (f : HvChannel → HvChannel) : (s.modHv h f).freeCount = s.freeCount := rfl
@[simp] theorem modHv_variant (h : Nat) (f : HvChannel → HvChannel) : (s.modHv h f).variant = s.variant := rfl
@[simp] theorem modHv_timebase (h : Nat) (f : HvChannel → HvChannel) : (s.modHv h f).timebase = s.timebase := rfl
@[simp] theorem modHv_od (h : Nat) (f : HvChannel → HvChannel) : (s.modHv h f).od = s.od := rfl
@[simp] theorem modHv_domains (h : Nat) (f : HvChannel → HvChannel) : (s.modHv h f).domains = s.domains := rfl
@[simp] theorem modHv_web (h : Nat) (f : HvChannel → HvChannel) : (s.modHv h f).web = s.web := rfl
@[simp] theorem modHv_tt (h : Nat) (f : HvChannel → HvChannel) : (s.modHv h f).tt = s.tt := rfl
@[simp] theorem modHv_slots (h : Nat) (f : HvChannel → HvChannel) : (s.modHv h f).slots = s.slots := rfl
@[simp] theorem modHv_stations (h : Nat) (f : HvChannel → HvChannel) : (s.modHv h f).stations = s.stations := rfl
@[simp] theorem modHv_record (h : Nat) (f : HvChannel → HvChannel) : (s.modHv h f).record = s.record := rfl
@[simp] theorem modHv_tones (h : Nat) (f : HvChannel → HvChannel) : (s.modHv h f).tones = s.tones := rfl
@[simp] theorem modHv_leading (h : Nat) (f : HvChannel → HvChannel) : (s.modHv h f).leading = s.leading := rfl
@[simp] theorem modHv_stitches (h : Nat) (f : HvChannel → HvChannel) : (s.modHv h f).stitches = s.stitches := rfl
@[simp] theorem modHv_lines (h : Nat) (f : HvChannel → HvChannel) : (s.modHv h f).lines = s.lines := rfl
@[simp] theorem modHv_played (h : Nat) (f : HvChannel → HvChannel) : (s.modHv h f).played = s.played := rfl
@[simp] theorem modHv_lanes (h : Nat) (f : HvChannel → HvChannel) : (s.modHv h f).lanes = s.lanes := rfl
@[simp] theorem modHv_laneResult (h : Nat) (f : HvChannel → HvChannel) : (s.modHv h f).laneResult = s.laneResult := rfl
@[simp] theorem modHv_laneCmd (h : Nat) (f : HvChannel → HvChannel) : (s.modHv h f).laneCmd = s.laneCmd := rfl
@[simp] theorem modHv_flips (h : Nat) (f : HvChannel → HvChannel) : (s.modHv h f).flips = s.flips := rfl
@[simp] theorem modHv_blends (h : Nat) (f : HvChannel → HvChannel) : (s.modHv h f).blends = s.blends := rfl
@[simp] theorem modHv_scanners (h : Nat) (f : HvChannel → HvChannel) : (s.modHv h f).scanners = s.scanners := rfl
@[simp] theorem modHv_links (h : Nat) (f : HvChannel → HvChannel) : (s.modHv h f).links = s.links := rfl
@[simp] theorem modHv_chans (h : Nat) (f : HvChannel → HvChannel) : (s.modHv h f).chans = s.chans := rfl
@[simp] theorem modHv_latches (h : Nat) (f : HvChannel → HvChannel) : (s.modHv h f).latches = s.latches := rfl
@[simp] theorem modHv_compares (h : Nat) (f : HvChannel → HvChannel) : (s.modHv h f).compares = s.compares := rfl
@[simp] theorem modHv_axes (h : Nat) (f : HvChannel → HvChannel) : (s.modHv h f).axes = s.axes := rfl
@[simp] theorem modHv_transport (h : Nat) (f : HvChannel → HvChannel) : (s.modHv h f).transport = s.transport := rfl
@[simp] theorem modHv_slotsL (h : Nat) (f : HvChannel → HvChannel) : (s.modHv h f).slotsL = s.slotsL := rfl
@[simp] theorem modHv_conv0 (h : Nat) (f : HvChannel → HvChannel) : (s.modHv h f).conv0 = s.conv0 := rfl
@[simp] theorem modHv_conv1 (h : Nat) (f : HvChannel → HvChannel) : (s.modHv h f).conv1 = s.conv1 := rfl
@[simp] theorem modHv_dsInputs (h : Nat) (f : HvChannel → HvChannel) : (s.modHv h f).dsInputs = s.dsInputs := rfl
@[simp] theorem modHv_zones (h : Nat) (f : HvChannel → HvChannel) : (s.modHv h f).zones = s.zones := rfl
@[simp] theorem modHv_nip (h : Nat) (f : HvChannel → HvChannel) : (s.modHv h f).nip = s.nip := rfl
@[simp] theorem modHv_clocks (h : Nat) (f : HvChannel → HvChannel) : (s.modHv h f).clocks = s.clocks := rfl
@[simp] theorem modHv_dividers (h : Nat) (f : HvChannel → HvChannel) : (s.modHv h f).dividers = s.dividers := rfl
@[simp] theorem modHv_group (h : Nat) (f : HvChannel → HvChannel) : (s.modHv h f).group = s.group := rfl
@[simp] theorem modHv_haling (h : Nat) (f : HvChannel → HvChannel) : (s.modHv h f).haling = s.haling := rfl
@[simp] theorem modHv_power (h : Nat) (f : HvChannel → HvChannel) : (s.modHv h f).power = s.power := rfl
@[simp] theorem modHv_thermal (h : Nat) (f : HvChannel → HvChannel) : (s.modHv h f).thermal = s.thermal := rfl
@[simp] theorem modHv_thermalCeiling (h : Nat) (f : HvChannel → HvChannel) : (s.modHv h f).thermalCeiling = s.thermalCeiling := rfl
@[simp] theorem modHv_flash (h : Nat) (f : HvChannel → HvChannel) : (s.modHv h f).flash = s.flash := rfl
@[simp] theorem modHv_straps (h : Nat) (f : HvChannel → HvChannel) : (s.modHv h f).straps = s.straps := rfl
@[simp] theorem modHv_jtag (h : Nat) (f : HvChannel → HvChannel) : (s.modHv h f).jtag = s.jtag := rfl
@[simp] theorem modHv_intake (h : Nat) (f : HvChannel → HvChannel) : (s.modHv h f).intake = s.intake := rfl
@[simp] theorem modHv_store (h : Nat) (f : HvChannel → HvChannel) : (s.modHv h f).store = s.store := rfl
@[simp] theorem modHv_hazard (h : Nat) (f : HvChannel → HvChannel) : (s.modHv h f).hazard = s.hazard := rfl
@[simp] theorem modHv_sealed (h : Nat) (f : HvChannel → HvChannel) : (s.modHv h f).sealed = s.sealed := rfl
@[simp] theorem modHv_fuses (h : Nat) (f : HvChannel → HvChannel) : (s.modHv h f).fuses = s.fuses := rfl
@[simp] theorem modHv_faults (h : Nat) (f : HvChannel → HvChannel) : (s.modHv h f).faults = s.faults := rfl
@[simp] theorem modHv_dies (h : Nat) (f : HvChannel → HvChannel) : (s.modHv h f).dies = s.dies := rfl
@[simp] theorem modHv_inject (h : Nat) (f : HvChannel → HvChannel) : (s.modHv h f).inject = s.inject := rfl
@[simp] theorem modHv_nmt (h : Nat) (f : HvChannel → HvChannel) : (s.modHv h f).nmt = s.nmt := rfl
@[simp] theorem modHv_can (h : Nat) (f : HvChannel → HvChannel) : (s.modHv h f).can = s.can := rfl
@[simp] theorem modHv_usdo (h : Nat) (f : HvChannel → HvChannel) : (s.modHv h f).usdo = s.usdo := rfl
@[simp] theorem modHv_mirrors (h : Nat) (f : HvChannel → HvChannel) : (s.modHv h f).mirrors = s.mirrors := rfl
@[simp] theorem modHv_mirrorQueue (h : Nat) (f : HvChannel → HvChannel) : (s.modHv h f).mirrorQueue = s.mirrorQueue := rfl
@[simp] theorem modHv_trace (h : Nat) (f : HvChannel → HvChannel) : (s.modHv h f).trace = s.trace := rfl

/-! `modZone` changes `zones` alone. -/

@[simp] theorem modZone_pending (z : Nat) (f : Zone → Zone) : (s.modZone z f).pending = s.pending := rfl
@[simp] theorem modZone_resp (z : Nat) (f : Zone → Zone) : (s.modZone z f).resp = s.resp := rfl
@[simp] theorem modZone_answer (z : Nat) (f : Zone → Zone) : (s.modZone z f).answer = s.answer := rfl
@[simp] theorem modZone_out (z : Nat) (f : Zone → Zone) : (s.modZone z f).out = s.out := rfl
@[simp] theorem modZone_freeCount (z : Nat) (f : Zone → Zone) : (s.modZone z f).freeCount = s.freeCount := rfl
@[simp] theorem modZone_variant (z : Nat) (f : Zone → Zone) : (s.modZone z f).variant = s.variant := rfl
@[simp] theorem modZone_timebase (z : Nat) (f : Zone → Zone) : (s.modZone z f).timebase = s.timebase := rfl
@[simp] theorem modZone_od (z : Nat) (f : Zone → Zone) : (s.modZone z f).od = s.od := rfl
@[simp] theorem modZone_domains (z : Nat) (f : Zone → Zone) : (s.modZone z f).domains = s.domains := rfl
@[simp] theorem modZone_web (z : Nat) (f : Zone → Zone) : (s.modZone z f).web = s.web := rfl
@[simp] theorem modZone_tt (z : Nat) (f : Zone → Zone) : (s.modZone z f).tt = s.tt := rfl
@[simp] theorem modZone_slots (z : Nat) (f : Zone → Zone) : (s.modZone z f).slots = s.slots := rfl
@[simp] theorem modZone_stations (z : Nat) (f : Zone → Zone) : (s.modZone z f).stations = s.stations := rfl
@[simp] theorem modZone_record (z : Nat) (f : Zone → Zone) : (s.modZone z f).record = s.record := rfl
@[simp] theorem modZone_tones (z : Nat) (f : Zone → Zone) : (s.modZone z f).tones = s.tones := rfl
@[simp] theorem modZone_leading (z : Nat) (f : Zone → Zone) : (s.modZone z f).leading = s.leading := rfl
@[simp] theorem modZone_stitches (z : Nat) (f : Zone → Zone) : (s.modZone z f).stitches = s.stitches := rfl
@[simp] theorem modZone_lines (z : Nat) (f : Zone → Zone) : (s.modZone z f).lines = s.lines := rfl
@[simp] theorem modZone_played (z : Nat) (f : Zone → Zone) : (s.modZone z f).played = s.played := rfl
@[simp] theorem modZone_lanes (z : Nat) (f : Zone → Zone) : (s.modZone z f).lanes = s.lanes := rfl
@[simp] theorem modZone_laneResult (z : Nat) (f : Zone → Zone) : (s.modZone z f).laneResult = s.laneResult := rfl
@[simp] theorem modZone_laneCmd (z : Nat) (f : Zone → Zone) : (s.modZone z f).laneCmd = s.laneCmd := rfl
@[simp] theorem modZone_flips (z : Nat) (f : Zone → Zone) : (s.modZone z f).flips = s.flips := rfl
@[simp] theorem modZone_blends (z : Nat) (f : Zone → Zone) : (s.modZone z f).blends = s.blends := rfl
@[simp] theorem modZone_scanners (z : Nat) (f : Zone → Zone) : (s.modZone z f).scanners = s.scanners := rfl
@[simp] theorem modZone_links (z : Nat) (f : Zone → Zone) : (s.modZone z f).links = s.links := rfl
@[simp] theorem modZone_chans (z : Nat) (f : Zone → Zone) : (s.modZone z f).chans = s.chans := rfl
@[simp] theorem modZone_latches (z : Nat) (f : Zone → Zone) : (s.modZone z f).latches = s.latches := rfl
@[simp] theorem modZone_compares (z : Nat) (f : Zone → Zone) : (s.modZone z f).compares = s.compares := rfl
@[simp] theorem modZone_axes (z : Nat) (f : Zone → Zone) : (s.modZone z f).axes = s.axes := rfl
@[simp] theorem modZone_transport (z : Nat) (f : Zone → Zone) : (s.modZone z f).transport = s.transport := rfl
@[simp] theorem modZone_slotsL (z : Nat) (f : Zone → Zone) : (s.modZone z f).slotsL = s.slotsL := rfl
@[simp] theorem modZone_conv0 (z : Nat) (f : Zone → Zone) : (s.modZone z f).conv0 = s.conv0 := rfl
@[simp] theorem modZone_conv1 (z : Nat) (f : Zone → Zone) : (s.modZone z f).conv1 = s.conv1 := rfl
@[simp] theorem modZone_dsInputs (z : Nat) (f : Zone → Zone) : (s.modZone z f).dsInputs = s.dsInputs := rfl
@[simp] theorem modZone_hv (z : Nat) (f : Zone → Zone) : (s.modZone z f).hv = s.hv := rfl
@[simp] theorem modZone_nip (z : Nat) (f : Zone → Zone) : (s.modZone z f).nip = s.nip := rfl
@[simp] theorem modZone_clocks (z : Nat) (f : Zone → Zone) : (s.modZone z f).clocks = s.clocks := rfl
@[simp] theorem modZone_dividers (z : Nat) (f : Zone → Zone) : (s.modZone z f).dividers = s.dividers := rfl
@[simp] theorem modZone_group (z : Nat) (f : Zone → Zone) : (s.modZone z f).group = s.group := rfl
@[simp] theorem modZone_haling (z : Nat) (f : Zone → Zone) : (s.modZone z f).haling = s.haling := rfl
@[simp] theorem modZone_power (z : Nat) (f : Zone → Zone) : (s.modZone z f).power = s.power := rfl
@[simp] theorem modZone_thermal (z : Nat) (f : Zone → Zone) : (s.modZone z f).thermal = s.thermal := rfl
@[simp] theorem modZone_thermalCeiling (z : Nat) (f : Zone → Zone) : (s.modZone z f).thermalCeiling = s.thermalCeiling := rfl
@[simp] theorem modZone_flash (z : Nat) (f : Zone → Zone) : (s.modZone z f).flash = s.flash := rfl
@[simp] theorem modZone_straps (z : Nat) (f : Zone → Zone) : (s.modZone z f).straps = s.straps := rfl
@[simp] theorem modZone_jtag (z : Nat) (f : Zone → Zone) : (s.modZone z f).jtag = s.jtag := rfl
@[simp] theorem modZone_intake (z : Nat) (f : Zone → Zone) : (s.modZone z f).intake = s.intake := rfl
@[simp] theorem modZone_store (z : Nat) (f : Zone → Zone) : (s.modZone z f).store = s.store := rfl
@[simp] theorem modZone_hazard (z : Nat) (f : Zone → Zone) : (s.modZone z f).hazard = s.hazard := rfl
@[simp] theorem modZone_sealed (z : Nat) (f : Zone → Zone) : (s.modZone z f).sealed = s.sealed := rfl
@[simp] theorem modZone_fuses (z : Nat) (f : Zone → Zone) : (s.modZone z f).fuses = s.fuses := rfl
@[simp] theorem modZone_faults (z : Nat) (f : Zone → Zone) : (s.modZone z f).faults = s.faults := rfl
@[simp] theorem modZone_dies (z : Nat) (f : Zone → Zone) : (s.modZone z f).dies = s.dies := rfl
@[simp] theorem modZone_inject (z : Nat) (f : Zone → Zone) : (s.modZone z f).inject = s.inject := rfl
@[simp] theorem modZone_nmt (z : Nat) (f : Zone → Zone) : (s.modZone z f).nmt = s.nmt := rfl
@[simp] theorem modZone_can (z : Nat) (f : Zone → Zone) : (s.modZone z f).can = s.can := rfl
@[simp] theorem modZone_usdo (z : Nat) (f : Zone → Zone) : (s.modZone z f).usdo = s.usdo := rfl
@[simp] theorem modZone_mirrors (z : Nat) (f : Zone → Zone) : (s.modZone z f).mirrors = s.mirrors := rfl
@[simp] theorem modZone_mirrorQueue (z : Nat) (f : Zone → Zone) : (s.modZone z f).mirrorQueue = s.mirrorQueue := rfl
@[simp] theorem modZone_trace (z : Nat) (f : Zone → Zone) : (s.modZone z f).trace = s.trace := rfl

/-! `modClock` changes `clocks` alone. -/

@[simp] theorem modClock_pending (d : Nat) (f : DieClock → DieClock) : (s.modClock d f).pending = s.pending := rfl
@[simp] theorem modClock_resp (d : Nat) (f : DieClock → DieClock) : (s.modClock d f).resp = s.resp := rfl
@[simp] theorem modClock_answer (d : Nat) (f : DieClock → DieClock) : (s.modClock d f).answer = s.answer := rfl
@[simp] theorem modClock_out (d : Nat) (f : DieClock → DieClock) : (s.modClock d f).out = s.out := rfl
@[simp] theorem modClock_freeCount (d : Nat) (f : DieClock → DieClock) : (s.modClock d f).freeCount = s.freeCount := rfl
@[simp] theorem modClock_variant (d : Nat) (f : DieClock → DieClock) : (s.modClock d f).variant = s.variant := rfl
@[simp] theorem modClock_timebase (d : Nat) (f : DieClock → DieClock) : (s.modClock d f).timebase = s.timebase := rfl
@[simp] theorem modClock_od (d : Nat) (f : DieClock → DieClock) : (s.modClock d f).od = s.od := rfl
@[simp] theorem modClock_domains (d : Nat) (f : DieClock → DieClock) : (s.modClock d f).domains = s.domains := rfl
@[simp] theorem modClock_web (d : Nat) (f : DieClock → DieClock) : (s.modClock d f).web = s.web := rfl
@[simp] theorem modClock_tt (d : Nat) (f : DieClock → DieClock) : (s.modClock d f).tt = s.tt := rfl
@[simp] theorem modClock_slots (d : Nat) (f : DieClock → DieClock) : (s.modClock d f).slots = s.slots := rfl
@[simp] theorem modClock_stations (d : Nat) (f : DieClock → DieClock) : (s.modClock d f).stations = s.stations := rfl
@[simp] theorem modClock_record (d : Nat) (f : DieClock → DieClock) : (s.modClock d f).record = s.record := rfl
@[simp] theorem modClock_tones (d : Nat) (f : DieClock → DieClock) : (s.modClock d f).tones = s.tones := rfl
@[simp] theorem modClock_leading (d : Nat) (f : DieClock → DieClock) : (s.modClock d f).leading = s.leading := rfl
@[simp] theorem modClock_stitches (d : Nat) (f : DieClock → DieClock) : (s.modClock d f).stitches = s.stitches := rfl
@[simp] theorem modClock_lines (d : Nat) (f : DieClock → DieClock) : (s.modClock d f).lines = s.lines := rfl
@[simp] theorem modClock_played (d : Nat) (f : DieClock → DieClock) : (s.modClock d f).played = s.played := rfl
@[simp] theorem modClock_lanes (d : Nat) (f : DieClock → DieClock) : (s.modClock d f).lanes = s.lanes := rfl
@[simp] theorem modClock_laneResult (d : Nat) (f : DieClock → DieClock) : (s.modClock d f).laneResult = s.laneResult := rfl
@[simp] theorem modClock_laneCmd (d : Nat) (f : DieClock → DieClock) : (s.modClock d f).laneCmd = s.laneCmd := rfl
@[simp] theorem modClock_flips (d : Nat) (f : DieClock → DieClock) : (s.modClock d f).flips = s.flips := rfl
@[simp] theorem modClock_blends (d : Nat) (f : DieClock → DieClock) : (s.modClock d f).blends = s.blends := rfl
@[simp] theorem modClock_scanners (d : Nat) (f : DieClock → DieClock) : (s.modClock d f).scanners = s.scanners := rfl
@[simp] theorem modClock_links (d : Nat) (f : DieClock → DieClock) : (s.modClock d f).links = s.links := rfl
@[simp] theorem modClock_chans (d : Nat) (f : DieClock → DieClock) : (s.modClock d f).chans = s.chans := rfl
@[simp] theorem modClock_latches (d : Nat) (f : DieClock → DieClock) : (s.modClock d f).latches = s.latches := rfl
@[simp] theorem modClock_compares (d : Nat) (f : DieClock → DieClock) : (s.modClock d f).compares = s.compares := rfl
@[simp] theorem modClock_axes (d : Nat) (f : DieClock → DieClock) : (s.modClock d f).axes = s.axes := rfl
@[simp] theorem modClock_transport (d : Nat) (f : DieClock → DieClock) : (s.modClock d f).transport = s.transport := rfl
@[simp] theorem modClock_slotsL (d : Nat) (f : DieClock → DieClock) : (s.modClock d f).slotsL = s.slotsL := rfl
@[simp] theorem modClock_conv0 (d : Nat) (f : DieClock → DieClock) : (s.modClock d f).conv0 = s.conv0 := rfl
@[simp] theorem modClock_conv1 (d : Nat) (f : DieClock → DieClock) : (s.modClock d f).conv1 = s.conv1 := rfl
@[simp] theorem modClock_dsInputs (d : Nat) (f : DieClock → DieClock) : (s.modClock d f).dsInputs = s.dsInputs := rfl
@[simp] theorem modClock_hv (d : Nat) (f : DieClock → DieClock) : (s.modClock d f).hv = s.hv := rfl
@[simp] theorem modClock_zones (d : Nat) (f : DieClock → DieClock) : (s.modClock d f).zones = s.zones := rfl
@[simp] theorem modClock_nip (d : Nat) (f : DieClock → DieClock) : (s.modClock d f).nip = s.nip := rfl
@[simp] theorem modClock_dividers (d : Nat) (f : DieClock → DieClock) : (s.modClock d f).dividers = s.dividers := rfl
@[simp] theorem modClock_group (d : Nat) (f : DieClock → DieClock) : (s.modClock d f).group = s.group := rfl
@[simp] theorem modClock_haling (d : Nat) (f : DieClock → DieClock) : (s.modClock d f).haling = s.haling := rfl
@[simp] theorem modClock_power (d : Nat) (f : DieClock → DieClock) : (s.modClock d f).power = s.power := rfl
@[simp] theorem modClock_thermal (d : Nat) (f : DieClock → DieClock) : (s.modClock d f).thermal = s.thermal := rfl
@[simp] theorem modClock_thermalCeiling (d : Nat) (f : DieClock → DieClock) : (s.modClock d f).thermalCeiling = s.thermalCeiling := rfl
@[simp] theorem modClock_flash (d : Nat) (f : DieClock → DieClock) : (s.modClock d f).flash = s.flash := rfl
@[simp] theorem modClock_straps (d : Nat) (f : DieClock → DieClock) : (s.modClock d f).straps = s.straps := rfl
@[simp] theorem modClock_jtag (d : Nat) (f : DieClock → DieClock) : (s.modClock d f).jtag = s.jtag := rfl
@[simp] theorem modClock_intake (d : Nat) (f : DieClock → DieClock) : (s.modClock d f).intake = s.intake := rfl
@[simp] theorem modClock_store (d : Nat) (f : DieClock → DieClock) : (s.modClock d f).store = s.store := rfl
@[simp] theorem modClock_hazard (d : Nat) (f : DieClock → DieClock) : (s.modClock d f).hazard = s.hazard := rfl
@[simp] theorem modClock_sealed (d : Nat) (f : DieClock → DieClock) : (s.modClock d f).sealed = s.sealed := rfl
@[simp] theorem modClock_fuses (d : Nat) (f : DieClock → DieClock) : (s.modClock d f).fuses = s.fuses := rfl
@[simp] theorem modClock_faults (d : Nat) (f : DieClock → DieClock) : (s.modClock d f).faults = s.faults := rfl
@[simp] theorem modClock_dies (d : Nat) (f : DieClock → DieClock) : (s.modClock d f).dies = s.dies := rfl
@[simp] theorem modClock_inject (d : Nat) (f : DieClock → DieClock) : (s.modClock d f).inject = s.inject := rfl
@[simp] theorem modClock_nmt (d : Nat) (f : DieClock → DieClock) : (s.modClock d f).nmt = s.nmt := rfl
@[simp] theorem modClock_can (d : Nat) (f : DieClock → DieClock) : (s.modClock d f).can = s.can := rfl
@[simp] theorem modClock_usdo (d : Nat) (f : DieClock → DieClock) : (s.modClock d f).usdo = s.usdo := rfl
@[simp] theorem modClock_mirrors (d : Nat) (f : DieClock → DieClock) : (s.modClock d f).mirrors = s.mirrors := rfl
@[simp] theorem modClock_mirrorQueue (d : Nat) (f : DieClock → DieClock) : (s.modClock d f).mirrorQueue = s.mirrorQueue := rfl
@[simp] theorem modClock_trace (d : Nat) (f : DieClock → DieClock) : (s.modClock d f).trace = s.trace := rfl

/-! `modHeat` changes `thermal` alone. -/

@[simp] theorem modHeat_pending (d : Nat) (f : Thermal → Thermal) : (s.modHeat d f).pending = s.pending := rfl
@[simp] theorem modHeat_resp (d : Nat) (f : Thermal → Thermal) : (s.modHeat d f).resp = s.resp := rfl
@[simp] theorem modHeat_answer (d : Nat) (f : Thermal → Thermal) : (s.modHeat d f).answer = s.answer := rfl
@[simp] theorem modHeat_out (d : Nat) (f : Thermal → Thermal) : (s.modHeat d f).out = s.out := rfl
@[simp] theorem modHeat_freeCount (d : Nat) (f : Thermal → Thermal) : (s.modHeat d f).freeCount = s.freeCount := rfl
@[simp] theorem modHeat_variant (d : Nat) (f : Thermal → Thermal) : (s.modHeat d f).variant = s.variant := rfl
@[simp] theorem modHeat_timebase (d : Nat) (f : Thermal → Thermal) : (s.modHeat d f).timebase = s.timebase := rfl
@[simp] theorem modHeat_od (d : Nat) (f : Thermal → Thermal) : (s.modHeat d f).od = s.od := rfl
@[simp] theorem modHeat_domains (d : Nat) (f : Thermal → Thermal) : (s.modHeat d f).domains = s.domains := rfl
@[simp] theorem modHeat_web (d : Nat) (f : Thermal → Thermal) : (s.modHeat d f).web = s.web := rfl
@[simp] theorem modHeat_tt (d : Nat) (f : Thermal → Thermal) : (s.modHeat d f).tt = s.tt := rfl
@[simp] theorem modHeat_slots (d : Nat) (f : Thermal → Thermal) : (s.modHeat d f).slots = s.slots := rfl
@[simp] theorem modHeat_stations (d : Nat) (f : Thermal → Thermal) : (s.modHeat d f).stations = s.stations := rfl
@[simp] theorem modHeat_record (d : Nat) (f : Thermal → Thermal) : (s.modHeat d f).record = s.record := rfl
@[simp] theorem modHeat_tones (d : Nat) (f : Thermal → Thermal) : (s.modHeat d f).tones = s.tones := rfl
@[simp] theorem modHeat_leading (d : Nat) (f : Thermal → Thermal) : (s.modHeat d f).leading = s.leading := rfl
@[simp] theorem modHeat_stitches (d : Nat) (f : Thermal → Thermal) : (s.modHeat d f).stitches = s.stitches := rfl
@[simp] theorem modHeat_lines (d : Nat) (f : Thermal → Thermal) : (s.modHeat d f).lines = s.lines := rfl
@[simp] theorem modHeat_played (d : Nat) (f : Thermal → Thermal) : (s.modHeat d f).played = s.played := rfl
@[simp] theorem modHeat_lanes (d : Nat) (f : Thermal → Thermal) : (s.modHeat d f).lanes = s.lanes := rfl
@[simp] theorem modHeat_laneResult (d : Nat) (f : Thermal → Thermal) : (s.modHeat d f).laneResult = s.laneResult := rfl
@[simp] theorem modHeat_laneCmd (d : Nat) (f : Thermal → Thermal) : (s.modHeat d f).laneCmd = s.laneCmd := rfl
@[simp] theorem modHeat_flips (d : Nat) (f : Thermal → Thermal) : (s.modHeat d f).flips = s.flips := rfl
@[simp] theorem modHeat_blends (d : Nat) (f : Thermal → Thermal) : (s.modHeat d f).blends = s.blends := rfl
@[simp] theorem modHeat_scanners (d : Nat) (f : Thermal → Thermal) : (s.modHeat d f).scanners = s.scanners := rfl
@[simp] theorem modHeat_links (d : Nat) (f : Thermal → Thermal) : (s.modHeat d f).links = s.links := rfl
@[simp] theorem modHeat_chans (d : Nat) (f : Thermal → Thermal) : (s.modHeat d f).chans = s.chans := rfl
@[simp] theorem modHeat_latches (d : Nat) (f : Thermal → Thermal) : (s.modHeat d f).latches = s.latches := rfl
@[simp] theorem modHeat_compares (d : Nat) (f : Thermal → Thermal) : (s.modHeat d f).compares = s.compares := rfl
@[simp] theorem modHeat_axes (d : Nat) (f : Thermal → Thermal) : (s.modHeat d f).axes = s.axes := rfl
@[simp] theorem modHeat_transport (d : Nat) (f : Thermal → Thermal) : (s.modHeat d f).transport = s.transport := rfl
@[simp] theorem modHeat_slotsL (d : Nat) (f : Thermal → Thermal) : (s.modHeat d f).slotsL = s.slotsL := rfl
@[simp] theorem modHeat_conv0 (d : Nat) (f : Thermal → Thermal) : (s.modHeat d f).conv0 = s.conv0 := rfl
@[simp] theorem modHeat_conv1 (d : Nat) (f : Thermal → Thermal) : (s.modHeat d f).conv1 = s.conv1 := rfl
@[simp] theorem modHeat_dsInputs (d : Nat) (f : Thermal → Thermal) : (s.modHeat d f).dsInputs = s.dsInputs := rfl
@[simp] theorem modHeat_hv (d : Nat) (f : Thermal → Thermal) : (s.modHeat d f).hv = s.hv := rfl
@[simp] theorem modHeat_zones (d : Nat) (f : Thermal → Thermal) : (s.modHeat d f).zones = s.zones := rfl
@[simp] theorem modHeat_nip (d : Nat) (f : Thermal → Thermal) : (s.modHeat d f).nip = s.nip := rfl
@[simp] theorem modHeat_clocks (d : Nat) (f : Thermal → Thermal) : (s.modHeat d f).clocks = s.clocks := rfl
@[simp] theorem modHeat_dividers (d : Nat) (f : Thermal → Thermal) : (s.modHeat d f).dividers = s.dividers := rfl
@[simp] theorem modHeat_group (d : Nat) (f : Thermal → Thermal) : (s.modHeat d f).group = s.group := rfl
@[simp] theorem modHeat_haling (d : Nat) (f : Thermal → Thermal) : (s.modHeat d f).haling = s.haling := rfl
@[simp] theorem modHeat_power (d : Nat) (f : Thermal → Thermal) : (s.modHeat d f).power = s.power := rfl
@[simp] theorem modHeat_thermalCeiling (d : Nat) (f : Thermal → Thermal) : (s.modHeat d f).thermalCeiling = s.thermalCeiling := rfl
@[simp] theorem modHeat_flash (d : Nat) (f : Thermal → Thermal) : (s.modHeat d f).flash = s.flash := rfl
@[simp] theorem modHeat_straps (d : Nat) (f : Thermal → Thermal) : (s.modHeat d f).straps = s.straps := rfl
@[simp] theorem modHeat_jtag (d : Nat) (f : Thermal → Thermal) : (s.modHeat d f).jtag = s.jtag := rfl
@[simp] theorem modHeat_intake (d : Nat) (f : Thermal → Thermal) : (s.modHeat d f).intake = s.intake := rfl
@[simp] theorem modHeat_store (d : Nat) (f : Thermal → Thermal) : (s.modHeat d f).store = s.store := rfl
@[simp] theorem modHeat_hazard (d : Nat) (f : Thermal → Thermal) : (s.modHeat d f).hazard = s.hazard := rfl
@[simp] theorem modHeat_sealed (d : Nat) (f : Thermal → Thermal) : (s.modHeat d f).sealed = s.sealed := rfl
@[simp] theorem modHeat_fuses (d : Nat) (f : Thermal → Thermal) : (s.modHeat d f).fuses = s.fuses := rfl
@[simp] theorem modHeat_faults (d : Nat) (f : Thermal → Thermal) : (s.modHeat d f).faults = s.faults := rfl
@[simp] theorem modHeat_dies (d : Nat) (f : Thermal → Thermal) : (s.modHeat d f).dies = s.dies := rfl
@[simp] theorem modHeat_inject (d : Nat) (f : Thermal → Thermal) : (s.modHeat d f).inject = s.inject := rfl
@[simp] theorem modHeat_nmt (d : Nat) (f : Thermal → Thermal) : (s.modHeat d f).nmt = s.nmt := rfl
@[simp] theorem modHeat_can (d : Nat) (f : Thermal → Thermal) : (s.modHeat d f).can = s.can := rfl
@[simp] theorem modHeat_usdo (d : Nat) (f : Thermal → Thermal) : (s.modHeat d f).usdo = s.usdo := rfl
@[simp] theorem modHeat_mirrors (d : Nat) (f : Thermal → Thermal) : (s.modHeat d f).mirrors = s.mirrors := rfl
@[simp] theorem modHeat_mirrorQueue (d : Nat) (f : Thermal → Thermal) : (s.modHeat d f).mirrorQueue = s.mirrorQueue := rfl
@[simp] theorem modHeat_trace (d : Nat) (f : Thermal → Thermal) : (s.modHeat d f).trace = s.trace := rfl

/-! `modPeer` changes `haling` alone. -/

@[simp] theorem modPeer_pending (p : Nat) (f : Peer → Peer) : (s.modPeer p f).pending = s.pending := rfl
@[simp] theorem modPeer_resp (p : Nat) (f : Peer → Peer) : (s.modPeer p f).resp = s.resp := rfl
@[simp] theorem modPeer_answer (p : Nat) (f : Peer → Peer) : (s.modPeer p f).answer = s.answer := rfl
@[simp] theorem modPeer_out (p : Nat) (f : Peer → Peer) : (s.modPeer p f).out = s.out := rfl
@[simp] theorem modPeer_freeCount (p : Nat) (f : Peer → Peer) : (s.modPeer p f).freeCount = s.freeCount := rfl
@[simp] theorem modPeer_variant (p : Nat) (f : Peer → Peer) : (s.modPeer p f).variant = s.variant := rfl
@[simp] theorem modPeer_timebase (p : Nat) (f : Peer → Peer) : (s.modPeer p f).timebase = s.timebase := rfl
@[simp] theorem modPeer_od (p : Nat) (f : Peer → Peer) : (s.modPeer p f).od = s.od := rfl
@[simp] theorem modPeer_domains (p : Nat) (f : Peer → Peer) : (s.modPeer p f).domains = s.domains := rfl
@[simp] theorem modPeer_web (p : Nat) (f : Peer → Peer) : (s.modPeer p f).web = s.web := rfl
@[simp] theorem modPeer_tt (p : Nat) (f : Peer → Peer) : (s.modPeer p f).tt = s.tt := rfl
@[simp] theorem modPeer_slots (p : Nat) (f : Peer → Peer) : (s.modPeer p f).slots = s.slots := rfl
@[simp] theorem modPeer_stations (p : Nat) (f : Peer → Peer) : (s.modPeer p f).stations = s.stations := rfl
@[simp] theorem modPeer_record (p : Nat) (f : Peer → Peer) : (s.modPeer p f).record = s.record := rfl
@[simp] theorem modPeer_tones (p : Nat) (f : Peer → Peer) : (s.modPeer p f).tones = s.tones := rfl
@[simp] theorem modPeer_leading (p : Nat) (f : Peer → Peer) : (s.modPeer p f).leading = s.leading := rfl
@[simp] theorem modPeer_stitches (p : Nat) (f : Peer → Peer) : (s.modPeer p f).stitches = s.stitches := rfl
@[simp] theorem modPeer_lines (p : Nat) (f : Peer → Peer) : (s.modPeer p f).lines = s.lines := rfl
@[simp] theorem modPeer_played (p : Nat) (f : Peer → Peer) : (s.modPeer p f).played = s.played := rfl
@[simp] theorem modPeer_lanes (p : Nat) (f : Peer → Peer) : (s.modPeer p f).lanes = s.lanes := rfl
@[simp] theorem modPeer_laneResult (p : Nat) (f : Peer → Peer) : (s.modPeer p f).laneResult = s.laneResult := rfl
@[simp] theorem modPeer_laneCmd (p : Nat) (f : Peer → Peer) : (s.modPeer p f).laneCmd = s.laneCmd := rfl
@[simp] theorem modPeer_flips (p : Nat) (f : Peer → Peer) : (s.modPeer p f).flips = s.flips := rfl
@[simp] theorem modPeer_blends (p : Nat) (f : Peer → Peer) : (s.modPeer p f).blends = s.blends := rfl
@[simp] theorem modPeer_scanners (p : Nat) (f : Peer → Peer) : (s.modPeer p f).scanners = s.scanners := rfl
@[simp] theorem modPeer_links (p : Nat) (f : Peer → Peer) : (s.modPeer p f).links = s.links := rfl
@[simp] theorem modPeer_chans (p : Nat) (f : Peer → Peer) : (s.modPeer p f).chans = s.chans := rfl
@[simp] theorem modPeer_latches (p : Nat) (f : Peer → Peer) : (s.modPeer p f).latches = s.latches := rfl
@[simp] theorem modPeer_compares (p : Nat) (f : Peer → Peer) : (s.modPeer p f).compares = s.compares := rfl
@[simp] theorem modPeer_axes (p : Nat) (f : Peer → Peer) : (s.modPeer p f).axes = s.axes := rfl
@[simp] theorem modPeer_transport (p : Nat) (f : Peer → Peer) : (s.modPeer p f).transport = s.transport := rfl
@[simp] theorem modPeer_slotsL (p : Nat) (f : Peer → Peer) : (s.modPeer p f).slotsL = s.slotsL := rfl
@[simp] theorem modPeer_conv0 (p : Nat) (f : Peer → Peer) : (s.modPeer p f).conv0 = s.conv0 := rfl
@[simp] theorem modPeer_conv1 (p : Nat) (f : Peer → Peer) : (s.modPeer p f).conv1 = s.conv1 := rfl
@[simp] theorem modPeer_dsInputs (p : Nat) (f : Peer → Peer) : (s.modPeer p f).dsInputs = s.dsInputs := rfl
@[simp] theorem modPeer_hv (p : Nat) (f : Peer → Peer) : (s.modPeer p f).hv = s.hv := rfl
@[simp] theorem modPeer_zones (p : Nat) (f : Peer → Peer) : (s.modPeer p f).zones = s.zones := rfl
@[simp] theorem modPeer_nip (p : Nat) (f : Peer → Peer) : (s.modPeer p f).nip = s.nip := rfl
@[simp] theorem modPeer_clocks (p : Nat) (f : Peer → Peer) : (s.modPeer p f).clocks = s.clocks := rfl
@[simp] theorem modPeer_dividers (p : Nat) (f : Peer → Peer) : (s.modPeer p f).dividers = s.dividers := rfl
@[simp] theorem modPeer_group (p : Nat) (f : Peer → Peer) : (s.modPeer p f).group = s.group := rfl
@[simp] theorem modPeer_power (p : Nat) (f : Peer → Peer) : (s.modPeer p f).power = s.power := rfl
@[simp] theorem modPeer_thermal (p : Nat) (f : Peer → Peer) : (s.modPeer p f).thermal = s.thermal := rfl
@[simp] theorem modPeer_thermalCeiling (p : Nat) (f : Peer → Peer) : (s.modPeer p f).thermalCeiling = s.thermalCeiling := rfl
@[simp] theorem modPeer_flash (p : Nat) (f : Peer → Peer) : (s.modPeer p f).flash = s.flash := rfl
@[simp] theorem modPeer_straps (p : Nat) (f : Peer → Peer) : (s.modPeer p f).straps = s.straps := rfl
@[simp] theorem modPeer_jtag (p : Nat) (f : Peer → Peer) : (s.modPeer p f).jtag = s.jtag := rfl
@[simp] theorem modPeer_intake (p : Nat) (f : Peer → Peer) : (s.modPeer p f).intake = s.intake := rfl
@[simp] theorem modPeer_store (p : Nat) (f : Peer → Peer) : (s.modPeer p f).store = s.store := rfl
@[simp] theorem modPeer_hazard (p : Nat) (f : Peer → Peer) : (s.modPeer p f).hazard = s.hazard := rfl
@[simp] theorem modPeer_sealed (p : Nat) (f : Peer → Peer) : (s.modPeer p f).sealed = s.sealed := rfl
@[simp] theorem modPeer_fuses (p : Nat) (f : Peer → Peer) : (s.modPeer p f).fuses = s.fuses := rfl
@[simp] theorem modPeer_faults (p : Nat) (f : Peer → Peer) : (s.modPeer p f).faults = s.faults := rfl
@[simp] theorem modPeer_dies (p : Nat) (f : Peer → Peer) : (s.modPeer p f).dies = s.dies := rfl
@[simp] theorem modPeer_inject (p : Nat) (f : Peer → Peer) : (s.modPeer p f).inject = s.inject := rfl
@[simp] theorem modPeer_nmt (p : Nat) (f : Peer → Peer) : (s.modPeer p f).nmt = s.nmt := rfl
@[simp] theorem modPeer_can (p : Nat) (f : Peer → Peer) : (s.modPeer p f).can = s.can := rfl
@[simp] theorem modPeer_usdo (p : Nat) (f : Peer → Peer) : (s.modPeer p f).usdo = s.usdo := rfl
@[simp] theorem modPeer_mirrors (p : Nat) (f : Peer → Peer) : (s.modPeer p f).mirrors = s.mirrors := rfl
@[simp] theorem modPeer_mirrorQueue (p : Nat) (f : Peer → Peer) : (s.modPeer p f).mirrorQueue = s.mirrorQueue := rfl
@[simp] theorem modPeer_trace (p : Nat) (f : Peer → Peer) : (s.modPeer p f).trace = s.trace := rfl

end Sys2Proof.Laws
end

