-- ==== Sys2Proof/Laws/Store.lean ====
section
/-! SUPPORT. The laws of the panel store's bytes: reading back what was written, leaving every other byte alone, and keeping
the one canonical form. -/

namespace Sys2Proof.Laws

open Sys2Proof Sys2Proof.Machine

theorem cellsAbove_mono {k j : Nat} (h : j ≤ k) : ∀ m : List Host.Cell, cellsAbove k m = true → cellsAbove j m = true
  | [], _ => rfl
  | c :: rest, hm => by
    simp only [cellsAbove, Bool.and_eq_true, decide_eq_true_eq] at hm ⊢
    exact ⟨⟨by omega, hm.1.2⟩, hm.2⟩

/-- A byte below every listed address reads as 0. -/
theorem cellGet_above {k a : Nat} (h : a < k) : ∀ m : List Host.Cell, cellsAbove k m = true → cellGet m a = 0
  | [], _ => rfl
  | c :: rest, hm => by
    simp only [cellsAbove, Bool.and_eq_true, decide_eq_true_eq] at hm
    simp only [cellGet, if_neg (show ¬ c.1 = a by omega), if_pos (show a < c.1 by omega)]

theorem cellsAbove_cellSet {k a : Nat} (h : k ≤ a) (v : Nat) :
    ∀ m : List Host.Cell, cellsAbove k m = true → cellsAbove k (cellSet m a v) = true
  | [], _ => by
    by_cases hv : BitVec.ofNat 8 v = 0
    · simp only [cellSet, if_pos hv, cellsAbove]
    · simp only [cellSet, if_neg hv, cellsAbove, Bool.and_eq_true, decide_eq_true_eq]
      exact ⟨⟨h, hv⟩, trivial⟩
  | c :: rest, hm => by
    have hm' := hm
    simp only [cellsAbove, Bool.and_eq_true, decide_eq_true_eq] at hm
    obtain ⟨⟨hk, hc⟩, hr⟩ := hm
    unfold cellSet
    split
    · rename_i hlt
      split
      · exact hm'
      · rename_i hv
        simp only [cellsAbove, Bool.and_eq_true, decide_eq_true_eq]
        exact ⟨⟨h, hv⟩, ⟨hlt, hc⟩, hr⟩
    · rename_i hlt
      split
      · rename_i he
        split
        · exact cellsAbove_mono (by omega) rest hr
        · rename_i hv
          simp only [cellsAbove, Bool.and_eq_true, decide_eq_true_eq]
          exact ⟨⟨h, hv⟩, by rw [← he]; exact hr⟩
      · rename_i he
        simp only [cellsAbove, Bool.and_eq_true, decide_eq_true_eq]
        exact ⟨⟨hk, hc⟩, cellsAbove_cellSet (by omega) v rest hr⟩

/-- A write keeps the canonical form. -/
theorem cellsWf_cellSet (a v : Nat) (m : List Host.Cell) (h : cellsWf m = true) : cellsWf (cellSet m a v) = true :=
  cellsAbove_cellSet (Nat.zero_le a) v m h

theorem cellsWf_cellsSet : ∀ (bs : List Nat) (a : Nat) (m : List Host.Cell), cellsWf m = true → cellsWf (cellsSet m a bs) = true
  | [], _, _, h => h
  | b :: bs, a, m, h => cellsWf_cellsSet bs (a + 1) _ (cellsWf_cellSet a b m h)

/-- A byte reads back as written. -/
theorem cellGet_cellSet_same {k : Nat} (a v : Nat) :
    ∀ m : List Host.Cell, cellsAbove k m = true → cellGet (cellSet m a v) a = v % 256
  | [], _ => by
    by_cases hv : BitVec.ofNat 8 v = 0
    · have h0 : v % 256 = 0 := by simpa using congrArg BitVec.toNat hv
      simp [cellSet, hv, cellGet, h0]
    · simp only [cellSet, if_neg hv, cellGet, if_true, BitVec.toNat_ofNat]
  | c :: rest, hm => by
    simp only [cellsAbove, Bool.and_eq_true, decide_eq_true_eq] at hm
    obtain ⟨⟨_, hc⟩, hr⟩ := hm
    unfold cellSet
    split
    · rename_i hlt
      split
      · rename_i hv
        have h0 : v % 256 = 0 := by simpa using congrArg BitVec.toNat hv
        simp only [cellGet, if_neg (show ¬ c.1 = a by omega), if_pos hlt, h0]
      · simp only [cellGet, if_true, BitVec.toNat_ofNat]
    · rename_i hlt
      split
      · rename_i he
        split
        · rename_i hv
          have h0 : v % 256 = 0 := by simpa using congrArg BitVec.toNat hv
          rw [h0]
          exact cellGet_above (by omega) rest hr
        · simp only [cellGet, if_true, BitVec.toNat_ofNat]
      · rename_i he
        simp only [cellGet, if_neg he, if_neg hlt]
        exact cellGet_cellSet_same a v rest hr

/-- A write leaves every other byte alone. -/
theorem cellGet_cellSet_other {a b : Nat} (hab : b ≠ a) (v : Nat) :
    ∀ {k : Nat} (m : List Host.Cell), cellsAbove k m = true → cellGet (cellSet m a v) b = cellGet m b
  | _, [], _ => by
    by_cases hv : BitVec.ofNat 8 v = 0
    · simp [cellSet, hv]
    · simp only [cellSet, if_neg hv, cellGet, if_neg hab.symm, ite_self]
  | _, c :: rest, hm => by
    simp only [cellsAbove, Bool.and_eq_true, decide_eq_true_eq] at hm
    obtain ⟨⟨_, hc⟩, hr⟩ := hm
    unfold cellSet
    split
    · rename_i hlt
      split
      · rfl
      · by_cases hb : b < a
        · simp only [cellGet, if_neg hab.symm, if_pos hb, if_neg (show ¬ c.1 = b by omega), if_pos (show b < c.1 by omega)]
        · simp only [cellGet, if_neg hab.symm, if_neg hb]
    · rename_i hlt
      split
      · rename_i he
        have hnb : ¬ c.1 = b := fun h => hab (h.symm.trans he)
        split
        · by_cases hb : b < c.1
          · simp only [cellGet, if_neg hnb, if_pos hb]
            exact cellGet_above (by omega) rest hr
          · simp only [cellGet, if_neg hnb, if_neg hb]
        · by_cases hb : b < a
          · simp only [cellGet, if_neg hab.symm, if_pos hb, if_neg hnb, if_pos (show b < c.1 by omega)]
          · simp only [cellGet, if_neg hab.symm, if_neg hb, if_neg hnb, if_neg (show ¬ b < c.1 by omega)]
      · rename_i he
        by_cases hb : c.1 = b
        · simp only [cellGet, if_pos hb]
        · simp only [cellGet, if_neg hb]
          split
          · rfl
          · exact cellGet_cellSet_other hab v rest hr

theorem reset_cells : cellsWf State.reset.store.cells = true := rfl

end Sys2Proof.Laws
end

