-- ==== Sys2Proof/Tests/Slice0.lean ====
section
/-! SUPPORT. Tests of single operations on values of the spec's worked examples, ill-formed commands that are refused, and
for each statement states and operands that meet its hypotheses. -/

namespace Sys2Proof.Tests

set_option Elab.async false
set_option linter.unusedVariables false

open Sys2Proof Sys2Proof.Machine

/-! Small states. -/

/-- The reset state, sealed and OPERATIONAL. -/
def oper : State := { State.reset with nmt := { State.reset.nmt with state := .operational }, sealed := { on := true } }

/-- `s` with the timetable in state x. -/
def tts (x : TTState) (s : State) : State := { s with tt := { s.tt with state := x } }

/-- `s` with objects of the dictionary written. -/
def cfgs (l : List (Nat × Nat × Nat)) (s : State) : State := l.foldl (fun s e => s.setCfg e.1 e.2.1 e.2.2) s

/-- `s` with the panel in slot i as given. -/
def panel (i : Nat) (p : Slot) (s : State) : State := s.modSlot i fun _ => p

/-- `s` with the head descriptor of raster ring 0, enabled, as given. -/
def headAt (q : Nat) (h : Head) (s : State) : State := s.modRing q fun r => { r with enable := true, head := some h }

/-- Reset, with station 0 exposing with one scanner that runs, its lanes running. -/
def station0 : State :=
  { State.reset with
    stitches := [(0, { nc := 1 })]
    scanners := [(0, { state := .coast })]
    lanes := (List.range 32).map fun l => (l, { state := .running }) }

/-- A part whose lane 1023 runs and has reached word w at the last address. -/
def atWord (w : Nat) (l : Lane := {}) : State :=
  { State.reset with lanes := [(1023, { l with state := .running, active := true, pc := 2047, prog := [(2047, w)] })] }

/-- Reset, with lane 1023 as given. -/
def lane1023 (l : Lane) : State := { State.reset with lanes := [(1023, l)] }

/-- `s` with a printable width of one pixel and one scanner at station 0. -/
def narrow (s : State) : State := cfgs [(0x2183, 1, 1)] { s with stitches := [(0, { nc := 1 })] }

/-- `s` with the first control block of die 0 of this kind, and its first ring at this head. -/
def ctlRing (kind : Nat) (h : Head) (s : State) : State := headAt 4096 h (cfgs [(0x2210, 1, kind)] s)

/-- Reset, with scanner 31 and its link as given. -/
def scan31 (x : Scanner) (k : Link := {}) : State := { State.reset with scanners := [(31, x)], links := [(31, k)] }

/-- A line of 16 cells, every cell dark. -/
def aLine : Line :=
  { slot := 0, n := 0, tag := 0, seq := 0, facet := 0, tls16 := 0, period := 0, dir := 0, cells := 16, codes := [], slates := [] }

theorem isOk_eq {e : Except Abort Unit} (h : e.isOk = true) : e = .ok () := by
  cases e with
  | ok _ => rfl
  | error _ => cases h

/-- `s` with signals (code, number, signal) assigned to the first MFIO balls. -/
def wired (l : List (Nat × Nat × Nat)) (s : State) : State :=
  cfgs (l.zipIdx.map fun x => (0x5000 + x.2, 1, (x.1.1 * 2 ^ 16 + x.1.2.1 * 16 + x.1.2.2) * 256)) s

/-- Reset, with axis 63 as given. -/
def axis63 (x : Axis) : State := { State.reset with axes := [(63, x)] }

/-- Reset, with feedback channel 15, or 23, as given. -/
def chan15 (x : Channel) : State := { State.reset with chans := [(15, x)] }

def chan23 (x : Channel) : State := { State.reset with chans := [(23, x)] }

/-- Reset, with loop slot 511 as given. -/
def loop511 (x : LoopSlot) : State := { State.reset with slotsL := [(511, x)] }

/-- Reset, with HV channel 63 as given. -/
def hv63 (x : HvChannel) : State := { State.reset with hv := [(63, x)] }

/-- Reset, with fuser zone 31 as given. -/
def zone31 (x : Zone) : State := { State.reset with zones := [(31, x)] }

/-- The part in seat 0 of a group, both ports up, with this seat the homeroom. -/
def inGroupOf (seat : Nat) (h : Haling := {}) : State :=
  cfgs [(0x3900, 6, 1)] { State.reset with
    haling := { h with portA := { h.portA with state := .up }, portB := { h.portB with state := .up }, homeroom := seat } }

theorem all_lt {n : Nat} {p : Nat → Prop} [DecidablePred p] (h : ((List.range n).all fun k => decide (p k)) = true) :
    ∀ k, k < n → p k := by
  intro k hk
  have := List.all_eq_true.mp h k (List.mem_range.mpr hk)
  exact of_decide_eq_true this

theorem of_none {α : Type} {o : Option α} {p : α → Prop} (h : o = none) : ∀ a, o = some a → p a := by
  intro a ha
  rw [h] at ha
  cases ha

theorem all_beams {F : Nat → Option Nat} {P : Nat → Nat → Prop} [∀ b f, Decidable (P b f)]
    (h : ((List.range 32).all fun b => match F b with
      | some f => decide (P b f)
      | none => true) = true) : ∀ b f, b < 32 → F b = some f → P b f := by
  intro b f hb hf
  have := List.all_eq_true.mp h b (List.mem_range.mpr hb)
  simp only [hf] at this
  exact of_decide_eq_true this

/-- The flash of a part that runs slot 1 on trial, beside a confirmed slot 0 or, with `c` another state, none. -/
def trialFlash (c : ImageState) : Flash :=
  { (({} : Flash).setBoot { slot0 := c, slot1 := .trial }) with running := some 1, reached := true }

theorem confirm_plan : (FlashPlan.putBoot { flash := ({ State.reset with flash := trialFlash .confirmed }).flash }
    ((({ State.reset with flash := trialFlash .confirmed }).flash.boot.setSlot 0 .previous).setSlot 1
      .confirmed)).isSome = true := by decide +kernel

theorem lone_confirm_plan : (FlashPlan.putBoot { flash := ({ State.reset with flash := trialFlash .empty }).flash }
    (({ State.reset with flash := trialFlash .empty }).flash.boot.setSlot 1 .confirmed)).isSome = true := by decide +kernel

theorem revert_plan : (FlashPlan.putBoot { flash := ({ State.reset with flash := trialFlash .confirmed }).flash }
    (({ State.reset with flash := trialFlash .confirmed }).flash.boot.setSlot 1 .failed)).isSome = true := by decide +kernel

theorem plan_is {e : Except Abort (List FlashStep)} {x : List FlashStep} (h : e.toOption = some x) : e = .ok x := by
  cases e with
  | ok y => cases h; rfl
  | error _ => cases h

theorem plan_fails {e : Except Abort (List FlashStep)} {a : Abort} (h : (match e with
    | .ok _ => none
    | .error b => some b) = some a) : e = .error a := by
  cases e with
  | ok _ => cases h
  | error b => cases h; rfl

/-- What stands in flash of a piece: its number and its 4,096 bytes. -/
def pieceOf (f : Flash) : List Nat := [255, 7, 0, 0] ++ f.bytes (pieceBase 2047) 4096

theorem pieceOf_held {f : Flash} (h : (decide (f.transfer ≠ .empty) && !(f.wanted.any fun p => decide (p ≤ 2047))) = true) :
    f.pieceRefused 2047 ((pieceOf f).drop 4) = none := by
  simp only [Bool.and_eq_true, decide_eq_true_eq, Bool.not_eq_true'] at h
  have hd : (pieceOf f).drop 4 = f.bytes (pieceBase 2047) 4096 := List.drop_left' rfl
  simp [Flash.pieceRefused, h.1, h.2, hd]

theorem pieceOf_length (f : Flash) : (pieceOf f).length = 4100 := by
  rw [pieceOf, List.length_append, Flash.bytes, List.length_map, upTo, List.length_range]; rfl

theorem piece_length : ([255, 7, 0, 0] ++ List.replicate 4096 1).length = 4100 := by
  rw [List.length_append, List.length_replicate]; rfl

theorem not_listed {α : Type} {d : α} {m : Map α} {q : Nat} (h : ∀ kv ∈ m, kv.1 ≠ q) : mapGet d m q = d := by
  induction m with
  | nil => rfl
  | cons kv rest ih =>
    obtain ⟨k, v⟩ := kv
    have h1 : k ≠ q := h (k, v) (by simp)
    have h2 := ih fun x hx => h x (by simp [hx])
    simp only [mapGet, if_neg h1]
    split
    · rfl
    · exact h2

/-- The rails that the default sequence gives to the part are on: the part is powered. -/
theorem default_rails : ((List.range 8).all fun r => decide (objDefault (0x4201 + r) 1 ≠ 1) || bit 0x3F r) = true := by
  decide +kernel

theorem on {s : State} (h : (!s.straps.porLow && (decide (s.power.seq = .on) || decide (s.power.seq = .shutDown))
    && decide (s.power.enables = 0x3F) && s.od.all fun kv => decide (kv.1 < 0x420100) || decide (0x420900 ≤ kv.1)) = true) :
    s.powered = true := by
  simp only [Bool.and_eq_true, decide_eq_true_eq, List.all_eq_true, Bool.or_eq_true] at h
  obtain ⟨⟨⟨h1, h2⟩, h3⟩, h4⟩ := h
  have hr : ∀ r, r < 8 → (decide (s.railRole r ≠ 1) || bit s.power.enables r) = true := by
    intro r hr
    have hn : mapGet none s.od (odKey (0x4201 + r) 1) = none := not_listed fun kv hkv => by
      have := h4 kv hkv; unfold odKey; omega
    have h0 : s.railRole r = objDefault (0x4201 + r) 1 := by
      simp only [State.railRole, State.cfg, hn, State.odDefault]
      rw [if_neg (by omega), if_neg (by omega), if_neg (by omega)]
    rw [h0, h3]
    exact List.all_eq_true.mp default_rails r (List.mem_range.mpr hr)
  simp only [State.powered, Bool.and_eq_true, Bool.or_eq_true, decide_eq_true_eq, List.all_eq_true]
  refine ⟨h1, h2.imp_right fun h2 => ⟨h2, fun r hm => ?_⟩⟩
  have := hr r (by simpa [upTo] using hm)
  simpa using this

theorem takes {s : State} {index : Nat} (h : s.powered = true)
    (h2 : (s.nmt.booted && s.served index && decide (s.nmt.state ≠ .stopped) && leadAwake s) = true) : commanded s index = true := by
  simp only [commanded, Bool.and_eq_true] at h2 ⊢
  exact ⟨⟨⟨⟨h, h2.1.1.1⟩, h2.1.1.2⟩, h2.1.2⟩, h2.2⟩

/-! Words and values of the spec's own worked examples. -/

/-- Table 5-21: the words of the edge-enhanced tone map. -/
theorem test_words_of_table_5_21 :
    [wordI 0x10 1 0 0, wordI 0x10 3 0 1, wordS 0x02 2 3 1, wordI 0x08 2 2 32, wordI 0x0C 2 2 5, wordI 0x08 3 0 7,
      wordV 0x2E 7 0 0 3 0, wordV 0x2E 5 0 0 3 0, wordM 0x20 0 1 1 0, wordM 0x21 1 1 1 0, wordV 0x33 2 0 0 0 0,
      wordV 0x28 3 2 6 0 0, wordV 0x2A 3 3 5 0 0, wordV 0x30 4 1 7 0 0, wordV 0x31 4 3 2 0 0, wordV 0x34 3 0 4 0 0,
      wordV 0x35 0 4 3 1 0, wordI 0x08 1 1 32, wordB 0x19 2 0 11, wordB 0x1C 0 0 0] =
    [0x40400000, 0x40C00001, 0x088C4000, 0x20880020, 0x30880005, 0x20C00007, 0xBB806000, 0xBA806000, 0x800A0000,
      0x848A0000, 0xCD000000, 0xA1AC0000, 0xA9BA0000, 0xC21E0000, 0xC6340000, 0xD1880000, 0xD4462000, 0x20440020,
      0x6480000B, 0x70000000] := by decide

/-- R150: a nonzero unused field, an opcode that Table 5-13 has not, LINE 3. -/
theorem test_illegal_words :
    [0x00000001, 0x44000000, 0x80060000, 0x50040000, 0xCD000001, 0x2C000020].map laneLegal =
      List.replicate 6 false := by decide

/-- R399: the program overrun of lane 456. -/
theorem test_fault_code_of_lane_456 :
    faultCode 1 0x10 3 72 5 = 0x50612005 ∧ emcyCode 0x50612005 = 0xFF41 := by decide

/-- R351: the wrap of ring indices. -/
theorem test_phase_wraps : [phaseBit 2 0xFFFFFFFE, phaseBit 2 0xFFFFFFFF, phaseBit 2 0] = [0, 0, 1] := by decide

/-- R30: panel 0 follows panel 0xFFFF_FFFF, and the generation 0 follows 65,535. -/
theorem test_serial_numbers_wrap :
    follows32 0 0xFFFFFFFF = true ∧ follows32 0 0xFFFFFFDF = true ∧ follows16 0 65535 = true := by decide

/-- R120: the 64-pixel block of chapter 4 decodes. -/
theorem test_trc_block_decodes :
    trcBlock [0x3F, 0x40, 0x00, 0x3E, 0x57, 0x00, 0x07, 0x73, 0xFF, 0xFF, 0x37, 0x9F] (List.replicate 64 5) [] 0 =
      some (List.replicate 24 0 ++ [3, 7, 15, 15, 15, 15, 7, 3] ++ List.replicate 32 5, 12) := by decide +kernel

/-- R107: the largest legal panel of a YK8-C with two 16 GB channels, at the default overlap. -/
theorem test_largest_legal_panel : State.reset.largestLegal = 47241 := by decide +kernel

/-- R25, R39: the bells and the commit deadline of panel p + 1 of the worked press. -/
theorem test_bells_and_deadline :
    let s := panel 0 { seq := 1, h := 23616, mask := 63, state := .resident, origin := lu 2023616 }
      (cfgs ([24000, 48000, 72000, 96000, 120000, 144000].zipIdx.flatMap fun x =>
        [(0x2181, x.2 + 1, x.1 * 65536), (0x2182, x.2 + 1, 9000 * 65536)]) State.reset)
    [0, 1, 2, 3, 4, 5].map (s.bellAt 0) =
        [lu 2038616, lu 2062616, lu 2086616, lu 2110616, lu 2134616, lu 2158616] ∧
      s.deadlineAt 0 = lu 2036568 := by decide +kernel

/-- R9: line 1,000 of scanner 14 is beam 8, lane 456. -/
theorem test_lane_456 : laneOf 14 8 = 456 ∧ laneScanner 456 = 14 ∧ laneStation 456 = 3 := by decide

/-- Table 9-4: the word that triggers the camera of the worked press. -/
theorem test_camera_word :
    cmpCfgOk 0xC000A000000007D0 = true ∧ cmpMode 0xC000A000000007D0 = 2 ∧ bits 0xC000A000000007D0 47 45 = 5 ∧
      bits 0xC000A000000007D0 19 0 = 2000 := by decide

/-! One step of a lane, from the words of Table 5-13. -/

/-- Lane 1023 after one command. -/
def laneAfter (c : Instr) (s : State) : Option Lane :=
  match exec c s with
  | .next t => some (t.lane 1023)
  | .fault _ => none
  | .refused _ => none

/-- A scalar register, the PC and the cycles. -/
def scalarAfter (r : Nat) (c : Instr) (s : State) : Option (Word × Nat × Nat) :=
  (laneAfter c s).map fun l => (l.reg r, l.pc, l.cycles)

theorem test_add_wraps :
    scalarAfter 1 (.add 1023 1 2 3) (atWord 0x0448C000 { regs := [(2, 0xFFFFFFFF), (3, 2)] }) = some (1, 2048, 1) := by
  decide +kernel

theorem test_sub_wraps :
    scalarAfter 2 (.sub 1023 2 2 3) (atWord (wordS 0x02 2 2 3) { regs := [(2, 1), (3, 2)] }) =
      some (0xFFFFFFFF, 2048, 1) := by decide +kernel

theorem test_shl_takes_five_bits :
    scalarAfter 1 (.shl 1023 1 2 3) (atWord (wordS 0x05 1 2 3) { regs := [(2, 1), (3, 33)] }) = some (2, 2048, 1) := by
  decide +kernel

theorem test_mul_low_word :
    scalarAfter 1 (.mul 1023 1 2 3) (atWord (wordS 0x07 1 2 3) { regs := [(2, 0x80000001), (3, 2)] }) =
      some (2, 2048, 2) := by decide +kernel

theorem test_addi_sign_extends :
    scalarAfter 1 (.addi 1023 1 0 (-1)) (atWord (wordI 0x08 1 0 0x3FFFF)) = some (0xFFFFFFFF, 2048, 1) := by decide +kernel

theorem test_andi_zero_extends :
    scalarAfter 1 (.andi 1023 1 2 0x3FFFF) (atWord (wordI 0x09 1 2 0x3FFFF) { regs := [(2, 0xFFFFFFFF)] }) =
      some (0x3FFFF, 2048, 1) := by decide +kernel

theorem test_lui : scalarAfter 1 (.lui 1023 1 1) (atWord (wordI 0x0D 1 0 1)) = some (0x4000, 2048, 1) := by decide +kernel

theorem test_blt_is_signed :
    scalarAfter 1 (.blt 1023 1 2 5) (atWord (wordB 0x17 1 2 5) { regs := [(1, 0xFFFFFFFF)] }) =
      some (0xFFFFFFFF, 5, 2) := by decide +kernel

theorem test_bge_not_taken :
    scalarAfter 1 (.bge 1023 1 2 5) (atWord (wordB 0x18 1 2 5) { regs := [(1, 0xFFFFFFFF)] }) =
      some (0xFFFFFFFF, 2048, 1) := by decide +kernel

/-- R153: LOOP with SA = 0. -/
theorem test_loop_from_zero :
    scalarAfter 2 (.loop 1023 2 11) (atWord 0x6480000B) = some (0xFFFFFFFF, 11, 1) := by decide +kernel

theorem test_call_pushes_the_next_address :
    (laneAfter (.call 1023 7) (lane1023 { state := .running, active := true, pc := 4, prog := [(4, 0x68000007)] })).map
      (fun l => (l.stack, l.pc, l.cycles)) = some ([5], 7, 2) := by decide +kernel

theorem test_vadds_saturates :
    (laneAfter (.vadds 1023 3 2 6) (atWord 0xA1AC0000 { vregs := [(2, [200, 1]), (6, [100, 2])] })).map
      (fun l => (l.elem 3 0, l.elem 3 1, l.elem 3 2)) = some (255, 3, 0) := by decide +kernel

theorem test_vsubs_saturates :
    (laneAfter (.vsubs 1023 3 2 6) (atWord (wordV 0x29 3 2 6 0 0) { vregs := [(2, [1, 5]), (6, [2, 3])] })).map
      (fun l => (l.elem 3 0, l.elem 3 1)) = some (0, 2) := by decide +kernel

/-- The start of a width 56 with ALIGN 1 (chapter 5, the pixel of tone 12). -/
theorem test_tstart_centres :
    (laneAfter (.tstart 1023 3 0 4) (panel 0 { tone := List.replicate 8 toneReset }
      (atWord 0xD1880000 { vregs := [(0, [12, 12]), (4, [56, 50])] }))).map
      (fun l => (l.elem 3 0, l.elem 3 1)) = some (3, 6) := by decide +kernel

/-- The known answer of SHA-256 for "abc" (FIPS 180-4; the spec names the algorithm, R484). -/
theorem test_sha256 : sha256 [0x61, 0x62, 0x63] =
    [0xBA, 0x78, 0x16, 0xBF, 0x8F, 0x01, 0xCF, 0xEA, 0x41, 0x41, 0x40, 0xDE, 0x5D, 0xAE, 0x22, 0x23,
     0xB0, 0x03, 0x61, 0xA3, 0x96, 0x17, 0x7A, 0x9C, 0xB4, 0x10, 0xFF, 0x61, 0xF2, 0x00, 0x15, 0xAD] := by decide +kernel

/-- A received frame ends the lead pair's recess (R434). -/
theorem test_frame_ends_recess :
    (match exec (.heartbeatReceived 1) { State.reset with thermal := [(0, { recess := true })] } with
      | .next t => (t.heat 0).recess
      | _ => true) = false := by decide +kernel

/-! Ill-formed commands: each list breaks the checks of its commands one by one. -/

def refusedAll (cs : List Instr) : Bool := cs.all fun c => !c.wf

theorem test_ill_formed_1 : refusedAll
    [.masterWebEncoderWrite 256,
     .webScaleWrite (2 ^ 64),
     .webDirectionWrite 256,
     .webPositionPreset (2 ^ 63),
     .printableWidthWrite 8 0,
     .printableWidthWrite 0 (2 ^ 32),
     .nextOriginWrite (2 ^ 63),
     .declare 32,
     .withdraw 32,
     .storeGrant 32,
     .commit 32,
     .commitDeadline 32,
     .bell 32 0,
     .bell 0 8,
     .bandModeWrite 8 0,
     .bandModeWrite 0 256,
     .barAbsentAccess false ⟨6, 0, 8, 0⟩,
     .barAbsentAccess false ⟨0, 0, 0, 0⟩,
     .barAbsentAccess false ⟨0, 0, 9, 0⟩,
     .barAbsentAccess true ⟨0, 0, 8, 2 ^ 64⟩,
     .diagnosticStoreRead (2 ^ 36) 1 0,
     .diagnosticStoreRead 0 0 0,
     .diagnosticStoreRead 0 9 0,
     .diagnosticStoreRead 0 1 3,
     .diagnosticStoreWrite (2 ^ 36) 1 0,
     .diagnosticStoreWrite 0 0 0,
     .diagnosticStoreWrite 0 9 0,
     .diagnosticStoreWrite 0 1 (2 ^ 64),
     .ringEnable (2 ^ 16),
     .ringReset (2 ^ 16),
     .doorbell (2 ^ 16) 0,
     .doorbell 0 (2 ^ 32),
     .eventRingDoorbell (2 ^ 16) 0,
     .eventRingDoorbell 0 (2 ^ 32),
     .descriptorFetch (2 ^ 16) none,
     .descriptorFetch 0 (some (2 ^ 256 * 2 ^ 256)),
     .dmaBeat 8,
     .dmaReadCompletion (2 ^ 16) .ok [],
     .dmaReadCompletion 0 .ok [256],
     .completionTimeout (2 ^ 16),
     .lineStored (2 ^ 16),
     .descriptorComplete (2 ^ 16)] = true := by decide +kernel

theorem test_ill_formed_2 : refusedAll
    [.pcieLinkTrained 16 0,
     .pcieLinkTrained 0 16,
     .playbackLineDecode 32 0 0 0 [] [],
     .playbackLineDecode 0 1024 0 0 [] [],
     .playbackLineDecode 0 0 (2 ^ 32) 0 [] [],
     .playbackLineDecode 0 0 0 2 [] [],
     .channelLost 2,
     .arbiterGrant 2 [],
     .grantWithdrawn 2,
     .compressorBlockEmit (2 ^ 16) [],
     .compressorBlockEmit 0 [256],
     .codecCompressJob (2 ^ 16) [],
     .codecCompressJob 0 [[256]],
     .codecDecompressJob (2 ^ 16),
     .programStart 1024 0 0 0,
     .programStart 0 32 0 0,
     .programStart 0 0 (2 ^ 32) 0,
     .programStart 0 0 0 64,
     .lineStartCommitment 32,
     .windowFill 32 0 0,
     .windowFill 0 1024 0,
     .windowFill 0 0 (2 ^ 32),
     .nop 1024,
     .add 1024 0 0 0,
     .add 0 16 0 0,
     .add 0 0 16 0,
     .add 0 0 0 16,
     .sub 1024 0 0 0,
     .sub 0 16 0 0,
     .sub 0 0 16 0,
     .sub 0 0 0 16,
     .and_ 1024 0 0 0,
     .and_ 0 16 0 0,
     .and_ 0 0 16 0,
     .and_ 0 0 0 16,
     .or_ 1024 0 0 0,
     .or_ 0 16 0 0,
     .or_ 0 0 16 0,
     .or_ 0 0 0 16,
     .shl 1024 0 0 0] = true := by decide +kernel

theorem test_ill_formed_3 : refusedAll
    [.shl 0 16 0 0,
     .shl 0 0 16 0,
     .shl 0 0 0 16,
     .shr 1024 0 0 0,
     .shr 0 16 0 0,
     .shr 0 0 16 0,
     .shr 0 0 0 16,
     .mul 1024 0 0 0,
     .mul 0 16 0 0,
     .mul 0 0 16 0,
     .mul 0 0 0 16,
     .addi 1024 0 0 0,
     .addi 0 16 0 0,
     .addi 0 0 16 0,
     .addi 0 0 0 (2 ^ 17),
     .andi 1024 0 0 0,
     .andi 0 16 0 0,
     .andi 0 0 16 0,
     .andi 0 0 0 (2 ^ 18),
     .ori 1024 0 0 0,
     .ori 0 16 0 0,
     .ori 0 0 16 0,
     .ori 0 0 0 (2 ^ 18),
     .shli 1024 0 0 0,
     .shli 0 16 0 0,
     .shli 0 0 16 0,
     .shli 0 0 0 32,
     .shri 1024 0 0 0,
     .shri 0 16 0 0,
     .shri 0 0 16 0,
     .shri 0 0 0 32,
     .lui 1024 0 0,
     .lui 0 16 0,
     .lui 0 0 (2 ^ 18),
     .ldw 1024 0 0 0,
     .ldw 0 16 0 0,
     .ldw 0 0 16 0,
     .ldw 0 0 0 (2 ^ 17),
     .stw 1024 0 0 0,
     .stw 0 16 0 0] = true := by decide +kernel

theorem test_ill_formed_4 : refusedAll
    [.stw 0 0 16 0,
     .stw 0 0 0 (2 ^ 17),
     .gets 1024 0 0,
     .gets 0 16 0,
     .gets 0 0 12,
     .jmp 1024 0,
     .jmp 0 2048,
     .beq 1024 0 0 0,
     .beq 0 16 0 0,
     .beq 0 0 16 0,
     .beq 0 0 0 2048,
     .bne 1024 0 0 0,
     .bne 0 16 0 0,
     .bne 0 0 16 0,
     .bne 0 0 0 2048,
     .blt 1024 0 0 0,
     .blt 0 16 0 0,
     .blt 0 0 16 0,
     .blt 0 0 0 2048,
     .bge 1024 0 0 0,
     .bge 0 16 0 0,
     .bge 0 0 16 0,
     .bge 0 0 0 2048,
     .loop 1024 0 0,
     .loop 0 16 0,
     .loop 0 0 2048,
     .call 1024 0,
     .call 0 2048,
     .ret 1024,
     .endl 1024,
     .wld 1024 0 0 0 0,
     .wld 0 8 0 0 0,
     .wld 0 0 3 0 0,
     .wld 0 0 0 16 0,
     .wld 0 0 0 0 (2 ^ 14),
     .edge 1024 0 0 0,
     .edge 0 8 0 0,
     .edge 0 0 16 0,
     .edge 0 0 0 (2 ^ 14),
     .vld 1024 0 0 0] = true := by decide +kernel

theorem test_ill_formed_5 : refusedAll
    [.vld 0 8 0 0,
     .vld 0 0 16 0,
     .vld 0 0 0 (2 ^ 14),
     .vst 1024 0 0 0,
     .vst 0 8 0 0,
     .vst 0 0 16 0,
     .vst 0 0 0 (2 ^ 14),
     .vadds 1024 0 0 0,
     .vadds 0 8 0 0,
     .vadds 0 0 8 0,
     .vadds 0 0 0 8,
     .vsubs 1024 0 0 0,
     .vsubs 0 8 0 0,
     .vsubs 0 0 8 0,
     .vsubs 0 0 0 8,
     .vmin 1024 0 0 0,
     .vmin 0 8 0 0,
     .vmin 0 0 8 0,
     .vmin 0 0 0 8,
     .vmax 1024 0 0 0,
     .vmax 0 8 0 0,
     .vmax 0 0 8 0,
     .vmax 0 0 0 8,
     .vand 1024 0 0 0,
     .vand 0 8 0 0,
     .vand 0 0 8 0,
     .vand 0 0 0 8,
     .vor 1024 0 0 0,
     .vor 0 8 0 0,
     .vor 0 0 8 0,
     .vor 0 0 0 8,
     .vsplat 1024 0 0,
     .vsplat 0 8 0,
     .vsplat 0 0 16,
     .vshr 1024 0 0 0,
     .vshr 0 8 0 0,
     .vshr 0 0 8 0,
     .vshr 0 0 0 8,
     .vcmpgt 1024 0 0 0,
     .vcmpgt 0 8 0 0] = true := by decide +kernel

theorem test_ill_formed_6 : refusedAll
    [.vcmpgt 0 0 8 0,
     .vcmpgt 0 0 0 8,
     .vsel 1024 0 0 0,
     .vsel 0 8 0 0,
     .vsel 0 0 8 0,
     .vsel 0 0 0 8,
     .vlut 1024 0 0 0,
     .vlut 0 8 0 0,
     .vlut 0 0 8 0,
     .vlut 0 0 0 256,
     .twid 1024 0 0,
     .twid 0 8 0,
     .twid 0 0 8,
     .tstart 1024 0 0 0,
     .tstart 0 8 0 0,
     .tstart 0 0 8 0,
     .tstart 0 0 0 8,
     .emit 1024 0 0 0,
     .emit 0 8 0 0,
     .emit 0 0 8 0,
     .emit 0 0 0 16,
     .illegalInstruction 1024,
     .laneMemoryWrite 1024 0 1 0,
     .laneMemoryWrite 0 16384 1 0,
     .laneMemoryWrite 0 0 0 0,
     .laneMemoryWrite 0 0 9 0,
     .laneMemoryWrite 0 0 1 (2 ^ 64),
     .laneLoad 16 0 0,
     .laneLoad 0 4 0,
     .laneLoad 0 0 1024,
     .laneStart 4 0,
     .laneStart 0 1024,
     .laneStop 4 0,
     .laneStop 0 1024,
     .laneRelease 4 0,
     .laneRelease 0 1024,
     .applyToneTable 8 0,
     .applyToneTable 0 (2 ^ 32),
     .draftWrite 1024 0 1 0,
     .draftWrite 0 8320 1 0] = true := by decide +kernel

theorem test_ill_formed_7 : refusedAll
    [.draftWrite 0 0 0 0,
     .draftWrite 0 0 9 0,
     .draftWrite 0 0 1 (2 ^ 64),
     .draftObjectWrite 1024 [],
     .draftObjectWrite 0 [256],
     .flipNextFacet 4 0,
     .flipNextFacet 0 1024,
     .flipNamedBell (2 ^ 32) 0 0,
     .flipNamedBell 0 4 0,
     .flipNamedBell 0 0 1024,
     .flipCancel 4 0,
     .flipCancel 0 1024,
     .draftCopyComplete 1024,
     .knotWriteDescriptor (2 ^ 16),
     .facetWriteDescriptor (2 ^ 16),
     .flipDescriptor (2 ^ 16),
     .applyStitchSettings 8 0,
     .applyStitchSettings 0 256,
     .bdEdge 32 ⟨0, false, 10⟩,
     .bdEdge 0 ⟨2 ^ 68, false, 10⟩,
     .bdMissing 32,
     .phaseSample 32,
     .lineStart 32,
     .lineEnd 32,
     .scannerStart 32,
     .scannerStop 32,
     .scannerRelease 32,
     .scannerRelearn 32,
     .spinUpElapsed 32,
     .codeFrameSend 32,
     .trimFrameSend 32,
     .timeFrameSend 32,
     .backChannelLock 32,
     .statusFrame 32 0,
     .statusFrame 0 (2 ^ 160),
     .powerFrame 32 0,
     .powerFrame 0 (2 ^ 200 * 2 ^ 200 * 2 ^ 176),
     .identFrame 32 0,
     .identFrame 0 (2 ^ 160),
     .badBackChannelFrame 32] = true := by decide +kernel

theorem test_ill_formed_8 : refusedAll
    [.statusTimeout 32,
     .identTimeout 32,
     .retrainElapsed 32,
     .linkEnable 32,
     .linkDisable 32,
     .linkClear 32,
     .laserEnReadbackMismatch 32,
     .bdWatchdog 32,
     .bdRetryElapsed 32,
     .countEdge 24 false false 0,
     .countEdge 0 false false (2 ^ 64),
     .encoderAlarm 24,
     .indexEdge 24 0,
     .indexEdge 0 (2 ^ 64),
     .serialReadStart 24 0 false,
     .serialReadStart 0 (2 ^ 64) false,
     .serialWord 24 0,
     .serialWord 0 (2 ^ 64),
     .serialWordTimeout 24,
     .channelClear 24,
     .channelArm 24,
     .channelSet 24,
     .latchCapture 64 0 false,
     .latchCapture 0 (2 ^ 64) false,
     .latchQueueRead 64,
     .comparePulseEnd 64,
     .compareAppend 64 [],
     .compareAppendDescriptor (2 ^ 16),
     .compareConfigWrite 64 0,
     .compareConfigWrite 0 (2 ^ 64),
     .axisEnable 64,
     .axisDisable 64,
     .move 64,
     .jog 64,
     .gear 64,
     .axisHalt 64,
     .axisStop 64,
     .setPosition 64,
     .axisClear 64,
     .tension 64] = true := by decide +kernel

theorem test_ill_formed_9 : refusedAll
    [.moveComplete 64,
     .haltComplete 64,
     .gearArmCrossing 64,
     .hallChange 64 0,
     .hallChange 0 8,
     .pwmPeriod 64,
     .stepEmit 64,
     .conversionComplete 2 0,
     .conversionComplete 0 4096,
     .loopTrigger 512,
     .loopComputation 512,
     .slotEnable 512,
     .slotDisable 512,
     .slotSelectBank0 512,
     .slotSelectBank1 512,
     .slotClearFlags 512,
     .deltaSigmaOutput 128 0,
     .deltaSigmaOutput 0 (2 ^ 24),
     .fastFilterOutput 128 0,
     .fastFilterOutput 0 (2 ^ 24),
     .deltaSigmaInputLost 128,
     .arcBlankingElapsed 64,
     .hvEnable 64,
     .hvDisable 64,
     .hvClear 64,
     .zeroCrossing 32 0 false,
     .zeroCrossing 0 (2 ^ 64) false,
     .firingDelayElapsed 32,
     .zeroCrossTimeout 32,
     .fuserSample 32,
     .bandHoldElapsed 32,
     .zoneStart 32,
     .zoneStop 32,
     .zoneClear 32,
     .zoneSetback 32,
     .zoneResume 32,
     .fuserRunSetpointWrite 32 0,
     .fuserRunSetpointWrite 0 (2 ^ 32),
     .pllLock 8 0,
     .pllLock 0 7] = true := by decide +kernel

theorem test_ill_formed_10 : refusedAll
    [.pllLockTimeout 8 0,
     .pllLockTimeout 0 7,
     .pllLossOfLock 8 0,
     .pllLossOfLock 0 7,
     .dividerCommit 8 0,
     .dividerCommit 0 (2 ^ 32),
     .outputEnableWrite 8 0,
     .outputEnableWrite 0 (2 ^ 32),
     .auxPllConfigWrite 8 0 0,
     .auxPllConfigWrite 0 256 0,
     .auxPllConfigWrite 0 0 (2 ^ 32),
     .vote 2 { src := 0 } 0 false 0 0 false,
     .vote 0 { src := 1024 } 0 false 0 0 false,
     .vote 0 { src := 0 } (2 ^ 32) false 0 0 false,
     .vote 0 { src := 0 } 0 false (2 ^ 63) 0 false,
     .vote 0 { src := 0 } 0 false 0 (2 ^ 33) false,
     .commitFrame 2 { src := 0 } 0,
     .commitFrame 0 { src := 1024 } 0,
     .commitFrame 0 { src := 0 } (2 ^ 32),
     .late 2 { src := 0 } 0,
     .late 0 { src := 1024 } 0,
     .late 0 { src := 0 } (2 ^ 32),
     .portUp 2,
     .portDown 2,
     .badHalingFrame 2,
     .roll 2 { src := 0 } {},
     .roll 0 { src := 1024 } {},
     .census 2 { src := 0 } [] 0,
     .census 0 { src := 1024 } [] 0,
     .census 0 { src := 0 } [1024] 0,
     .census 0 { src := 0 } [] (2 ^ 63),
     .partNotHeard 1024,
     .sync 2 { src := 0 } 0,
     .sync 0 { src := 1024 } 0,
     .sync 0 { src := 0 } (2 ^ 64),
     .syncSend 2,
     .syncReply 2 { src := 0 } 0 0 0,
     .syncReply 0 { src := 1024 } 0 0 0,
     .syncReply 0 { src := 0 } (2 ^ 64) 0 0,
     .syncReply 0 { src := 0 } 0 (2 ^ 64) 0] = true := by decide +kernel

theorem test_ill_formed_11 : refusedAll
    [.syncReply 0 { src := 0 } 0 0 (2 ^ 64),
     .state_ 2 { src := 0 } {},
     .state_ 0 { src := 1024 } {},
     .haltReport 2 { src := 0 } 0,
     .haltReport 0 { src := 1024 } 0,
     .haltReport 0 { src := 0 } (2 ^ 63),
     .align_ 2 { src := 0 } 0,
     .align_ 0 { src := 1024 } 0,
     .align_ 0 { src := 0 } (2 ^ 63),
     .stitch 2 { src := 0 } 0 0 0 false,
     .stitch 0 { src := 1024 } 0 0 0 false,
     .stitch 0 { src := 0 } 8 0 0 false,
     .stitch 0 { src := 0 } 0 2 0 false,
     .stitch 0 { src := 0 } 0 0 (2 ^ 63) false,
     .tunnelReq 2 { src := 0 } 0 0 0 [],
     .tunnelReq 0 { src := 1024 } 0 0 0 [],
     .tunnelReq 0 { src := 0 } 3 0 0 [],
     .tunnelReq 0 { src := 0 } 0 (2 ^ 16) 0 [],
     .tunnelReq 0 { src := 0 } 0 0 256 [],
     .tunnelReq 0 { src := 0 } 0 0 0 [256],
     .tunnelRsp 2 { src := 0 } 0 [],
     .tunnelRsp 0 { src := 1024 } 0 [],
     .tunnelRsp 0 { src := 0 } (2 ^ 32) [],
     .tunnelRsp 0 { src := 0 } 0 [256],
     .tunnelSend (2 ^ 32),
     .hazardSet 2 0 0,
     .hazardSet 0 1024 0,
     .hazardSet 0 0 1024,
     .hazardSetTimeout 1024,
     .hazardDemand 11 0,
     .hazardDemand 0 (2 ^ 32),
     .hazardSourceClear 11,
     .automaticRelease 11,
     .discrepancyTimeout 4,
     .hazardRelease (2 ^ 32),
     .fuseProgram (2 ^ 32),
     .fuseProgramDone (2 ^ 33) 0,
     .fuseProgramDone 0 (2 ^ 33),
     .seal_ (2 ^ 32),
     .faultCollect [2 ^ 32]] = true := by decide +kernel

theorem test_ill_formed_12 : refusedAll
    [.clearFaultLatch (2 ^ 32),
     .clearLog (2 ^ 32),
     .lockstepMismatch 8 0,
     .lockstepMismatch 0 1024,
     .supervisorWatchdogExpiry 8,
     .gateReadbackMismatch 224,
     .hazardNodeDisagreement 8,
     .onDelayElapsed 8,
     .powerUpStepComplete (List.replicate 9 0),
     .pgTimeout 8 [],
     .pgTimeout 0 (List.replicate 9 0),
     .shutdownStepComplete (List.replicate 9 0),
     .dischargeTimeout 8 [],
     .dischargeTimeout 0 (List.replicate 9 0),
     .railDeparture 8 [],
     .railDeparture 0 (List.replicate 9 0),
     .thermalModelTick 8 0,
     .thermalModelTick 0 (2 ^ 32),
     .housekeepingRound (List.replicate 9 0) [] 0 0 0,
     .housekeepingRound [] (List.replicate 9 0) 0 0 0,
     .housekeepingRound [] [] 256 0 0,
     .housekeepingRound [] [] 0 256 0,
     .housekeepingRound [] [] 0 0 256,
     .speedRequestTimer 8,
     .recessEntry 8,
     .recessExit 8,
     .standby (2 ^ 32),
     .usdoRequest 2 0 0 .read,
     .usdoRequest 0 (2 ^ 16) 0 .read,
     .usdoRequest 0 0 256 .read,
     .usdoRequest 0 0 0 (.write [256]),
     .usdoSegment 2 [] false,
     .usdoSegment 0 [256] false,
     .mirrorRead 2048 0 0 false 0 0,
     .mirrorRead 0 (2 ^ 16) 0 false 0 0,
     .mirrorRead 0 0 256 false 0 0,
     .mirrorRead 0 0 0 false 2048 0,
     .mirrorRead 0 0 0 false 0 (2 ^ 16),
     .mirrorWrite 2048 0 0 0 false 0 0,
     .mirrorWrite 0 (2 ^ 16) 0 0 false 0 0] = true := by decide +kernel

theorem test_ill_formed_13 : refusedAll
    [.mirrorWrite 0 0 256 0 false 0 0,
     .mirrorWrite 0 0 0 16384 false 0 0,
     .mirrorWrite 0 0 0 0 false 2048 0,
     .mirrorWrite 0 0 0 0 false 0 (2 ^ 16),
     .registerWrite (.object 65536 0) [],
     .registerWrite .maxPayload [256],
     .canBusOff 2,
     .canErrorPassive 2,
     .heartbeatTimeout 9,
     .heartbeatReceived 128,
     .busOffRecovery 2,
     .rpdo 64 [],
     .rpdo 0 [256],
     .tpdoTransmit 64,
     .syncMessage 256,
     .timeMessage (2 ^ 48) 0,
     .timeMessage 0 (2 ^ 64),
     .errorListClear (2 ^ 32),
     .traceEnableWrite (2 ^ 32),
     .storeSettings (2 ^ 16),
     .restoreDefaults (2 ^ 32),
     .piece [256],
     .strapSample 128,
     .mfioFunctionWrite 224 0 0,
     .mfioFunctionWrite 0 256 0,
     .mfioFunctionWrite 0 0 (2 ^ 32)] = true := by decide +kernel

/-- A word spells no command: no row of the table has bits. -/
theorem test_no_word_spells_a_command : decodeTableWord 32 0 = none := rfl

/-! Witnesses: states and operands that meet the hypotheses of each clause of a statement. -/

theorem witness_StepsKeepTheInvariant :
    ∃ (s : State), TimeOk s ∧ QueueOk s :=
  ⟨{ State.reset with pending := [.nop 0] }, by unfold TimeOk; decide, by unfold QueueOk; decide⟩

theorem witness_ResetLeaves :
    (∃ (s : State) (index : Nat) (sub : Nat), s = State.reset) ∧
    (∃ (s : State) (index : Nat) (sub : Nat), s = State.reset) ∧
    (∃ (s : State), s = State.reset) ∧
    (∃ (s : State), s = State.reset) ∧
    (∃ (s : State), s = State.reset) ∧
    (∃ (s : State), s = State.reset) ∧
    (∃ (s : State), s = State.reset) ∧
    (∃ (s : State), s = State.reset) ∧
    (∃ (s : State), s = State.reset) ∧
    (∃ (s : State), s = State.reset) ∧
    (∃ (s : State), s = State.reset) ∧
    (∃ (s : State), s = State.reset) ∧
    (∃ (s : State), s = State.reset) ∧
    (∃ (s : State) (i : Nat), s = State.reset) ∧
    (∃ (s : State) (g : Nat), s = State.reset) ∧
    (∃ (s : State) (g : Nat), s = State.reset) ∧
    (∃ (s : State) (a : Nat), s = State.reset) ∧
    (∃ (s : State) (ch : Nat), s = State.reset) ∧
    (∃ (s : State) (h : Nat), s = State.reset) ∧
    (∃ (s : State) (z : Nat), s = State.reset) ∧
    (∃ (s : State) (j : Nat), s = State.reset) ∧
    (∃ (s : State) (l : Nat) (k : Nat), s = State.reset) ∧
    (∃ (s : State) (l : Nat) (k : Nat), s = State.reset) :=
  ⟨⟨State.reset, 0x2100, 8, rfl⟩,
   ⟨State.reset, 0x4300, 6, rfl⟩,
   ⟨State.reset, rfl⟩,
   ⟨State.reset, rfl⟩,
   ⟨State.reset, rfl⟩,
   ⟨State.reset, rfl⟩,
   ⟨State.reset, rfl⟩,
   ⟨State.reset, rfl⟩,
   ⟨State.reset, rfl⟩,
   ⟨State.reset, rfl⟩,
   ⟨State.reset, rfl⟩,
   ⟨State.reset, rfl⟩,
   ⟨State.reset, rfl⟩,
   ⟨State.reset, 31, rfl⟩,
   ⟨State.reset, 31, rfl⟩,
   ⟨State.reset, 31, rfl⟩,
   ⟨State.reset, 63, rfl⟩,
   ⟨State.reset, 23, rfl⟩,
   ⟨State.reset, 63, rfl⟩,
   ⟨State.reset, 31, rfl⟩,
   ⟨State.reset, 511, rfl⟩,
   ⟨State.reset, 1023, 15, rfl⟩,
   ⟨State.reset, 1023, 15, rfl⟩⟩

theorem witness_UnpoweredPartFrozen :
    ∃ (s : State) (c : Instr), s.powered = false ∧ actsUnpowered c = false :=
  ⟨{ State.reset with power := { seq := .standby } }, (.nop 0), by decide +kernel⟩

theorem witness_StoppedRefusesCommands :
    ∃ (s : State) (c : Instr) (index : Nat), s.powered = true ∧ writtenObject c = some index ∧ s.nmt.booted = true ∧
      s.served index = true ∧ s.nmt.state = .stopped :=
  ⟨{ State.reset with nmt := { state := .stopped } }, .timetableRun, 0x2100, on (by decide +kernel),
    by decide +kernel⟩

theorem witness_StoreWindow :
    (∃ (s : State) (offset : Nat) (size : Nat) (value : Nat), s.powered = true ∧ barSizeOk offset size = true ∧
      cellsWf s.store.cells = true ∧ s.tt.state = .idle ∧ s.nmt.state = .preOperational ∧ s.cfg 0x2200 8 = 1 ∧
      s.slotsWhere SlotState.uncommitted = [] ∧ offset + size ≤ s.dataBytes) ∧
    (∃ (s : State) (offset : Nat) (size : Nat) (value : Nat), s.powered = true ∧ (barSizeOk offset size = false ∨
      s.tt.state ≠ .idle ∨ s.nmt.state ≠ .preOperational ∨ s.cfg 0x2200 8 ≠ 1 ∨ s.slotsWhere SlotState.uncommitted ≠
      [] ∨ s.dataBytes < offset + size)) ∧
    (∃ (s : State) (offset : Nat) (size : Nat) (value : Nat) (failure : Nat), s.powered = true ∧ barSizeOk offset size
      = true ∧ s.dataBytes < offset + size) :=
  ⟨⟨cfgs [(0x2200, 8, 1)] State.reset, 0, 8, 1, on (by decide +kernel), by decide +kernel⟩,
   ⟨State.reset, 0, 1, 0, on (by decide +kernel), by decide +kernel⟩,
   ⟨State.reset, 0x1000000000, 8, 0, 0, on (by decide +kernel), by decide +kernel⟩⟩

theorem witness_LaneWordsExact :
    (∃ (w : Nat), w < 2 ^ 32) ∧
    (∃ (s : State) (lane : Nat), s.powered = true ∧ (2048 ≤ (s.lane lane).pc ∨ (mapGet 0 (s.lane lane).prog (s.lane
      lane).pc < 2 ^ 32 ∧ ¬ laneForm (mapGet 0 (s.lane lane).prog (s.lane lane).pc))) ∧ lane < 1024 ∧ (s.lane
      lane).active = true ∧ (s.lane lane).state = .running) :=
  ⟨⟨0, by decide +kernel⟩,
   ⟨{ State.reset with lanes := [(1023, { state := .running, active := true, pc := 2048 })] }, 1023, on
     (by decide +kernel), Or.inl (by decide), by decide +kernel⟩⟩

theorem witness_NmtStartRefused :
    (∃ (s : State), s.powered = true ∧ s.nmt.booted = true ∧ s.sealed.on = false ∧ s.faults.fatal = false) ∧
    (∃ (s : State), s.powered = true ∧ s.nmt.booted = true ∧ s.sealed.on = true ∧ s.faults.fatal = true) ∧
    (∃ (s : State), s.powered = true ∧ s.nmt.booted = true ∧ s.sealed.on = false ∧ s.faults.fatal = true) ∧
    (∃ (s : State), s.powered = true ∧ s.nmt.booted = true ∧ s.served 0x2008 = true ∧ s.nmt.refusal < 256) :=
  ⟨⟨State.reset, on (by decide +kernel), by decide +kernel⟩,
   ⟨{ oper with faults := { fatal := true } }, on (by decide +kernel), by decide +kernel⟩,
   ⟨{ State.reset with faults := { fatal := true } }, on (by decide +kernel), by decide +kernel⟩,
   ⟨State.reset, on (by decide +kernel), by decide +kernel⟩⟩

theorem witness_CoolDownIgnoresWake :
    (∃ (s : State) (readings : List Nat) (t : _), t = ((s.setReadings readings).standbyTime.putRecord 3 s.power.step
      id) ∧ s.power.seq = .shutDown ∧ (s.power.cause = 5 ∨ s.power.cause = 6) ∧ ((s.railsOf s.power.step).all
      (s.setReadings readings).railDown) = true ∧ t.stepBelow s.power.step = none) ∧
    (∃ (s : State) (falling : Bool), s.power.seq = .standby ∧ s.power.cooling = true) ∧
    (∃ (s : State), s.power.seq = .standby ∧ s.power.cooling = true) :=
  ⟨⟨{ State.reset with power := { seq := .shutDown, cause := 5, enables := 0 } }, ([]), _, rfl, by decide +kernel⟩,
   ⟨{ State.reset with power := { seq := .standby, cooling := true, enables := 0 } }, true, by decide +kernel⟩,
   ⟨{ State.reset with power := { seq := .standby, cooling := true, enables := 0 } }, by decide +kernel⟩⟩

theorem witness_TimebaseReads :
    (∃ (s : State) (ctrl : Nat) (t : State), s.powered = true ∧ t =
      { s.awake with resp := none, answer := numBytes 8 s.timebase } ∧ s.usdoServed ctrl = true ∧ s.served 0x3800 =
      true) ∧
    (∃ (s : State) (ctrl : Nat) (t : State), s.powered = true ∧ t =
      { s.awake with resp := none, answer := numBytes 8 s.timebase } ∧ s.usdoServed ctrl = true ∧ s.served 0x3800 =
      true) :=
  ⟨⟨State.reset, 0, _, on (by decide +kernel), rfl, by decide +kernel⟩,
   ⟨State.reset, 0, _, on (by decide +kernel), rfl, by decide +kernel⟩⟩

theorem witness_GeometryWrites :
    (∃ (s : State) (v : Nat), commanded s 0x2180 = true ∧ s.preop = true ∧ v < 24 ∧ s.chanPresent v = true) ∧
    (∃ (s : State) (v : Nat), commanded s 0x2180 = true ∧ s.preop = true ∧ v < 2 ^ 64) ∧
    (∃ (s : State) (v : Nat), commanded s 0x2180 = true ∧ s.preop = true ∧ v ≤ 1) ∧
    (∃ (s : State) (w : Int), commanded s 0x2180 = true ∧ s.preop = true ∧ s.tt.state = .idle ∧ s.webQuiet = true ∧
      -(2 ^ 63) ≤ w ∧ w < 2 ^ 63) ∧
    (∃ (s : State) (st : Nat) (v : Nat), commanded s 0x2183 = true ∧ st < 8 ∧ s.present st = true ∧ s.preop = true ∧ 1
      ≤ v ∧ v ≤ 76800 ∧ s.stitchOk st (s.staged st) v = true ∧ s.stitchLegal st (s.staged st) v = true) ∧
    (∃ (s : State) (w : Int), commanded s 0x2101 = true ∧ s.tt.state = .idle ∧ s.slotsWhere SlotState.uncommitted = []
      ∧ -(2 ^ 63) ≤ w ∧ w < 2 ^ 63) ∧
    (∃ (s : State) (st : Nat), commanded s 0x2150 = true ∧ st < 8 ∧ s.present st = true ∧ s.tt.state = .idle ∧
      ((s.usedScanners st).all fun g => (upTo 32).all fun b => s.beamHealthy g b) = true) :=
  ⟨⟨State.reset, 0, takes (on (by decide +kernel)) (by decide +kernel), by decide +kernel⟩,
   ⟨State.reset, 0, takes (on (by decide +kernel)) (by decide +kernel), by decide +kernel⟩,
   ⟨State.reset, 0, takes (on (by decide +kernel)) (by decide +kernel), by decide +kernel⟩,
   ⟨State.reset, 0, takes (on (by decide +kernel)) (by decide +kernel), by decide +kernel⟩,
   ⟨State.reset, 7, 76800, takes (on (by decide +kernel)) (by decide +kernel), by decide +kernel⟩,
   ⟨State.reset, 0, takes (on (by decide +kernel)) (by decide +kernel), by decide +kernel⟩,
   ⟨State.reset, 0, takes (on (by decide +kernel)) (by decide +kernel), by decide +kernel⟩⟩

theorem witness_PanelCommands :
    (∃ (s : State) (i : Nat) (origin : Int), commanded s (0x2110 + i) = true ∧ (∀ l, s.tt.last = some l → s.cfg
      (0x2110 + i) 1 = wrapInc 32 l.seq) ∧ i < 32 ∧ (s.slot i).state.open_ = true ∧ ((maskStations (s.cfg (0x2110 + i)
      4)).all s.present) = true ∧ 1 ≤ s.cfg (0x2110 + i) 2 ∧ s.cfg (0x2110 + i) 2 ≤ s.cfg 0x2100 8 ∧ (s.cfg (0x2110 +
      i) 2 + s.cfg (0x2110 + i) 3) % 32 = 0 ∧ s.cfg (0x2110 + i) 3 ≤ 16777216 ∧ s.cfg (0x2110 + i) 4 ≠ 0 ∧
      ((maskStations (s.cfg (0x2110 + i) 4)).all s.stationOpen) = true ∧ origin =
      (match s.tt.last with | some l => l.origin + lu (l.h + l.g) | none => s.tt.nextOrigin)) ∧
    (∃ (s : State) (i : Nat), commanded s (0x2110 + i) = true ∧ i < 32 ∧ (s.slot i).state.uncommitted = true) ∧
    (∃ (s : State) (i : Nat), s.powered = true ∧ s.grantable i = true) ∧
    (∃ (s : State) (i : Nat), s.powered = true ∧ s.commitable i = true) ∧
    (∃ (s : State) (i : Nat), s.powered = true ∧ (s.slot i).state.uncommitted = true ∧ (s.tt.state = .running ∨
      s.tt.state = .restarting) ∧ s.deadlineAt i ≤ s.w ∧ (s.slot i).late = false) ∧
    (∃ (s : State) (i : Nat) (st : Nat), s.powered = true ∧ (s.slot i).state = .exposing ∧ st < 8 ∧ bit (s.slot
      i).mask st = true ∧ bit (s.slot i).rung st = false ∧ bit (s.slot i).fencedStations st = false ∧ s.present st =
      true ∧ s.bellAt i st ≤ s.w ∧ s.tt.state ≠ .reversing ∧ s.tt.state ≠ .waiting) ∧
    (∃ (s : State) (i : Nat) (st : Nat), s.powered = true ∧ (s.slot i).state = .committed ∧ st < 8 ∧ bit (s.slot
      i).mask st = true ∧ bit (s.slot i).rung st = false ∧ bit (s.slot i).fencedStations st = false ∧ s.present st =
      true ∧ s.bellAt i st ≤ s.w ∧ s.tt.state ≠ .reversing ∧ s.tt.state ≠ .waiting) :=
  ⟨⟨cfgs [(0x2110, 2, 32), (0x2110, 4, 1)] station0, 0, 0, takes (on (by decide +kernel)) (by decide +kernel), fun l h
     => (nomatch h), by decide +kernel⟩,
   ⟨panel 31 { state := .resident, mask := 1 } State.reset, 31, takes (on (by decide +kernel)) (by decide +kernel),
     by decide +kernel⟩,
   ⟨panel 31 { state := .declared, mask := 1, shares := [65536] } State.reset, 31, on (by decide +kernel),
     by decide +kernel⟩,
   ⟨panel 31 { state := .resident, mask := 1, origin := 2 ^ 40 } (tts .running State.reset), 31, on
     (by decide +kernel), by decide +kernel⟩,
   ⟨panel 31 { state := .loading, mask := 1 } (tts .running State.reset), 31, on (by decide +kernel),
     by decide +kernel⟩,
   ⟨panel 31 { state := .exposing, mask := 128 } State.reset, 31, 7, on (by decide +kernel), by decide +kernel⟩,
   ⟨panel 31 { state := .committed, mask := 128 } State.reset, 31, 7, on (by decide +kernel), by decide +kernel⟩⟩

theorem witness_HaltEvents :
    (∃ (s : State), s.powered = true ∧ (s.tt.state = .halting ∨ s.tt.state = .ending) ∧ s.tt.decelerating = false ∧
      s.tt.wd ≤ s.w) ∧
    (∃ (s : State), s.powered = true ∧ s.tt.state = .halting ∧ s.tt.decelerating = true ∧ s.leadsPhases = true) ∧
    (∃ (s : State), s.powered = true ∧ s.tt.state = .ending ∧ s.tt.decelerating = true ∧ s.leadsPhases = true) ∧
    (∃ (s : State), s.powered = true ∧ s.tt.state = .stopped ∧ s.tt.endPending = true) ∧
    (∃ (s : State), s.powered = true ∧ s.tt.state = .reversing ∧ s.tt.corrective = .none ∧ s.restInBand = true) ∧
    (∃ (s : State), s.powered = true ∧ s.tt.state = .waiting ∧ s.tt.corrective = .moving ∧ s.restInBand = true) ∧
    (∃ (s : State) (i : Nat), s.powered = true ∧ s.nextPanel = some i ∧ s.tt.state = .waiting ∧ s.tt.corrective =
      .none ∧ s.leadsPhases = true ∧ s.restartReady i = true ∧ s.membersReady = true ∧ (s.tt.holdHalt = false ∨
      s.nmt.pending ≠ .none) ∧ s.hazard.active = false) ∧
    (∃ (s : State), s.powered = true ∧ s.tt.state = .restarting ∧ s.leadsPhases = true) ∧
    (∃ (s : State), s.powered = true ∧ s.tt.nipPending = true ∧ (s.tt.state = .restarting ∨ s.tt.state = .running ∨
      ((s.tt.state = .halting ∨ s.tt.state = .ending) ∧ s.tt.decelerating = false)) ∧ s.tt.wfo ≤ s.w) :=
  ⟨⟨tts .halting State.reset, on (by decide +kernel), by decide +kernel⟩,
   ⟨{ State.reset with tt := { state := .halting, decelerating := true } }, on (by decide +kernel), by decide +kernel⟩,
   ⟨{ State.reset with tt := { state := .ending, decelerating := true } }, on (by decide +kernel), by decide +kernel⟩,
   ⟨{ State.reset with tt := { state := .stopped, endPending := true } }, on (by decide +kernel), by decide +kernel⟩,
   ⟨tts .reversing State.reset, on (by decide +kernel), by decide +kernel⟩,
   ⟨{ State.reset with tt := { state := .waiting, corrective := .moving } }, on (by decide +kernel),
     by decide +kernel⟩,
   ⟨panel 31 { state := .committed } (tts .waiting State.reset), 31, on (by decide +kernel), by decide +kernel⟩,
   ⟨tts .restarting State.reset, on (by decide +kernel), by decide +kernel⟩,
   ⟨{ State.reset with tt := { state := .restarting, nipPending := true } }, on (by decide +kernel),
     by decide +kernel⟩⟩

theorem witness_TimetableCommands :
    (∃ (s : State), commanded s 0x2100 = true ∧ s.nmt.state = .operational ∧ s.nmt.pending = .none ∧ s.faults.fatal =
      false ∧ s.groupReady = true ∧ (s.tt.state = .idle ∨ s.tt.state = .stopped) ∧ s.runOk = true ∧ s.webLoopFits =
      true ∧ s.isHomeroom = true) ∧
    (∃ (s : State), commanded s 0x2100 = true ∧ s.nmt.state = .operational ∧ s.nmt.pending = .none ∧ s.faults.fatal =
      false ∧ s.groupReady = true ∧ s.tt.state = .waiting ∧ s.tt.corrective = .none) ∧
    (∃ (s : State), commanded s 0x2100 = true ∧ s.tt.state = .running) ∧
    (∃ (s : State), commanded s 0x2100 = true ∧ (s.tt.state = .halting ∨ s.tt.state = .reversing ∨ s.tt.state =
      .waiting)) ∧
    (∃ (s : State), commanded s 0x2100 = true ∧ s.tt.state = .running) ∧
    (∃ (s : State), commanded s 0x2100 = true ∧ s.tt.state = .stopped ∧ s.web.moving = false) ∧
    (∃ (s : State), commanded s 0x2100 = true ∧ s.tt.state = .stopped ∧ s.web.moving = true) :=
  ⟨⟨cfgs [(0x311F, 1, 0), (0x311F, 4, 0x46B88C00), (0x2320, 1, 0x46B88C00)]
     { oper with axes := [(0, { state := .hold })] }, takes (on (by decide +kernel)) (by decide +kernel),
     by decide +kernel⟩,
   ⟨tts .waiting oper, takes (on (by decide +kernel)) (by decide +kernel), by decide +kernel⟩,
   ⟨tts .running oper, takes (on (by decide +kernel)) (by decide +kernel), by decide +kernel⟩,
   ⟨tts .reversing oper, takes (on (by decide +kernel)) (by decide +kernel), by decide +kernel⟩,
   ⟨tts .running oper, takes (on (by decide +kernel)) (by decide +kernel), by decide +kernel⟩,
   ⟨tts .stopped oper, takes (on (by decide +kernel)) (by decide +kernel), by decide +kernel⟩,
   ⟨{ oper with tt := { state := .stopped }, web := { moving := true } }, takes (on (by decide +kernel))
     (by decide +kernel), by decide +kernel⟩⟩

theorem witness_BarAndRingWrites :
    (∃ (s : State) (o : Nat) (size : Nat) (value : Nat), s.powered = true ∧ barSizeOk o size = true ∧ (0x18100 ≤ o ∧ o
      < 0x01000000 ∨ 0x01080000 ≤ o ∧ o < 0x02000000)) ∧
    (∃ (s : State) (o : Nat) (size : Nat) (value : Nat), s.powered = true ∧ barSizeOk o size = true ∧ (0x00200000 ≤ o
      ∧ o < 0x04000000 ∨ 0x0C000000 ≤ o ∧ o < 0x40000000)) ∧
    (∃ (s : State) (bar : Nat) (o : Nat) (size : Nat) (value : Nat), s.powered = true ∧ barSizeOk o size = true ∧ (bar
      = 0 ∧ o < 0x04000000 ∧ s.bar0Bytes o size = none ∨ bar = 2 ∧ o < 0x40000000 ∧ s.bar2Bytes o size = none)) ∧
    (∃ (s : State) (bar : Nat) (o : Nat) (size : Nat) (value : Nat) (bs : List Nat), s.powered = true ∧ barSizeOk o
      size = true ∧ (bar = 0 ∧ o < 0x04000000 ∧ s.bar0Bytes o size = some bs ∨ bar = 2 ∧ o < 0x40000000 ∧ s.bar2Bytes
      o size = some bs)) ∧
    (∃ (s : State) (write : Bool) (bar : Nat) (o : Nat) (size : Nat) (value : Nat), s.powered = true ∧ barSizeOk o
      size = false ∧ (bar = 0 ∧ o < 0x04000000 ∨ bar = 2 ∧ o < 0x40000000)) ∧
    (∃ (s : State) (offset : Nat) (size : Nat), s.powered = true ∧ barSizeOk offset size = true ∧ offset + size ≤
      s.dataBytes ∧ s.store.rasterIn = false) ∧
    (∃ (s : State) (offset : Nat) (size : Nat) (v : _) (t : _), s.powered = true ∧ (s.supervisorBurst (s.channelOf
      offset)).freeNat = (v, t) ∧ barSizeOk offset size = true ∧ offset + size ≤ s.dataBytes ∧ s.store.rasterIn =
      true) ∧
    (∃ (s : State) (offset : Nat) (size : Nat) (failure : Nat), s.powered = true ∧ barSizeOk offset size = false) ∧
    (∃ (s : State) (offset : Nat) (size : Nat) (value : Nat) (t : State), s.powered = true ∧ t = s.supervisorBurst
      (s.channelOf offset) ∧ barSizeOk offset size = true ∧ s.tt.state = .idle ∧ s.nmt.state = .preOperational ∧ s.cfg
      0x2200 8 = 1 ∧ s.slotsWhere SlotState.uncommitted = [] ∧ offset + size ≤ s.dataBytes) ∧
    (∃ (s : State) (q : Nat), s.powered = true ∧ s.ringPresent q = true ∧ (s.ring q).enable = false ∧ s.ringEnableOk q
      = true ∧ s.ringKind q ≠ 5) ∧
    (∃ (s : State) (q : Nat) (t : State), s.powered = true ∧ t = s.ringReset q ∧ s.ringPresent q = true ∧ (s.ring
      q).enable = true ∧ s.ringKind q ≠ 5) ∧
    (∃ (s : State) (q : Nat) (v : Nat) (t : State), s.powered = true ∧ t = s.leaveRecess (ringDie q) ∧ t.ringPresent q
      = true ∧ (t.ring q).enable = true ∧ t.ringKind q ≠ 5 ∧ ((v % 2 ^ 32 : Nat) - (t.ring q).producer : Int) % 2 ^ 32
      < 2 ^ 31 ∧ ((v % 2 ^ 32 : Nat) - (t.ring q).consumer : Int) % 2 ^ 32 ≤ 2 ^ (t.ring q).order) ∧
    (∃ (s : State) (q : Nat) (v : Nat) (t : State), s.powered = true ∧ t = s.leaveRecess (ringDie q) ∧ t.ringPresent q
      = true ∧ (t.ring q).enable = true ∧ t.ringKind q = 5 ∧ (t.modRing q fun r =>
      { r with consumer := v % 2 ^ 32 }).eventRing (ringDie q) = some q ∧ ((v % 2 ^ 32 : Nat) - (t.ring q).consumer :
      Int) % 2 ^ 32 < 2 ^ 31 ∧ ((t.ring q).producer - (v % 2 ^ 32 : Nat) : Int) % 2 ^ 32 ≤ 2 ^ (t.ring q).order) ∧
    (∃ (s : State) (t : State), s.powered = true ∧ t = s.interfaceReset) ∧
    (∃ (s : State) (t : State), s.powered = true ∧ t = s.interfaceReset) ∧
    (∃ (s : State) (t : State), s.powered = true ∧ t = s.interfaceReset) ∧
    (∃ (s : State) (t : State) (speed : Nat) (width : Nat), s.powered = true ∧ t = s.interfaceReset ∧ 3 ≤ speed ∧
      speed ≤ 5 ∧ (width = 1 ∨ width = 2 ∨ width = 4 ∨ width = 8)) :=
  ⟨⟨State.reset, 0x18100, 8, 0, on (by decide +kernel), by decide +kernel⟩,
   ⟨State.reset, 0x00200000, 8, 0, on (by decide +kernel), by decide +kernel⟩,
   ⟨State.reset, 0, 0x18100, 8, 0, on (by decide +kernel), by decide +kernel⟩,
   ⟨State.reset, 0, 0, 8, 0, ((State.reset.bar0Bytes 0 8).getD []), on (by decide +kernel), by decide +kernel⟩,
   ⟨State.reset, true, 0, 0, 3, 0, on (by decide +kernel), by decide +kernel⟩,
   ⟨State.reset, 0, 4, on (by decide +kernel), by decide +kernel⟩,
   ⟨{ State.reset with store := { rasterIn := true } }, 0, 4,
     ((({ State.reset with store := { rasterIn := true } }).supervisorBurst
     (({ State.reset with store := { rasterIn := true } }).channelOf 0)).freeNat.1),
     ((({ State.reset with store := { rasterIn := true } }).supervisorBurst
     (({ State.reset with store := { rasterIn := true } }).channelOf 0)).freeNat.2), on (by decide +kernel), rfl,
     by decide +kernel⟩,
   ⟨State.reset, 0, 3, 0, on (by decide +kernel), by decide +kernel⟩,
   ⟨cfgs [(0x2200, 8, 1)] State.reset, 0, 8, 1, _, on (by decide +kernel), rfl, by decide +kernel⟩,
   ⟨State.reset, 0, on (by decide +kernel), by decide +kernel⟩,
   ⟨State.reset.modRing 0 fun r => { r with enable := true }, 0, _, on (by decide +kernel), rfl, by decide +kernel⟩,
   ⟨State.reset.modRing 0 fun r => { r with enable := true, order := 4 }, 0, 16, _, on (by decide +kernel), rfl,
     by decide +kernel⟩,
   ⟨cfgs [(0x2210, 1, 5)] (State.reset.modRing 4096 fun r => { r with enable := true, order := 4, producer := 16 }),
     4096, 16, _, on (by decide +kernel), rfl, by decide +kernel⟩,
   ⟨State.reset, _, on (by decide +kernel), rfl⟩,
   ⟨State.reset, _, on (by decide +kernel), rfl⟩,
   ⟨State.reset, _, on (by decide +kernel), rfl⟩,
   ⟨State.reset, _, 3, 1, on (by decide +kernel), rfl, by decide +kernel⟩⟩

theorem witness_RingTraffic :
    (∃ (s : State) (q : Nat), s.powered = true ∧ s.fetchable q = true ∧ s.ringTurn q = true ∧ (s.ring q).head = none) ∧
    (∃ (s : State) (q : Nat) (d : Nat), s.powered = true ∧ s.fetchable q = true ∧ s.ringTurn q = true ∧ (s.ring
      q).head = none) ∧
    (∃ (s : State) (q : Nat) (die : Nat), s.powered = true ∧ s.present die = true ∧ s.beatWinner die = none) ∧
    (∃ (s : State) (q : Nat) (die : Nat) (ch : Nat) (c : _) (n : _) (t : State), s.powered = true ∧ t = s.countBeat
      die ∧ c = mapGet ({} : DmaChannel) t.intake.channels (64 * die + ch) ∧ n = min 64 c.staged ∧ s.present die =
      true ∧ s.beatWinner die = some ch ∧ c.ring = some q) ∧
    (∃ (s : State) (q : Nat) (h : Head) (bytes : List Nat) (new : List Nat) (h1 : Head) (t : State), s.powered = true
      ∧ new = (bytes.take (min (descLength h.raw - h.buf.length) (4096 - (mapGet ({} : DmaChannel) s.intake.channels
      (s.channelKey q)).staged))).map (· % 256) ∧ h1 = { h with buf := h.buf ++ new } ∧ t = (s.modRing q fun r =>
      { r with head := some h1 }) ∧ (s.ring q).head = some h ∧ h.moving = true ∧ ({ t with
        intake := { t.intake with
          channels := mapMod {} t.intake.channels (t.channelKey q) fun c => { c with staged := c.staged + new.length }
            } } ).headVerdict q h1 = none) ∧
    (∃ (s : State) (q : Nat) (h : Head), s.powered = true ∧ (s.ring q).head = some h ∧ h.moving = true ∧ s.ringKind q
      ≠ 2) ∧
    (∃ (s : State) (q : Nat) (h : Head), s.powered = true ∧ (s.ring q).head = some h ∧ h.moving = true ∧ s.ringKind q
      = 2) ∧
    (∃ (s : State) (q : Nat) (h : Head) (x : _), s.powered = true ∧ x = s.spanOf (laneScanner (ringLane q)) ∧ (s.ring
      q).head = some h ∧ s.ringKind q = 1 ∧ h.moving = true ∧ h.linesStored < descLines h.raw ∧ (s.ring q).format = 2
      ∧ s.intakeStalled = false ∧ (h.linesStored + 1) * lineStride 2 x.1 x.2 ≤ h.buf.length ∧ (h.linesStored + 1) *
      lineStride 2 x.1 x.2 ≤ h.moved) ∧
    (∃ (s : State) (q : Nat) (h : Head), s.powered = true ∧ (s.ring q).head = some h ∧ s.ringKind q = 1 ∧ h.moving =
      true ∧ (s.ring q).format ≠ 1 ∧ descLines h.raw ≤ h.linesStored) ∧
    (∃ (s : State) (q : Nat) (h : Head), s.powered = true ∧ (s.ring q).head = some h ∧ s.ringKind q = 1 ∧ h.moving =
      true ∧ (s.ring q).format = 1 ∧ descLength h.raw ≤ h.buf.length ∧ descLines h.raw ≤ h.linesStored ∧ descLength
      h.raw ≤ h.offset) :=
  ⟨⟨State.reset.modRing 0 fun r => { r with enable := true, producer := 1 }, 0, on (by decide +kernel),
     by decide +kernel⟩,
   ⟨State.reset.modRing 0 fun r => { r with enable := true, producer := 1 }, 0, (2 ^ 192), on (by decide +kernel),
     by decide +kernel⟩,
   ⟨State.reset, 0, 0, on (by decide +kernel), by decide +kernel⟩,
   ⟨{ State.reset with intake := { channels := [(63, { staged := 64, ring := some 0 })] } }, 0, 0, 63, _, _, _, on
     (by decide +kernel), rfl, rfl, rfl, by decide +kernel⟩,
   ⟨headAt 0 { raw := 0, moving := true } State.reset, 0, ({ raw := 0, moving := true }), ([1, 2]), _, _, _, on
     (by decide +kernel), rfl, rfl, rfl, by decide +kernel⟩,
   ⟨headAt 0 { raw := 0, moving := true } State.reset, 0, ({ raw := 0, moving := true }), on (by decide +kernel),
     by decide +kernel⟩,
   ⟨ctlRing 2 { raw := 0, moving := true } State.reset, 4096, ({ raw := 0, moving := true }), on (by decide +kernel),
     by decide +kernel⟩,
   ⟨headAt 0 { raw := 2 ^ 192, moving := true, buf := List.replicate 64 0, moved := 64 } ((narrow State.reset).modRing
     0 fun r => { r with format := 2 }), 0,
     ({ raw := 2 ^ 192, moving := true, buf := List.replicate 64 0, moved := 64 }), _, on (by decide +kernel), rfl,
     by decide +kernel⟩,
   ⟨headAt 0 { raw := 0, moving := true } State.reset, 0, ({ raw := 0, moving := true }), on (by decide +kernel),
     by decide +kernel⟩,
   ⟨headAt 0 { raw := 0, moving := true } (State.reset.modRing 0 fun r => { r with format := 1 }), 0,
     ({ raw := 0, moving := true }), on (by decide +kernel), by decide +kernel⟩⟩

theorem witness_StoreCommands :
    (∃ (s : State) (slot : Nat) (lane : Nat) (y : Nat) (chan : Nat) (t : State) (u : State), s.powered = true ∧ t =
      (s.modLane lane fun x => { x with lastPlayed := s.sweepKey slot y }) ∧ u = { t with
        store := { t.store with
          prefetch := mapMod 0 t.store.prefetch (laneStation lane) (· - ceilDiv (s.lineAt slot lane y).bytes.length
            64) }, lines := mapMod {} t.lines (lineKey slot lane y) fun x => { x with badBlocks := x.badBlocks ++ [] }
          } ∧ lane < 1024 ∧ (s.slot slot).state.isCommitted = true ∧ s.isStored slot lane y = true ∧ s.present
      (laneStation lane) = true ∧ (s.lane lane).lastPlayed < s.sweepKey slot y) ∧
    (∃ (s : State) (c : Nat), s.powered = true) ∧
    (∃ (s : State), s.powered = true) ∧
    (∃ (s : State) (k : Nat) (pending : _) (r : Nat) (t : State), s.powered = true ∧ t = (s.modPort k fun p =>
      p.decision s.presentDies (s.asking k pending)) ∧ s.channelPresent k = true ∧ t.arbWinner k ((s.asking k
      pending).filter fun r => s.requesterOk r && !(s.port k).excluded.contains r && (!(s.port k).detained || decide
      (r % 8 = 3))) = some r) ∧
    (∃ (s : State) (k : Nat) (r : Nat), s.powered = true ∧ (s.port k).lastGrant = some r ∧ r % 8 ≠ 3) ∧
    (∃ (s : State) (k : Nat) (r : Nat) (t : State), s.powered = true ∧ t = (s.modPort k fun p =>
      { p with spent := mapMod 0 p.spent r (· - 1), lastGrant := none, excluded := r :: p.excluded }) ∧ (s.port
      k).lastGrant = some r ∧ r % 8 = 3) ∧
    (∃ (s : State) (q : Nat) (h : Head) (block : List Nat) (x : _) (n : _) (prev : _) (prev2 : _), s.powered = true ∧
      x = s.spanOf (laneScanner (ringLane q)) ∧ n = x.2 + 1 - x.1 ∧ prev = (if 1 ≤ h.linesStored then bufferLine 0 x.1
      x.2 (h.linesStored - 1) h.buf else []) ∧ prev2 = (if 2 ≤ h.linesStored then bufferLine 0 x.1 x.2 (h.linesStored
      - 2) h.buf else []) ∧ (s.ring q).head = some h ∧ s.ringKind q = 1 ∧ (s.ring q).format = 0 ∧ s.variant.codec =
      true ∧ h.moving = true ∧ h.linesStored < descLines h.raw ∧ s.compressorTurn q = true ∧ bit
      s.store.compressorHeld (ringDie q) = false ∧ s.intakeStalled = false ∧ h.blockPixels < n ∧ (h.linesStored + 1) *
      lineStride 0 x.1 x.2 ≤ h.buf.length ∧ (h.linesStored + 1) * lineStride 0 x.1 x.2 ≤ h.moved ∧ blockHolds block
      prev prev2 h.blockPixels (((bufferLine 0 x.1 x.2 h.linesStored h.buf).drop h.blockPixels).take (min 2048 (n -
      h.blockPixels))) = true) ∧
    (∃ (s : State) (q : Nat) (h : Head) (blocks : List (List Nat)), s.powered = true ∧ s.jobReady q 0x20 = some h ∧
      bit s.store.compressorHeld (ringDie q) = true) ∧
    (∃ (s : State) (q : Nat) (h : Head) (blocks : List (List Nat)) (j : _), s.powered = true ∧ j = Job.compress (bit
      h.raw 106) (jobOutLength h.raw) (s.cfg 0x2330 1 - mapGet 0 s.store.mismatches (ringDie q)) ((s.jobStart q
      h).input.length + 1) blocks (s.jobStart q h) ∧ s.jobReady q 0x20 = some h ∧ bit s.store.compressorHeld (ringDie
      q) = false ∧ j.mismatches = 0) ∧
    (∃ (s : State) (q : Nat) (h : Head), s.powered = true ∧ s.jobReady q 0x21 = some h) :=
  ⟨⟨panel 0 { state := .exposing, mask := 1 } { State.reset with lines := [(lineKey 0 0 0, { stored := true })] }, 0,
     0, 0, 0, _, _, on (by decide +kernel), rfl, rfl, by decide +kernel⟩,
   ⟨State.reset, 0, on (by decide +kernel)⟩,
   ⟨State.reset, on (by decide +kernel)⟩,
   ⟨State.reset, 0, ([0]), 3, _, on (by decide +kernel), rfl, by decide +kernel⟩,
   ⟨{ State.reset with store := { ports := [(0, { lastGrant := some 8 })] } }, 0, 8, on (by decide +kernel),
     by decide +kernel⟩,
   ⟨{ State.reset with store := { ports := [(0, { lastGrant := some 3 })] } }, 0, 3, _, on (by decide +kernel), rfl,
     by decide +kernel⟩,
   ⟨headAt 0 { raw := 2 ^ 192, moving := true, buf := List.replicate 64 0, moved := 64 } (narrow State.reset), 0,
     ({ raw := 2 ^ 192, moving := true, buf := List.replicate 64 0, moved := 64 }), (trcStored [0]), _, _, _, _, on
     (by decide +kernel), rfl, rfl, rfl, rfl, by decide +kernel⟩,
   ⟨ctlRing 2 { raw := 0x20 * 2 ^ 96, moving := true } { State.reset with store := { compressorHeld := 1 } }, 4096,
     ({ raw := 0x20 * 2 ^ 96, moving := true }), (([] : List (List Nat))), on (by decide +kernel), by decide +kernel⟩,
   ⟨ctlRing 2 { raw := 0x20 * 2 ^ 96, moving := true } State.reset, 4096, ({ raw := 0x20 * 2 ^ 96, moving := true }),
     (([] : List (List Nat))), _, on (by decide +kernel), rfl, by decide +kernel⟩,
   ⟨ctlRing 2 { raw := 0x21 * 2 ^ 96, moving := true } State.reset, 4096, ({ raw := 0x21 * 2 ^ 96, moving := true }),
     on (by decide +kernel), by decide +kernel⟩⟩

theorem witness_LaneScalarOps :
    (∃ (s : State) (lane : Nat) (sd : Nat) (sa : Nat) (sb : Nat), s.powered = true ∧ s.laneAt lane 0 = true) ∧
    (∃ (s : State) (lane : Nat) (sd : Nat) (sa : Nat) (sb : Nat), s.powered = true ∧ s.laneAt lane (wordS 0x01 sd sa
      sb) = true) ∧
    (∃ (s : State) (lane : Nat) (sd : Nat) (sa : Nat) (sb : Nat), s.powered = true ∧ s.laneAt lane (wordS 0x02 sd sa
      sb) = true) ∧
    (∃ (s : State) (lane : Nat) (sd : Nat) (sa : Nat) (sb : Nat), s.powered = true ∧ s.laneAt lane (wordS 0x03 sd sa
      sb) = true) ∧
    (∃ (s : State) (lane : Nat) (sd : Nat) (sa : Nat) (sb : Nat), s.powered = true ∧ s.laneAt lane (wordS 0x04 sd sa
      sb) = true) ∧
    (∃ (s : State) (lane : Nat) (sd : Nat) (sa : Nat) (sb : Nat), s.powered = true ∧ s.laneAt lane (wordS 0x05 sd sa
      sb) = true) ∧
    (∃ (s : State) (lane : Nat) (sd : Nat) (sa : Nat) (sb : Nat), s.powered = true ∧ s.laneAt lane (wordS 0x06 sd sa
      sb) = true) ∧
    (∃ (s : State) (lane : Nat) (sd : Nat) (sa : Nat) (sb : Nat), s.powered = true ∧ s.laneAt lane (wordS 0x07 sd sa
      sb) = true) :=
  ⟨⟨atWord 0, 1023, 0, 0, 0, on (by decide +kernel), by decide +kernel⟩,
   ⟨atWord (wordS 0x01 15 15 15), 1023, 15, 15, 15, on (by decide +kernel), by decide +kernel⟩,
   ⟨atWord (wordS 0x02 15 15 15), 1023, 15, 15, 15, on (by decide +kernel), by decide +kernel⟩,
   ⟨atWord (wordS 0x03 15 15 15), 1023, 15, 15, 15, on (by decide +kernel), by decide +kernel⟩,
   ⟨atWord (wordS 0x04 15 15 15), 1023, 15, 15, 15, on (by decide +kernel), by decide +kernel⟩,
   ⟨atWord (wordS 0x05 15 15 15), 1023, 15, 15, 15, on (by decide +kernel), by decide +kernel⟩,
   ⟨atWord (wordS 0x06 15 15 15), 1023, 15, 15, 15, on (by decide +kernel), by decide +kernel⟩,
   ⟨atWord (wordS 0x07 15 15 15), 1023, 15, 15, 15, on (by decide +kernel), by decide +kernel⟩⟩

theorem witness_LaneImmediateOps :
    (∃ (s : State) (lane : Nat) (sd : Nat) (sa : Nat) (imm : Nat) (i : Int), s.powered = true ∧ s.laneAt lane (wordI
      0x08 sd sa (imm18 i)) = true) ∧
    (∃ (s : State) (lane : Nat) (sd : Nat) (sa : Nat) (imm : Nat) (i : Int), s.powered = true ∧ s.laneAt lane (wordI
      0x09 sd sa imm) = true) ∧
    (∃ (s : State) (lane : Nat) (sd : Nat) (sa : Nat) (imm : Nat) (i : Int), s.powered = true ∧ s.laneAt lane (wordI
      0x0A sd sa imm) = true) ∧
    (∃ (s : State) (lane : Nat) (sd : Nat) (sa : Nat) (imm : Nat) (i : Int), s.powered = true ∧ s.laneAt lane (wordI
      0x0B sd sa imm) = true) ∧
    (∃ (s : State) (lane : Nat) (sd : Nat) (sa : Nat) (imm : Nat) (i : Int), s.powered = true ∧ s.laneAt lane (wordI
      0x0C sd sa imm) = true) ∧
    (∃ (s : State) (lane : Nat) (sd : Nat) (sa : Nat) (imm : Nat) (i : Int), s.powered = true ∧ s.laneAt lane (wordI
      0x0D sd 0 imm) = true) ∧
    (∃ (s : State) (lane : Nat) (sd : Nat) (sa : Nat) (imm : Nat) (i : Int), s.powered = true ∧ s.laneAt lane (wordI
      0x10 sd 0 imm) = true) ∧
    (∃ (s : State) (lane : Nat) (sd : Nat) (sa : Nat) (imm : Nat) (i : Int) (a : _), a = (s.lane lane).dataAddr sa
      (toSigned 18 (imm18 i)) ∧ s.powered = true ∧ dataOk a 4 = true ∧ s.laneAt lane (wordI 0x0E sd sa (imm18 i)) =
      true) ∧
    (∃ (s : State) (lane : Nat) (sd : Nat) (sa : Nat) (imm : Nat) (i : Int) (a : _), a = (s.lane lane).dataAddr sa
      (toSigned 18 (imm18 i)) ∧ s.powered = true ∧ dataOk a 4 = true ∧ s.laneAt lane (wordI 0x0F sd sa (imm18 i)) =
      true) :=
  ⟨⟨atWord (wordI 0x08 15 15 (imm18 (-131072))), 1023, 15, 15, 0, (-131072), on (by decide +kernel),
     by decide +kernel⟩,
   ⟨atWord (wordI 0x09 15 15 262143), 1023, 15, 15, 262143, 0, on (by decide +kernel), by decide +kernel⟩,
   ⟨atWord (wordI 0x0A 15 15 262143), 1023, 15, 15, 262143, 0, on (by decide +kernel), by decide +kernel⟩,
   ⟨atWord (wordI 0x0B 15 15 31), 1023, 15, 15, 31, 0, on (by decide +kernel), by decide +kernel⟩,
   ⟨atWord (wordI 0x0C 15 15 31), 1023, 15, 15, 31, 0, on (by decide +kernel), by decide +kernel⟩,
   ⟨atWord (wordI 0x0D 15 0 262143), 1023, 15, 0, 262143, 0, on (by decide +kernel), by decide +kernel⟩,
   ⟨atWord (wordI 0x10 15 0 11), 1023, 15, 0, 11, 0, on (by decide +kernel), by decide +kernel⟩,
   ⟨atWord (wordI 0x0E 15 15 8188), 1023, 15, 15, 0, 8188, _, rfl, on (by decide +kernel), by decide +kernel⟩,
   ⟨atWord (wordI 0x0F 15 15 8188), 1023, 15, 15, 0, 8188, _, rfl, on (by decide +kernel), by decide +kernel⟩⟩

theorem witness_LaneBranches :
    (∃ (s : State) (lane : Nat) (sa : Nat) (sb : Nat) (target : Nat), s.powered = true ∧ s.laneAt lane (wordB 0x14 0 0
      target) = true) ∧
    (∃ (s : State) (lane : Nat) (sa : Nat) (sb : Nat) (target : Nat), s.powered = true ∧ s.laneAt lane (wordB 0x15 sa
      sb target) = true) ∧
    (∃ (s : State) (lane : Nat) (sa : Nat) (sb : Nat) (target : Nat), s.powered = true ∧ s.laneAt lane (wordB 0x16 sa
      sb target) = true) ∧
    (∃ (s : State) (lane : Nat) (sa : Nat) (sb : Nat) (target : Nat), s.powered = true ∧ s.laneAt lane (wordB 0x17 sa
      sb target) = true) ∧
    (∃ (s : State) (lane : Nat) (sa : Nat) (sb : Nat) (target : Nat), s.powered = true ∧ s.laneAt lane (wordB 0x18 sa
      sb target) = true) ∧
    (∃ (s : State) (lane : Nat) (sa : Nat) (sb : Nat) (target : Nat), s.powered = true ∧ s.laneAt lane (wordB 0x19 sa
      0 target) = true) ∧
    (∃ (s : State) (lane : Nat) (sa : Nat) (sb : Nat) (target : Nat), s.powered = true ∧ (s.lane lane).stack.length <
      8 ∧ s.laneAt lane (wordB 0x1A 0 0 target) = true) ∧
    (∃ (s : State) (lane : Nat) (sa : Nat) (sb : Nat) (target : Nat) (a : Nat) (rest : _), s.powered = true ∧ (s.lane
      lane).stack = a :: rest ∧ s.laneAt lane (wordB 0x1B 0 0 0) = true) ∧
    (∃ (s : State) (lane : Nat) (sa : Nat) (sb : Nat) (target : Nat), s.powered = true ∧ s.pastDeadline lane = true) ∧
    (∃ (s : State) (lane : Nat) (sa : Nat) (sb : Nat) (target : Nat), s.powered = true ∧ s.pastDeadline lane = false ∧
      s.laneAt lane (wordB 0x1C 0 0 0) = true) :=
  ⟨⟨atWord (wordB 0x14 0 0 2047), 1023, 0, 0, 2047, on (by decide +kernel), by decide +kernel⟩,
   ⟨atWord (wordB 0x15 15 15 2047), 1023, 15, 15, 2047, on (by decide +kernel), by decide +kernel⟩,
   ⟨atWord (wordB 0x16 15 15 2047), 1023, 15, 15, 2047, on (by decide +kernel), by decide +kernel⟩,
   ⟨atWord (wordB 0x17 15 15 2047), 1023, 15, 15, 2047, on (by decide +kernel), by decide +kernel⟩,
   ⟨atWord (wordB 0x18 15 15 2047), 1023, 15, 15, 2047, on (by decide +kernel), by decide +kernel⟩,
   ⟨atWord (wordB 0x19 15 0 2047), 1023, 15, 0, 2047, on (by decide +kernel), by decide +kernel⟩,
   ⟨atWord (wordB 0x1A 0 0 2047) { stack := [0, 1, 2, 3, 4, 5, 6] }, 1023, 15, 0, 2047, on (by decide +kernel),
     by decide +kernel⟩,
   ⟨atWord (wordB 0x1B 0 0 0) { stack := [0] }, 1023, 15, 0, 2047, 0, ([]), on (by decide +kernel), by decide +kernel⟩,
   ⟨panel 0 { state := .exposing, mask := 1, h := 1 } (cfgs [(0x2180, 2, 1)] { State.reset with
       timebase := 400, web := { moving := true }, chans := [(0, { p1 := 1 })], scanners := [(0, {
         state := .locked, laser := true, edge := some
           { t16 := 0, wl := 0, facet := 0, locked := true, inferred := false, numbered := true } })], lanes := [(0,
         { state := .running, active := true, slot := 0, n := 0 })] }), 0, 0, 0, 0, on (by decide +kernel),
     by decide +kernel⟩,
   ⟨atWord (wordB 0x1C 0 0 0), 1023, 15, 0, 2047, on (by decide +kernel), by decide +kernel⟩⟩

theorem witness_LaneVectorOps :
    (∃ (s : State) (lane : Nat) (vd : Nat) (va : Nat) (vb : Nat) (sa : Nat) (imm : Nat), s.powered = true ∧ s.laneAt
      lane (wordV 0x28 vd va vb 0 0) = true) ∧
    (∃ (s : State) (lane : Nat) (vd : Nat) (va : Nat) (vb : Nat) (sa : Nat) (imm : Nat), s.powered = true ∧ s.laneAt
      lane (wordV 0x29 vd va vb 0 0) = true) ∧
    (∃ (s : State) (lane : Nat) (vd : Nat) (va : Nat) (vb : Nat) (sa : Nat) (imm : Nat), s.powered = true ∧ s.laneAt
      lane (wordV 0x2A vd va vb 0 0) = true) ∧
    (∃ (s : State) (lane : Nat) (vd : Nat) (va : Nat) (vb : Nat) (sa : Nat) (imm : Nat), s.powered = true ∧ s.laneAt
      lane (wordV 0x2B vd va vb 0 0) = true) ∧
    (∃ (s : State) (lane : Nat) (vd : Nat) (va : Nat) (vb : Nat) (sa : Nat) (imm : Nat), s.powered = true ∧ s.laneAt
      lane (wordV 0x2C vd va vb 0 0) = true) ∧
    (∃ (s : State) (lane : Nat) (vd : Nat) (va : Nat) (vb : Nat) (sa : Nat) (imm : Nat), s.powered = true ∧ s.laneAt
      lane (wordV 0x2D vd va vb 0 0) = true) ∧
    (∃ (s : State) (lane : Nat) (vd : Nat) (va : Nat) (vb : Nat) (sa : Nat) (imm : Nat), s.powered = true ∧ s.laneAt
      lane (wordV 0x30 vd va vb 0 0) = true) ∧
    (∃ (s : State) (lane : Nat) (vd : Nat) (va : Nat) (vb : Nat) (sa : Nat) (imm : Nat), s.powered = true ∧ s.laneAt
      lane (wordV 0x31 vd va vb 0 0) = true) ∧
    (∃ (s : State) (lane : Nat) (vd : Nat) (va : Nat) (vb : Nat) (sa : Nat) (imm : Nat), s.powered = true ∧ s.laneAt
      lane (wordV 0x2E vd 0 0 sa 0) = true) ∧
    (∃ (s : State) (lane : Nat) (vd : Nat) (va : Nat) (vb : Nat) (sa : Nat) (imm : Nat), s.powered = true ∧ s.laneAt
      lane (wordV 0x2F vd va 0 0 imm) = true) :=
  ⟨⟨atWord (wordV 0x28 7 7 7 0 0), 1023, 7, 7, 7, 0, 0, on (by decide +kernel), by decide +kernel⟩,
   ⟨atWord (wordV 0x29 7 7 7 0 0), 1023, 7, 7, 7, 0, 0, on (by decide +kernel), by decide +kernel⟩,
   ⟨atWord (wordV 0x2A 7 7 7 0 0), 1023, 7, 7, 7, 0, 0, on (by decide +kernel), by decide +kernel⟩,
   ⟨atWord (wordV 0x2B 7 7 7 0 0), 1023, 7, 7, 7, 0, 0, on (by decide +kernel), by decide +kernel⟩,
   ⟨atWord (wordV 0x2C 7 7 7 0 0), 1023, 7, 7, 7, 0, 0, on (by decide +kernel), by decide +kernel⟩,
   ⟨atWord (wordV 0x2D 7 7 7 0 0), 1023, 7, 7, 7, 0, 0, on (by decide +kernel), by decide +kernel⟩,
   ⟨atWord (wordV 0x30 7 7 7 0 0), 1023, 7, 7, 7, 0, 0, on (by decide +kernel), by decide +kernel⟩,
   ⟨atWord (wordV 0x31 7 7 7 0 0), 1023, 7, 7, 7, 0, 0, on (by decide +kernel), by decide +kernel⟩,
   ⟨atWord (wordV 0x2E 7 0 0 15 0), 1023, 7, 0, 0, 15, 0, on (by decide +kernel), by decide +kernel⟩,
   ⟨atWord (wordV 0x2F 7 7 0 0 7), 1023, 7, 7, 0, 0, 7, on (by decide +kernel), by decide +kernel⟩⟩

theorem witness_LaneWindowAndTone :
    (∃ (s : State) (lane : Nat) (vd : Nat) (va : Nat) (vb : Nat) (sa : Nat) (line : Nat) (imm : Nat) (off : Int),
      s.powered = true ∧ s.laneAt lane (wordM 0x20 vd sa line off) = true) ∧
    (∃ (s : State) (lane : Nat) (vd : Nat) (va : Nat) (vb : Nat) (sa : Nat) (line : Nat) (imm : Nat) (off : Int),
      s.powered = true ∧ s.laneAt lane (wordM 0x21 vd sa 1 off) = true) ∧
    (∃ (s : State) (lane : Nat) (vd : Nat) (va : Nat) (vb : Nat) (sa : Nat) (line : Nat) (imm : Nat) (off : Int) (a :
      _), a = (s.lane lane).dataAddr sa (toSigned 15 (ofSigned 15 off)) ∧ s.powered = true ∧ dataOk a 32 = true ∧
      s.laneAt lane (wordM 0x22 vd sa 0 off) = true) ∧
    (∃ (s : State) (lane : Nat) (vd : Nat) (va : Nat) (vb : Nat) (sa : Nat) (line : Nat) (imm : Nat) (off : Int) (a :
      _), a = (s.lane lane).dataAddr sa (toSigned 15 (ofSigned 15 off)) ∧ s.powered = true ∧ dataOk a 32 = true ∧
      s.laneAt lane (wordM 0x23 vd sa 0 off) = true) ∧
    (∃ (s : State) (lane : Nat) (vd : Nat) (va : Nat) (vb : Nat) (sa : Nat) (line : Nat) (imm : Nat) (off : Int),
      s.powered = true ∧ s.laneAt lane (wordV 0x32 vd va 0 0 imm) = true) ∧
    (∃ (s : State) (lane : Nat) (vd : Nat) (va : Nat) (vb : Nat) (sa : Nat) (line : Nat) (imm : Nat) (off : Int),
      s.powered = true ∧ s.laneAt lane (wordV 0x33 vd va 0 0 0) = true) ∧
    (∃ (s : State) (lane : Nat) (vd : Nat) (va : Nat) (vb : Nat) (sa : Nat) (line : Nat) (imm : Nat) (off : Int),
      s.powered = true ∧ s.laneAt lane (wordV 0x35 0 va vb sa 0) = true) :=
  ⟨⟨atWord (wordM 0x20 7 15 2 (-16384)), 1023, 7, 0, 0, 15, 2, 0, (-16384), on (by decide +kernel), by decide +kernel⟩,
   ⟨atWord (wordM 0x21 7 15 1 16383), 1023, 7, 0, 0, 15, 0, 0, 16383, on (by decide +kernel), by decide +kernel⟩,
   ⟨atWord (wordM 0x22 7 15 0 8160), 1023, 7, 0, 0, 15, 0, 0, 8160, _, rfl, on (by decide +kernel), by decide +kernel⟩,
   ⟨atWord (wordM 0x23 7 15 0 8160), 1023, 7, 0, 0, 15, 0, 0, 8160, _, rfl, on (by decide +kernel), by decide +kernel⟩,
   ⟨atWord (wordV 0x32 7 7 0 0 255), 1023, 7, 7, 0, 0, 0, 255, 0, on (by decide +kernel), by decide +kernel⟩,
   ⟨atWord (wordV 0x33 7 7 0 0 0), 1023, 7, 7, 0, 0, 0, 0, 0, on (by decide +kernel), by decide +kernel⟩,
   ⟨atWord (wordV 0x35 0 7 7 15 0), 1023, 0, 7, 7, 15, 0, 0, 0, on (by decide +kernel), by decide +kernel⟩⟩

theorem witness_ToneStart :
    ∃ (s : State) (lane : Nat) (vd : Nat) (va : Nat) (vb : Nat) (w : Nat → Nat) (al : Nat → Nat), (∀ e, w e = min
      ((s.lane lane).elem vb e).toNat 63) ∧ (∀ e, al e = s.toneOf lane (((s.lane lane).elem va e).toNat % 16) / 64 %
      4) ∧ (∀ e, e < 32 → al e ≤ 2) ∧ s.powered = true ∧ s.laneAt lane (wordV 0x34 vd va vb 0 0) = true :=
  ⟨atWord (wordV 0x34 7 7 7 0 0), 1023, 7, 7, 7, (fun e => min (((atWord (wordV 0x34 7 7 7 0 0)).lane 1023).elem 7
    e).toNat 63), (fun e => (atWord (wordV 0x34 7 7 7 0 0)).toneOf 1023 ((((atWord (wordV 0x34 7 7 7 0 0)).lane
    1023).elem 7 e).toNat % 16) / 64 % 4), fun _ => rfl, fun _ => rfl, all_lt (by decide +kernel), on
    (by decide +kernel), by decide +kernel⟩

theorem witness_LaneProgramFaults :
    (∃ (s : State) (lane : Nat), s.powered = true ∧ lane < 1024 ∧ (s.lane lane).active = true ∧ (s.lane lane).state =
      .running ∧ (2048 ≤ (s.lane lane).pc ∨ laneLegal (mapGet 0 (s.lane lane).prog (s.lane lane).pc) = false)) ∧
    (∃ (s : State) (lane : Nat) (target : Nat), s.powered = true ∧ s.laneAt lane (wordB 0x1A 0 0 target) = true ∧ 8 ≤
      (s.lane lane).stack.length) ∧
    (∃ (s : State) (lane : Nat), s.powered = true ∧ s.laneAt lane (wordB 0x1B 0 0 0) = true ∧ (s.lane lane).stack =
      []) ∧
    (∃ (s : State) (lane : Nat) (sd : Nat) (sa : Nat) (i : Nat), s.powered = true ∧ s.laneAt lane (wordI 0x0E sd sa
      (imm18 i)) = true ∧ dataOk ((s.lane lane).dataAddr sa (toSigned 18 (imm18 i))) 4 = false) ∧
    (∃ (s : State) (lane : Nat) (sd : Nat) (sa : Nat) (i : Nat), s.powered = true ∧ s.laneAt lane (wordI 0x0F sd sa
      (imm18 i)) = true ∧ dataOk ((s.lane lane).dataAddr sa (toSigned 18 (imm18 i))) 4 = false) ∧
    (∃ (s : State) (lane : Nat) (v : Nat) (sa : Nat) (off : Nat), s.powered = true ∧ s.laneAt lane (wordM 0x22 v sa 0
      off) = true ∧ dataOk ((s.lane lane).dataAddr sa (toSigned 15 (ofSigned 15 off))) 32 = false) ∧
    (∃ (s : State) (lane : Nat) (v : Nat) (sa : Nat) (off : Nat), s.powered = true ∧ s.laneAt lane (wordM 0x23 v sa 0
      off) = true ∧ dataOk ((s.lane lane).dataAddr sa (toSigned 15 (ofSigned 15 off))) 32 = false) :=
  ⟨⟨lane1023 { state := .running, active := true, pc := 2048 }, 1023, on (by decide +kernel), by decide +kernel⟩,
   ⟨atWord (wordB 0x1A 0 0 2047) { stack := [0, 1, 2, 3, 4, 5, 6, 7] }, 1023, 2047, on (by decide +kernel),
     by decide +kernel⟩,
   ⟨atWord (wordB 0x1B 0 0 0), 1023, on (by decide +kernel), by decide +kernel⟩,
   ⟨atWord (wordI 0x0E 15 15 8190), 1023, 15, 15, 8190, on (by decide +kernel), by decide +kernel⟩,
   ⟨atWord (wordI 0x0F 15 15 8192), 1023, 15, 15, 8192, on (by decide +kernel), by decide +kernel⟩,
   ⟨atWord (wordM 0x22 7 15 0 8192), 1023, 7, 15, 8192, on (by decide +kernel), by decide +kernel⟩,
   ⟨atWord (wordM 0x23 7 15 0 1), 1023, 7, 15, 1, on (by decide +kernel), by decide +kernel⟩⟩

theorem witness_LaneCommands :
    (∃ (s : State) (lane : Nat) (offset : Nat) (value : Nat), s.powered = true ∧ offset % 4 = 0 ∧ lane < 1024 ∧
      s.present (laneStation lane) = true ∧ offset < 0x2000 ∧ (s.lane lane).state = .stopped ∧ s.laneLoading lane =
      false) ∧
    (∃ (s : State) (lane : Nat) (offset : Nat) (value : Nat), s.powered = true ∧ offset % 4 = 0 ∧ lane < 1024 ∧
      s.present (laneStation lane) = true ∧ offset < 0x4000 ∧ ((s.lane lane).state ≠ .stopped ∨ s.laneLoading lane =
      true)) ∧
    (∃ (s : State) (image : Nat) (scope : Nat) (l : Nat), s.powered = true ∧ s.laneCheck image scope l true (· =
      .stopped) = .ok () ∧ s.nmt.booted = true ∧ leadAwake s = true ∧ s.served 0x2500 = true) ∧
    (∃ (s : State) (scope : Nat) (l : Nat), s.powered = true ∧ s.laneCheck 0 scope l false (· = .stopped) = .ok () ∧
      s.nmt.booted = true ∧ leadAwake s = true ∧ s.served 0x2500 = true) ∧
    (∃ (s : State) (scope : Nat) (l : Nat), s.powered = true ∧ s.laneCheck 0 scope l false (fun x => x = .running || x
      = .bandDark) = .ok () ∧ s.nmt.booted = true ∧ leadAwake s = true ∧ s.served 0x2500 = true) ∧
    (∃ (s : State) (scope : Nat) (l : Nat), s.powered = true ∧ s.laneCheck 0 scope l false (· = .detained) = .ok () ∧
      s.nmt.booted = true ∧ leadAwake s = true ∧ s.served 0x2500 = true) ∧
    (∃ (s : State) (st : Nat), s.powered = true ∧ commanded s (0x2508 + st) = true ∧ st < 8 ∧ s.present st = true ∧
      ((upTo 32).any fun i => (s.slot i).state.isCommitted && bit (s.slot i).mask st && decide ((s.slot
      i).toneGen.getD st 0 ≠ (s.tone st).gen)) = false) ∧
    (∃ (s : State) (lane : Nat) (slot : Nat) (n : Nat) (facet : Nat) (f : Nat) (y : Nat), s.powered = true ∧
      s.beamFirst (laneScanner lane) (lane % 32) = some f ∧ lane < 1024 ∧ s.present (laneStation lane) = true ∧
      (s.lane lane).state = .running ∧ (s.lane lane).active = false ∧ (s.slot slot).state.isCommitted = true ∧ bit
      (s.slot slot).mask (laneStation lane) = true ∧ s.scannerUsed (laneScanner lane) = true ∧ y = f + s.sweepStep
      (laneStation lane) * n ∧ y < (s.slot slot).h ∧ (s.lane lane).lastRun < s.sweepKey slot y ∧ s.previousRan lane
      slot n f = true ∧ (s.lane lane).bufSel = false ∧ (s.lane lane).buf1.busy = false ∧ (s.lane lane).bank0.busy =
      true ∧ (s.lane lane).bank0.slot = slot ∧ (s.lane lane).bank0.y = y ∧ (s.lane lane).bank0.full (s.slot slot).h =
      true) :=
  ⟨⟨State.reset, 1023, 8188, 1, on (by decide +kernel), by decide +kernel⟩,
   ⟨lane1023 { state := .running }, 1023, 16380, 1, on (by decide +kernel), by decide +kernel⟩,
   ⟨State.reset.setDomain 0x254F 0 [0, 0, 0, 0], 15, 0, 1023, on (by decide +kernel), isOk_eq (by decide +kernel),
     by decide +kernel⟩,
   ⟨State.reset, 3, 0, on (by decide +kernel), isOk_eq (by decide +kernel), by decide +kernel⟩,
   ⟨lane1023 { state := .running }, 0, 1023, on (by decide +kernel), isOk_eq (by decide +kernel), by decide +kernel⟩,
   ⟨lane1023 { state := .detained }, 0, 1023, on (by decide +kernel), isOk_eq (by decide +kernel), by decide +kernel⟩,
   ⟨State.reset, 0, on (by decide +kernel), takes (on (by decide +kernel)) (by decide +kernel), by decide +kernel⟩,
   ⟨panel 31 { state := .exposing, mask := 128, h := 32 } (lane1023
     { state := .running, bank0 := { slot := 31, y := 31, busy := true, have_ := 7 } }), 1023, 31, 0, 0, 31, 31, on
     (by decide +kernel), by decide +kernel⟩⟩

theorem witness_SweepWork :
    (∃ (s : State) (g : Nat) (e : Edge) (i : Nat) (n : Nat) (t : State), s.powered = true ∧ t = ((s.advanceTo ((e.t16
      + 6400) / 16)).modScanner g fun x => { x with edge := none }) ∧ (s.scanner g).edge = some e ∧ s.scannerPresent g
      = true ∧ t.webForwards = true ∧ t.dueSweep g e.wl = some (i, n) ∧ (t.deadlines g i n).webForwards = true ∧
      e.locked = true ∧ e.numbered = true ∧ ((t.deadlines g i n).scanner g).laser = true ∧ (t.deadlines g i
      n).hazard.active = false ∧ (t.deadlines g i n).scannerDark i g = false) ∧
    (∃ (s : State) (g : Nat) (e : Edge) (t : State), s.powered = true ∧ t = ((s.advanceTo ((e.t16 + 6400) /
      16)).modScanner g fun x => { x with edge := none }) ∧ (s.scanner g).edge = some e ∧ s.scannerPresent g = true ∧
      t.dueSweep g e.wl = none) ∧
    (∃ (s : State) (g : Nat) (e : Edge) (i : Nat) (n : Nat) (t : State), s.powered = true ∧ t = ((s.advanceTo ((e.t16
      + 6400) / 16)).modScanner g fun x => { x with edge := none }) ∧ (s.scanner g).edge = some e ∧ s.scannerPresent g
      = true ∧ t.webForwards = false ∧ t.dueSweep g e.wl = some (i, n)) ∧
    (∃ (s : State) (slot : Nat) (lane : Nat) (y : Nat) (px : List Nat), s.powered = true ∧ mapWf {} s.lanes = true ∧
      mapGet [] s.played (lineKey slot lane y) = px ∧ px ≠ []) :=
  ⟨⟨panel 0 { state := .exposing, mask := 1, h := 32 } (cfgs [(0x2180, 2, 1)] { State.reset with
       web := { moving := true }, chans := [(0, { p1 := 1 })], scanners := [(0, {
         state := .locked, laser := true, edge := some
           { t16 := 0, wl := 0, facet := 0, locked := true, inferred := false, numbered := true } })] }), 0,
     ({ t16 := 0, wl := 0, facet := 0, locked := true, inferred := false, numbered := true }), 0, 0, _, on
     (by decide +kernel), rfl, by decide +kernel⟩,
   ⟨scan31 { edge := some { t16 := 0, wl := 0, facet := 0, locked := true, inferred := false, numbered := true } },
     31, ({ t16 := 0, wl := 0, facet := 0, locked := true, inferred := false, numbered := true }), _, on
     (by decide +kernel), rfl, by decide +kernel⟩,
   ⟨panel 0 { state := .exposing, mask := 1, h := 32 } (cfgs [(0x2180, 2, 1)] { State.reset with
       chans := [(0, { p1 := 1 })], scanners := [(0, {
         state := .locked, laser := true, edge := some
           { t16 := 0, wl := 0, facet := 0, locked := true, inferred := false, numbered := true } })] }), 0,
     ({ t16 := 0, wl := 0, facet := 0, locked := true, inferred := false, numbered := true }), 0, 0, _, on
     (by decide +kernel), rfl, by decide +kernel⟩,
   ⟨{ State.reset with played := [(lineKey 31 1023 0, [1])] }, 31, 1023, 0, ([1]), on (by decide +kernel),
     by decide +kernel⟩⟩

theorem witness_CommitmentAndFillComplete :
    (∃ (s : State) (g : Nat) (e : _), s.powered = true ∧ (s.scanner g).edge = some e ∧ s.scannerPresent g = true ∧
      (s.scanner g).state ≠ .off ∧ s.dueSweep g e.wl = none) ∧
    (∃ (s : State) (g : Nat) (e : _) (i : Nat) (n : Nat), s.powered = true ∧ (∀ b f, b < 32 → s.beamFirst g b = some f
      → f + s.sweepStep (scannerStation g) * n < (s.slot i).h → (s.lane (laneOf g b)).state = .running ∧ ((s.lane
      (laneOf g b)).codeLine i n).isSome = true) ∧ (s.scanner g).edge = some e ∧ s.scannerPresent g = true ∧
      s.dueSweep g e.wl = some (i, n) ∧ s.webForwards = true ∧ e.locked = true ∧ e.numbered = true ∧ (s.scanner
      g).laser = true ∧ s.hazard.active = false ∧ s.scannerDark i g = false) ∧
    (∃ (s : State) (slot : Nat) (lane : Nat) (y : Nat), s.powered = true ∧ mapGet [] s.played (lineKey slot lane y) =
      []) ∧
    (∃ (s : State) (slot : Nat) (lane : Nat) (y : Nat), s.powered = true ∧ mapGet [] s.played (lineKey slot lane y) ≠
      []) :=
  ⟨⟨scan31 {
       state := .locked, edge := some
         { t16 := 0, wl := 0, facet := 0, locked := true, inferred := false, numbered := true } }, 31,
     ({ t16 := 0, wl := 0, facet := 0, locked := true, inferred := false, numbered := true }), on (by decide +kernel),
     by decide +kernel⟩,
   ⟨panel 0 { state := .exposing, mask := 1, h := 1 } (cfgs [(0x2180, 2, 1)] { State.reset with
       web := { moving := true }, chans := [(0, { p1 := 1 })], scanners := [(0, {
         state := .locked, laser := true, edge := some
           { t16 := 0, wl := 0, facet := 0, locked := true, inferred := false, numbered := true } })], lanes := [(0,
         { state := .running, buf0 := { busy := true, ready := true, slot := 0, n := 0, codes := [] } })] }), 0,
     ({ t16 := 0, wl := 0, facet := 0, locked := true, inferred := false, numbered := true }), 0, 0, on
     (by decide +kernel), all_beams (by decide +kernel), by decide +kernel⟩,
   ⟨State.reset, 31, 1023, 0, on (by decide +kernel), by decide +kernel⟩,
   ⟨{ State.reset with played := [(lineKey 31 1023 0, [1])] }, 31, 1023, 0, on (by decide +kernel), by decide +kernel⟩⟩

theorem witness_DraftsAndStitches :
    (∃ (s : State) (lane : Nat) (offset : Nat) (value : Nat), s.powered = true ∧ offset % 8 = 0 ∧ offset < 0x2000 ∧
      lane < 1024 ∧ s.present (laneStation lane) = true ∧ (s.lane lane).draftState = .ready) ∧
    (∃ (s : State) (lane : Nat) (offset : Nat) (value : Nat), s.powered = true ∧ offset % 8 = 0 ∧ 0x2000 ≤ offset ∧
      offset < 0x2080 ∧ lane < 1024 ∧ s.present (laneStation lane) = true ∧ (s.lane lane).draftState = .ready) ∧
    (∃ (s : State) (lane : Nat) (offset : Nat) (value : Nat), s.powered = true ∧ offset % 8 = 0 ∧ offset < 0x2080 ∧
      lane < 1024 ∧ s.present (laneStation lane) = true ∧ (s.lane lane).draftState ≠ .ready) ∧
    (∃ (s : State) (lane : Nat) (bytes : List Nat), s.powered = true ∧ s.nmt.booted = true ∧ leadAwake s = true ∧
      s.served 0x2840 = true ∧ s.nmt.state ≠ .stopped ∧ lane < 1024 ∧ s.present (laneStation lane) = true ∧
      bytes.length = 8320 ∧ (s.lane lane).draftState = .ready ∧ meshWordsOk (words8 bytes) = true) ∧
    (∃ (s : State) (lane : Nat), s.powered = true ∧ (s.lane lane).draftState = .copying ∧ s.formerDone lane = true) ∧
    (∃ (s : State) (q : Nat) (h : Head), s.powered = true ∧ (s.ring q).head = some h ∧ s.ringKind q = 3 ∧ h.moving =
      true ∧ descOp h.raw = 0x30 ∧ descLength h.raw ≤ h.buf.length ∧ descLength h.raw ≤ h.moved ∧ (s.lane (knotLane
      h.raw)).draftState = .ready) ∧
    (∃ (s : State) (q : Nat) (h : Head), s.powered = true ∧ (s.ring q).head = some h ∧ s.ringKind q = 3 ∧ h.moving =
      true ∧ descOp h.raw = 0x31 ∧ descLength h.raw ≤ h.buf.length ∧ descLength h.raw ≤ h.moved ∧ (s.lane (knotLane
      h.raw)).draftState = .ready) ∧
    (∃ (s : State) (st : Nat), s.powered = true ∧ commanded s (0x2808 + st) = true ∧ st < 8 ∧ s.present st = true ∧
      s.preop = true ∧ s.stitchOk st (s.staged st) (s.printable st) = true ∧ s.stitchLegal st (s.staged st)
      (s.printable st) = true) :=
  ⟨⟨State.reset, 1023, 0x1FF8, 1, on (by decide +kernel), by decide +kernel⟩,
   ⟨State.reset, 1023, 0x2078, 1, on (by decide +kernel), by decide +kernel⟩,
   ⟨lane1023 { draftState := .copying }, 1023, 0x2078, 1, on (by decide +kernel), by decide +kernel⟩,
   ⟨State.reset, 1023, (List.replicate 8320 0), on (by decide +kernel), by decide +kernel⟩,
   ⟨lane1023 { draftState := .copying }, 1023, on (by decide +kernel), by decide +kernel⟩,
   ⟨ctlRing 3 { raw := 0x30 * 2 ^ 96, moving := true } State.reset, 4096, ({ raw := 0x30 * 2 ^ 96, moving := true }),
     on (by decide +kernel), by decide +kernel⟩,
   ⟨ctlRing 3 { raw := 0x31 * 2 ^ 96, moving := true } State.reset, 4096, ({ raw := 0x31 * 2 ^ 96, moving := true }),
     on (by decide +kernel), by decide +kernel⟩,
   ⟨State.reset, 0, on (by decide +kernel), takes (on (by decide +kernel)) (by decide +kernel), by decide +kernel⟩⟩

theorem witness_FlipCommands :
    (∃ (s : State) (seq : Nat) (scope : Nat) (l : Nat) (t : State), s.powered = true ∧ s.flipCheck 1 seq scope l = .ok
      () ∧ t = (s.scopeLanes scope l).foldl (fun t k => t.modLane k fun x =>
      { x with draftState := .pending, flipReq := s.flips.next }) { s with
        flips := { s.flips with
          next := s.flips.next + 1, requests := mapSet {} s.flips.requests s.flips.next
            { when_ := 1, scope, seq, acceptedAt := s.timebase } } } ∧ s.nmt.booted = true ∧ leadAwake s = true ∧
      s.served 0x2800 = true ∧ s.nmt.state ≠ .stopped) ∧
    (∃ (s : State) (scope : Nat) (l : Nat) (t : State) (u : State), s.powered = true ∧ s.flipCheck 0 0 scope l = .ok
      () ∧ t = (s.scopeLanes scope l).foldl (fun t k => t.modLane k fun x =>
      { x with draftState := .pending, flipReq := s.flips.next }) { s with
        flips := { s.flips with
          next := s.flips.next + 1, requests := mapSet {} s.flips.requests s.flips.next
            { when_ := 0, scope, seq := 0, acceptedAt := s.timebase } } } ∧ u = ((t.scopeLanes scope l).map
      laneScanner).eraseDups.foldl (fun u g => if (u.scanner g).laser then u else u.flipScanner s.flips.next g) t ∧
      s.nmt.booted = true ∧ leadAwake s = true ∧ s.served 0x2800 = true ∧ s.nmt.state ≠ .stopped) ∧
    (∃ (s : State) (scope : Nat) (l : Nat), s.powered = true ∧ s.flipCheck 2 0 scope l = .ok () ∧ s.nmt.booted = true
      ∧ leadAwake s = true ∧ s.served 0x2800 = true ∧ s.nmt.state ≠ .stopped ∧ (∀ k, k ∈ s.scopeLanes scope l →
      (s.lane k).draftState ≠ .pending)) ∧
    (∃ (s : State) (k : Nat), s.powered = true ∧ s.flipCheck 2 0 0 k = .ok () ∧ s.nmt.booted = true ∧ leadAwake s =
      true ∧ s.served 0x2800 = true ∧ s.nmt.state ≠ .stopped ∧ (s.lane k).draftState = .pending ∧ (s.flipReq (s.lane
      k).flipReq).scope < 2) ∧
    (∃ (s : State) (q : Nat) (h : Head) (t : State), s.powered = true ∧ s.flipCheck (bits h.raw 197 196) (bits h.raw
      255 224) 3 0 = .ok () ∧ t = s.requestFlip (bits h.raw 197 196) (bits h.raw 255 224) 3 0 ∧ (s.ring q).head = some
      h ∧ s.ringKind q = 3 ∧ descOp h.raw = 0x32 ∧ h.moving = true ∧ bits h.raw 199 198 = 3) ∧
    (∃ (s : State) (q : Nat) (h : Head) (t : State), s.powered = true ∧ s.flipCheck (bits h.raw 197 196) (bits h.raw
      255 224) (bits h.raw 199 198) (knotLane h.raw) = .ok () ∧ t = s.requestFlip (bits h.raw 197 196) (bits h.raw 255
      224) (bits h.raw 199 198) (knotLane h.raw) ∧ (s.ring q).head = some h ∧ s.ringKind q = 3 ∧ descOp h.raw = 0x32 ∧
      h.moving = true ∧ bits h.raw 199 198 ≠ 3) :=
  ⟨⟨panel 31 { state := .committed, mask := 255, seq := 5 } State.reset, 5, 0, 1023, _, on (by decide +kernel),
     isOk_eq (by decide +kernel), rfl, by decide +kernel⟩,
   ⟨State.reset, 0, 1023, _, _, on (by decide +kernel), isOk_eq (by decide +kernel), rfl, rfl, by decide +kernel⟩,
   ⟨State.reset, 0, 1023, on (by decide +kernel), isOk_eq (by decide +kernel), by decide +kernel⟩,
   ⟨lane1023 { draftState := .pending }, 1023, on (by decide +kernel), isOk_eq (by decide +kernel), by decide +kernel⟩,
   ⟨ctlRing 3 { raw := 0x32 * 2 ^ 96 + 2 * 2 ^ 196 + 3 * 2 ^ 198, moving := true } State.reset, 4096,
     ({ raw := 0x32 * 2 ^ 96 + 2 * 2 ^ 196 + 3 * 2 ^ 198, moving := true }), _, on (by decide +kernel), isOk_eq
     (by decide +kernel), rfl, by decide +kernel⟩,
   ⟨ctlRing 3 { raw := 0x32 * 2 ^ 96, moving := true } State.reset, 4096, ({ raw := 0x32 * 2 ^ 96, moving := true }),
     _, on (by decide +kernel), isOk_eq (by decide +kernel), rfl, by decide +kernel⟩⟩

theorem witness_ScannerEvents :
    (∃ (s : State) (g : Nat) (t16 : Nat) (falling : _) (ns : Nat), s.powered = true ∧ falling = decide (s.cfg (0x2900
      + g) 6 = 1) ∧ s.scannerPresent g = true ∧ 10 ≤ ns ∧ (s.scanner g).state.lit = true ∧ (s.scanner g).laser = true
      ∧ (s.scanner g).firstEdge = true) ∧
    (∃ (s : State) (g : Nat) (t16 : Nat) (falling : Bool) (ns : Nat), s.powered = true ∧ s.scannerPresent g = true ∧
      (falling ≠ decide (s.cfg (0x2900 + g) 6 = 1) ∨ ns < 10)) ∧
    (∃ (s : State) (g : Nat) (t16 : Nat) (falling : _) (ns : Nat) (t : _), s.powered = true ∧ falling = decide (s.cfg
      (0x2900 + g) 6 = 1) ∧ t = s.advanceTo (t16 / 16) ∧ s.scannerPresent g = true ∧ 10 ≤ ns ∧ (s.scanner g).state.lit
      = true ∧ (s.scanner g).laser = true ∧ (s.scanner g).firstEdge = false ∧ (((t16 : Int) - ((t.scanner
      g).lastEdge.getD 0 : Nat) : Int) : Rat) < t.period16 g * (t.cfg (0x2900 + g) 12 : Rat) / 256) ∧
    (∃ (s : State) (g : Nat) (last : Nat), s.powered = true ∧ s.scannerPresent g = true ∧ (s.scanner g).lastEdge =
      some last ∧ (s.scanner g).state.lit = true ∧ (s.scanner g).laser = true ∧ (s.scanner g).firstEdge = false) ∧
    (∃ (s : State) (g : Nat) (ph : PhaseEdge) (t : _), s.powered = true ∧ t = (s.modScanner g fun x => { x with
        phase := none, err := s.phaseError g ph.wbd, errs := (s.phaseError g ph.wbd :: x.errs).take 64, wPrev := some
          (ph.wbd, ph.t16) }) ∧ s.scannerPresent g = true ∧ (s.scanner g).phase = some ph ∧ (s.scanner g).state.lit =
      true ∧ (s.scanner g).state.phased = false ∧ (s.scanner g).intervals ≠ [] ∧ t.facetPeriod g ≠ 0) ∧
    (∃ (s : State) (g : Nat) (l : Line), s.powered = true ∧ s.scannerPresent g = true ∧ (s.scanner g).line = some l ∧
      l.started = false ∧ l.aborted = false) ∧
    (∃ (s : State) (g : Nat) (l : Line), s.powered = true ∧ s.scannerPresent g = true ∧ (s.scanner g).line = some l) ∧
    (∃ (s : State) (g : Nat) (t : _), s.powered = true ∧ t = s.advanceTo ((s.scanner g).since + s.cfg (0x2900 + g) 22
      * ticksPerMs) ∧ s.scannerPresent g = true ∧ (s.scanner g).state = .spinUp ∧ t.laserPermitted g = true) ∧
    (∃ (s : State) (g : Nat) (t : _), s.powered = true ∧ t = s.advanceTo ((s.scanner g).since + s.cfg (0x2900 + g) 22
      * ticksPerMs) ∧ s.scannerPresent g = true ∧ (s.scanner g).state = .spinUp ∧ t.laserPermitted g = false) ∧
    (∃ (s : State) (g : Nat) (last : Nat) (t : _), s.powered = true ∧ t = ((s.advanceTo ((last + (ratFloor (2 *
      s.period16 g)).toNat + 15) / 16)).modLink g fun k => { k with bdTrips := wrapInc 32 k.bdTrips }) ∧
      s.scannerPresent g = true ∧ (s.scanner g).laser = true ∧ (s.scanner g).state.lit = true ∧ (s.scanner g).state ≠
      .search ∧ (s.scanner g).lastAccepted = some last) ∧
    (∃ (s : State) (g : Nat), s.powered = true ∧ s.scannerPresent g = true ∧ (s.link g).bdTrip = true) :=
  ⟨⟨scan31 { state := .search, laser := true }, 31, 16, _, 10, on (by decide +kernel), rfl, by decide +kernel⟩,
   ⟨scan31 { state := .search, laser := true }, 31, 16, false, 9, on (by decide +kernel), by decide +kernel⟩,
   ⟨scan31 { state := .locked, laser := true, firstEdge := false, hold := { goal := 2000 } }, 31, 16, _, 10, _, on
     (by decide +kernel), rfl, rfl, by decide +kernel⟩,
   ⟨scan31 { state := .locked, laser := true, firstEdge := false, lastEdge := some 0 }, 31, 0, on (by decide +kernel),
     by decide +kernel⟩,
   ⟨scan31 {
       state := .speedHold, hold := { goal := 2000 }, intervals := [12800000], phase := some
         { t16 := 0, wa := 0, ta := 0 } }, 31, ({ t16 := 0, wa := 0, ta := 0 }), _, on (by decide +kernel), rfl,
     by decide +kernel⟩,
   ⟨scan31 { line := some aLine }, 31, aLine, on (by decide +kernel), by decide +kernel⟩,
   ⟨scan31 { line := some aLine }, 31, aLine, on (by decide +kernel), by decide +kernel⟩,
   ⟨{ scan31 { state := .spinUp } { state := .run } with
       fuses := {
         fields := [(0x4010 * 256 + 8, { copyA := 1, copyB := 1 }), (0x4011 * 256 + 8, { copyA := 1, copyB := 1 })] }
         }, 31, _, on (by decide +kernel), rfl, by decide +kernel⟩,
   ⟨scan31 { state := .spinUp }, 31, _, on (by decide +kernel), rfl, by decide +kernel⟩,
   ⟨scan31 { state := .locked, laser := true, lastAccepted := some 0 }, 31, 0, _, on (by decide +kernel), rfl,
     by decide +kernel⟩,
   ⟨scan31 {} { bdTrip := true }, 31, on (by decide +kernel), by decide +kernel⟩⟩

theorem witness_ScannerCommands :
    (∃ (s : State) (g : Nat) (j : Nat) (t : State), commanded s (0x2900 + g) = true ∧ t = ((s.modScanner g fun x => {
          x with
        state := .spinUp, since := s.timebase, laser := false, phaseLock := false, hold :=
          { start := s.holdGoal g, since := s.timebase, goal := s.holdGoal g, rate := s.cfgReal (0x2900 + g) 20 }
          }).modLoop j fun l => l.start false) ∧ s.scannerPresent g = true ∧ j = 64 * scannerStation g + g % 4 ∧
      (s.scanner g).state = .off ∧ s.assigned 15 g 0 = true ∧ bit (s.dieClock (scannerStation g)).lock 6 = true ∧
      s.faults.fatal = false ∧ t.ratesOk (scannerStation g) = true) ∧
    (∃ (s : State) (g : Nat) (j : Nat) (t : State), commanded s (0x2900 + g) = true ∧ t = ((s.modScanner g fun x => {
          x with
        state := .spinUp, since := s.timebase, laser := false, phaseLock := false, hold :=
          { start := s.holdGoal g, since := s.timebase, goal := s.holdGoal g, rate := s.cfgReal (0x2900 + g) 20 }
          }).modLoop j fun l => l.start false) ∧ s.scannerPresent g = true ∧ j = 64 * scannerStation g + g % 4 ∧
      (s.scanner g).state = .off ∧ s.assigned 15 g 0 = true ∧ bit (s.dieClock (scannerStation g)).lock 6 = true ∧
      s.faults.fatal = false ∧ t.ratesOk (scannerStation g) = false) ∧
    (∃ (s : State) (g : Nat) (j : Nat), commanded s (0x2900 + g) = true ∧ s.scannerPresent g = true ∧ j = 64 *
      scannerStation g + g % 4 ∧ (s.scanner g).state ≠ .off) ∧
    (∃ (s : State) (g : Nat) (j : Nat), commanded s (0x2900 + g) = true ∧ s.scannerPresent g = true ∧ j = 64 *
      scannerStation g + g % 4 ∧ (s.scanner g).state ≠ .off ∧ ((upTo 32).any fun i => (s.slot i).state.isCommitted &&
      bit (s.slot i).mask (scannerStation g)) = false) ∧
    (∃ (s : State) (g : Nat) (j : Nat), commanded s (0x2900 + g) = true ∧ j = 64 * scannerStation g + g % 4 ∧
      s.scannerPresent g = true ∧ (s.scanner g).state = .off ∧ ((upTo 32).any fun i => (s.slot i).state.isCommitted &&
      bit (s.slot i).mask (scannerStation g)) = false) ∧
    (∃ (s : State) (g : Nat) (j : Nat), commanded s (0x2900 + g) = true ∧ s.scannerPresent g = true ∧ j = 64 *
      scannerStation g + g % 4 ∧ ((upTo 32).any fun i => (s.slot i).state.isCommitted && bit (s.slot i).mask
      (scannerStation g)) = true) ∧
    (∃ (s : State) (g : Nat) (j : Nat), commanded s (0x2900 + g) = true ∧ s.scannerPresent g = true ∧ j = 64 *
      scannerStation g + g % 4 ∧ (s.scanner g).state = .detained) ∧
    (∃ (s : State) (g : Nat) (j : Nat), commanded s (0x2900 + g) = true ∧ j = 64 * scannerStation g + g % 4 ∧
      s.scannerPresent g = true ∧ (s.scanner g).state ≠ .detained) ∧
    (∃ (s : State) (g : Nat) (j : Nat), commanded s (0x2900 + g) = true ∧ s.scannerPresent g = true ∧ j = 64 *
      scannerStation g + g % 4 ∧ (s.scanner g).state = .speedHold) ∧
    (∃ (s : State) (g : Nat) (j : Nat), commanded s (0x2900 + g) = true ∧ j = 64 * scannerStation g + g % 4 ∧
      s.scannerPresent g = true ∧ (s.scanner g).state ≠ .speedHold) ∧
    (∃ (s : State) (g : Nat) (j : Nat) (v : Nat), commanded s (0x2900 + g) = true ∧ j = 64 * scannerStation g + g % 4
      ∧ s.scannerPresent g = true ∧ g < 32 ∧ v < 256 ∧ v ∉ [1, 2, 3, 4]) :=
  ⟨⟨cfgs [(0x5000, 1, (15 * 2 ^ 16 + 31 * 16) * 256)] State.reset, 31, 451, _, takes (on (by decide +kernel))
     (by decide +kernel), rfl, by decide +kernel⟩,
   ⟨cfgs [(0x5000, 1, (15 * 2 ^ 16 + 31 * 16) * 256), (0x33FE, 4, 2 ^ 28 + 1)]
     { State.reset with slotsL := [(510, { enabled := true })] }, 31, 451, _, takes (on (by decide +kernel))
     (by decide +kernel), rfl, by decide +kernel⟩,
   ⟨scan31 { state := .coast }, 31, 451, takes (on (by decide +kernel)) (by decide +kernel), by decide +kernel⟩,
   ⟨scan31 { state := .coast }, 31, 451, takes (on (by decide +kernel)) (by decide +kernel), by decide +kernel⟩,
   ⟨State.reset, 0, _, takes (on (by decide +kernel)) (by decide +kernel), rfl, by decide +kernel⟩,
   ⟨panel 31 { state := .committed, mask := 128 } State.reset, 31, 451, takes (on (by decide +kernel))
     (by decide +kernel), by decide +kernel⟩,
   ⟨scan31 { state := .detained }, 31, 451, takes (on (by decide +kernel)) (by decide +kernel), by decide +kernel⟩,
   ⟨State.reset, 0, _, takes (on (by decide +kernel)) (by decide +kernel), rfl, by decide +kernel⟩,
   ⟨scan31 { state := .speedHold }, 31, 451, takes (on (by decide +kernel)) (by decide +kernel), by decide +kernel⟩,
   ⟨State.reset, 0, _, takes (on (by decide +kernel)) (by decide +kernel), rfl, by decide +kernel⟩,
   ⟨State.reset, 0, _, 0, takes (on (by decide +kernel)) (by decide +kernel), rfl, by decide +kernel⟩⟩

theorem witness_LinkFrames :
    (∃ (s : State) (g : Nat) (l : Line) (t : State), s.powered = true ∧ t = ((s.sendFrame g .codeFrame 0x4B (16 *
      l.codesSent) ((upTo 16).flatMap fun i => cellBlocks (l.codes.map fun m => mapGet 0 m (16 * l.codesSent +
      i)))).modScanner g fun x => { x with line := some { l with codesSent := l.codesSent + 1 } }) ∧ (s.scanner
      g).line = some l ∧ l.aborted = false ∧ 16 * l.codesSent < l.cells ∧ l.trimsReady l.codesSent = true ∧
      l.codesSent < l.endedFrames s.timebase + 64 ∧ (s.link g).state ≠ .disabled ∧ (dwellStep (64 * t.cfg (0x2A00 + g)
      4) l l.codesSent (t.link g).runs).2 = false) ∧
    (∃ (s : State) (g : Nat) (l : Line), s.powered = true ∧ (s.scanner g).line = some l ∧ l.aborted = false ∧
      l.trimsSent < 1024 ∧ (s.link g).state ≠ .disabled) ∧
    (∃ (s : State) (g : Nat), s.powered = true ∧ s.scannerPresent g = true ∧ (s.link g).state ≠ .disabled) ∧
    (∃ (s : State) (g : Nat), s.powered = true ∧ s.scannerPresent g = true ∧ (s.link g).state ≠ .disabled) ∧
    (∃ (s : State) (g : Nat) (raw : Nat), s.powered = true ∧ s.scannerPresent g = true ∧ (s.link g).symbolLock = true
      ∧ bits raw 7 0 = 1 ∧ (s.link g).state = .training ∧ (bits raw 18 16 = 2 ∨ bits raw 18 16 = 3)) ∧
    (∃ (s : State) (g : Nat) (raw : Nat), s.powered = true ∧ s.scannerPresent g = true ∧ (s.link g).symbolLock = true
      ∧ bits raw 7 0 = 1 ∧ (s.link g).state = .run ∧ (bits raw 18 16 = 2 ∨ bits raw 18 16 = 3) ∧ bit raw 26 = false ∧
      bit raw 24 = false ∧ bit raw 27 = false) ∧
    (∃ (s : State) (g : Nat) (raw : Nat) (rs : _) (t : _), s.powered = true ∧ rs = ((upTo 32).map fun b => bits raw
      (16 * b + 47) (16 * b + 32)) ∧ t = (s.modLink g fun k =>
      { k with ratios := rs.zipIdx.foldl (fun m p => mapSet 0xFFFF m p.2 p.1) k.ratios }) ∧ s.scannerPresent g = true
      ∧ bits raw 7 0 = 2 ∧ (rs.any fun r => decide (r ≠ 0xFFFF) && decide (16384 + t.cfg (0x2A00 + g) 6 < r)) = false) ∧
    (∃ (s : State) (g : Nat) (raw : Nat), s.powered = true ∧ s.scannerPresent g = true ∧ (s.link g).state = .ident ∧
      bits raw 7 0 = 3 ∧ bits raw 23 16 = 1 ∧ bits raw 31 24 = 32 ∧ 2 * s.cfg (0x2900 + g) 11 ≤ bits raw 63 32) ∧
    (∃ (s : State) (g : Nat) (raw : Nat), s.powered = true ∧ s.scannerPresent g = true ∧ (s.link g).state = .ident ∧
      bits raw 7 0 = 3 ∧ bits raw 31 24 ≠ 32) :=
  ⟨⟨scan31 { line := some { aLine with trimsSent := 1024 } } { state := .run }, 31,
     ({ aLine with trimsSent := 1024 }), _, on (by decide +kernel), rfl, by decide +kernel⟩,
   ⟨scan31 { line := some { aLine with trimsSent := 1023 } } { state := .run }, 31,
     ({ aLine with trimsSent := 1023 }), on (by decide +kernel), by decide +kernel⟩,
   ⟨State.reset, 0, on (by decide +kernel), by decide +kernel⟩,
   ⟨State.reset, 0, on (by decide +kernel), by decide +kernel⟩,
   ⟨scan31 {} { symbolLock := true }, 31, 0x20001, on (by decide +kernel), by decide +kernel⟩,
   ⟨scan31 {} { state := .run, symbolLock := true }, 31, 0x30001, on (by decide +kernel), by decide +kernel⟩,
   ⟨scan31 {} { state := .run }, 31, 2, _, _, on (by decide +kernel), rfl, rfl, by decide +kernel⟩,
   ⟨scan31 {} { state := .ident }, 31, (3 + 2 ^ 16 + 32 * 2 ^ 24 + 56000 * 2 ^ 32), on (by decide +kernel),
     by decide +kernel⟩,
   ⟨scan31 {} { state := .ident }, 31, (3 + 31 * 2 ^ 24), on (by decide +kernel), by decide +kernel⟩⟩

theorem witness_LinkCommands :
    (∃ (s : State) (g : Nat), s.powered = true ∧ s.scannerPresent g = true) ∧
    (∃ (s : State) (g : Nat), s.powered = true ∧ s.scannerPresent g = true ∧ (s.link g).state = .run) ∧
    (∃ (s : State) (g : Nat), s.powered = true ∧ s.scannerPresent g = true ∧ (s.link g).state = .ident) ∧
    (∃ (s : State) (g : Nat) (t : _), s.powered = true ∧ t = s.advanceTo ((s.link g).since + ticksPerMs) ∧
      s.scannerPresent g = true ∧ (s.link g).state = .retrain) ∧
    (∃ (s : State) (g : Nat), commanded s (0x2A00 + g) = true ∧ s.scannerPresent g = true ∧ s.faults.fatal = false ∧
      (s.link g).state = .disabled) ∧
    (∃ (s : State) (g : Nat), commanded s (0x2A00 + g) = true ∧ s.scannerPresent g = true ∧ ((upTo 32).any fun i =>
      (s.slot i).state.isCommitted && bit (s.slot i).mask (scannerStation g)) = false) ∧
    (∃ (s : State) (g : Nat), commanded s (0x2A00 + g) = true ∧ s.scannerPresent g = true) ∧
    (∃ (s : State) (g : Nat), s.powered = true ∧ s.scannerPresent g = true ∧ (s.scanner g).laser = false) :=
  ⟨⟨State.reset, 0, on (by decide +kernel), by decide +kernel⟩,
   ⟨scan31 {} { state := .run }, 31, on (by decide +kernel), by decide +kernel⟩,
   ⟨scan31 {} { state := .ident }, 31, on (by decide +kernel), by decide +kernel⟩,
   ⟨scan31 {} { state := .retrain }, 31, _, on (by decide +kernel), rfl, by decide +kernel⟩,
   ⟨scan31 {} { state := .disabled }, 31, takes (on (by decide +kernel)) (by decide +kernel), by decide +kernel⟩,
   ⟨State.reset, 0, takes (on (by decide +kernel)) (by decide +kernel), by decide +kernel⟩,
   ⟨State.reset, 0, takes (on (by decide +kernel)) (by decide +kernel), by decide +kernel⟩,
   ⟨State.reset, 0, on (by decide +kernel), by decide +kernel⟩⟩

theorem witness_FeedbackEvents :
    (∃ (s : State) (ch : Nat) (a : Bool) (b : Bool) (t : Nat), s.powered = true ∧ s.chanPresent ch = true ∧ ch < 16 ∧
      (s.chan ch).state = .run ∧ ((s.chan ch).a = a ↔ (s.chan ch).b ≠ b) ∧ (s.chan ch).counted = false ∧ bit
      (s.chanCfg ch) 62 = false) ∧
    (∃ (s : State) (ch : Nat) (a : Bool) (b : Bool) (t : Nat), s.powered = true ∧ s.chanPresent ch = true ∧ ch < 16 ∧
      (s.chan ch).state = .run ∧ (s.chan ch).a ≠ a ∧ (s.chan ch).b ≠ b) ∧
    (∃ (s : State) (ch : Nat), s.powered = true ∧ s.chanPresent ch = true ∧ ch < 16 ∧ (s.chan ch).state = .run ∧ bit
      (s.chanCfg ch) 57 = true) ∧
    (∃ (s : State) (ch : Nat) (t : Nat), s.powered = true ∧ s.chanPresent ch = true ∧ ch < 16 ∧ (s.chan ch).state =
      .run ∧ bits (s.chanCfg ch) 59 58 = 2 * b2n (s.chan ch).b + b2n (s.chan ch).a ∧ bits (s.chanCfg ch) 61 60 ≠ 1) ∧
    (∃ (s : State) (ch : Nat) (t : Nat) (u : State), s.powered = true ∧ u = ((s.advanceTo t).modChan ch fun c =>
      { c with capture := c.position }) ∧ s.chanPresent ch = true ∧ ch < 16 ∧ (s.chan ch).state = .run ∧ bits
      (s.chanCfg ch) 59 58 = 2 * b2n (s.chan ch).b + b2n (s.chan ch).a ∧ bits (s.chanCfg ch) 61 60 = 1 ∧ (s.chan
      ch).armed = true ∧ (u.chan ch).armed = true) ∧
    (∃ (s : State) (ch : Nat) (t : Nat), s.powered = true ∧ s.chanPresent ch = true ∧ 16 ≤ ch ∧ (s.chan ch).state =
      .run ∧ (s.chan ch).reading = none ∧ (s.chan ch).readyAt ≤ t) ∧
    (∃ (s : State) (ch : Nat) (t : Nat) (t0 : Nat) (low : Bool), s.powered = true ∧ s.chanPresent ch = true ∧ 16 ≤ ch
      ∧ (s.chan ch).state = .run ∧ (s.chan ch).reading = some t0) ∧
    (∃ (s : State) (ch : Nat) (w : _) (word : Nat) (p : _) (n : _) (t0 : Nat) (t : _), s.powered = true ∧ w =
      s.chanCfg ch ∧ n = bits w 57 52 + 1 ∧ p = bits w 51 46 + 1 ∧ t = (s.modChan ch fun c =>
      { c with reading := none, readyAt := s.timebase + s.recovery ch }) ∧ s.chanPresent ch = true ∧ 16 ≤ ch ∧ (s.chan
      ch).state = .run ∧ (s.chan ch).reading = some t0 ∧ bits w 45 41 = 0 ∧ bit w 59 = false ∧ bit w 61 = false ∧ bit
      w 62 = false ∧ (s.chan ch).lastWord = none) ∧
    (∃ (s : State) (ch : Nat) (w : _) (word : Nat) (p : _) (n : _) (t0 : Nat) (t : _) (l : Nat), s.powered = true ∧ w
      = s.chanCfg ch ∧ n = bits w 57 52 + 1 ∧ p = bits w 51 46 + 1 ∧ t = (s.modChan ch fun c =>
      { c with reading := none, readyAt := s.timebase + s.recovery ch }) ∧ s.chanPresent ch = true ∧ 16 ≤ ch ∧ (s.chan
      ch).state = .run ∧ (s.chan ch).reading = some t0 ∧ bits w 45 41 = 0 ∧ bit w 59 = false ∧ bit w 61 = false ∧ bit
      w 62 = false ∧ (s.chan ch).lastWord = some l) ∧
    (∃ (s : State) (ch : Nat) (t0 : Nat), s.powered = true ∧ s.chanPresent ch = true ∧ 16 ≤ ch ∧ (s.chan ch).state =
      .run ∧ (s.chan ch).reading = some t0 ∧ bit (s.chanCfg ch) 60 = true) :=
  ⟨⟨chan15 { state := .run }, 15, true, false, 1, on (by decide +kernel), by decide +kernel⟩,
   ⟨chan15 { state := .run }, 15, true, true, 1, on (by decide +kernel), by decide +kernel⟩,
   ⟨cfgs [(0x310F, 5, 2 ^ 57)] (chan15 { state := .run }), 15, on (by decide +kernel), by decide +kernel⟩,
   ⟨cfgs [(0x310F, 5, 0)] (chan15 { state := .run }), 15, 1, on (by decide +kernel), by decide +kernel⟩,
   ⟨cfgs [(0x310F, 5, 2 ^ 60)] (chan15 { state := .run, armed := true }), 15, 1, _, on (by decide +kernel), rfl,
     by decide +kernel⟩,
   ⟨chan23 { state := .run }, 23, 0, on (by decide +kernel), by decide +kernel⟩,
   ⟨chan23 { state := .run, reading := some 0 }, 23, 0, 0, true, on (by decide +kernel), by decide +kernel⟩,
   ⟨cfgs [(0x3117, 5, 0)] (chan23 { state := .run, reading := some 0 }), 23, _, 1, _, _, 0, _, on (by decide +kernel),
     rfl, rfl, rfl, rfl, by decide +kernel⟩,
   ⟨cfgs [(0x3117, 5, 0)] (chan23 { state := .run, reading := some 0, lastWord := some 0 }), 23, _, 1, _, _, 0, _, 0,
     on (by decide +kernel), rfl, rfl, rfl, rfl, by decide +kernel⟩,
   ⟨cfgs [(0x3117, 5, 2 ^ 60)] (chan23 { state := .run, reading := some 0 }), 23, 0, on (by decide +kernel),
     by decide +kernel⟩⟩

theorem witness_ChannelsLatchesCompares :
    (∃ (s : State) (ch : Nat), commanded s (0x3100 + ch) = true ∧ s.chanPresent ch = true ∧ (s.chan ch).state ≠
      .error) ∧
    (∃ (s : State) (ch : Nat) (t : State), commanded s (0x3100 + ch) = true ∧ t = (s.modChan ch fun c =>
      { c with state := .run, bad := 0, counted := false }) ∧ s.chanPresent ch = true ∧ (s.chan ch).state = .error ∧
      s.cfg 0x2180 1 ≠ ch) ∧
    (∃ (s : State) (ch : Nat), commanded s (0x3100 + ch) = true ∧ s.chanPresent ch = true) ∧
    (∃ (s : State) (ch : Nat), commanded s (0x3100 + ch) = true ∧ s.chanPresent ch = true) ∧
    (∃ (s : State) (n : Nat) (t : Nat) (rising : Bool) (pos : Int) (cap : Capture) (u : State) (v : State), s.powered
      = true ∧ (∀ l, (s.latch n).lastAt = some l → l + 160 ≤ t) ∧ pos = (if bits (s.cfg 0x3118 (n + 1)) 28 24 < 24
      then (s.chan (bits (s.cfg 0x3118 (n + 1)) 28 24)).position else 0) ∧ cap =
      { stamp := t, w := (s.advanceTo t).w, position := pos } ∧ u = ((s.advanceTo t).modLatch n fun x => if
      x.queue.length < 16 then { x with queue := x.queue ++ [cap], lastAt := some t } else
      { x with dropped := wrapInc 32 x.dropped, lastAt := some t }) ∧ v = (if bit (s.cfg 0x3118 (n + 1)) 15 then
      u.postEvent (n / 8) 0x0202 n (ofSigned 64 cap.w + ofSigned 64 cap.position * 2 ^ 64) else u) ∧ s.latchPresent n
      = true ∧ s.latchWired n = true ∧ bit (s.cfg 0x3118 (n + 1)) 31 = true ∧ (bits (s.cfg 0x3118 (n + 1)) 30 29 = 2 ∨
      bits (s.cfg 0x3118 (n + 1)) 30 29 = (if rising then 0 else 1)) ∧ bit (v.cfg 0x2100 10) 7 = false) ∧
    (∃ (s : State) (n : Nat), s.powered = true ∧ s.nmt.booted = true ∧ leadAwake s = true ∧ s.served 0x3119 = true ∧
      s.latchPresent n = true) ∧
    (∃ (s : State) (n : Nat) (t : Nat), s.powered = true ∧ (s.cmpOut n).pulseEnd = some t) ∧
    (∃ (s : State) (n : Nat) (es : _), commanded s 0x311D = true ∧ n < 64 ∧ s.present (n / 8) = true ∧ es ≠ [] ∧
      s.appendOrdered n es = true ∧ (s.cmpOut n).list.length + es.length ≤ 4096) ∧
    (∃ (s : State) (q : Nat) (h : Head) (n : _) (es : _), s.powered = true ∧ n = motionUnit h.raw ∧ es = (words8
      h.buf).map (toSigned 64) ∧ (s.ring q).head = some h ∧ s.ringKind q = 4 ∧ descOp h.raw = 0x4B ∧ h.moving = true ∧
      descLength h.raw ≤ h.buf.length ∧ descLength h.raw ≤ h.moved ∧ s.appendOrdered n es = true ∧ (s.cmpOut
      n).list.length + es.length ≤ 4096) ∧
    (∃ (s : State) (n : Nat) (v : Nat), commanded s 0x311A = true ∧ n < 64 ∧ s.present (n / 8) = true ∧ cmpCfgOk v =
      true ∧ s.cmpNames v = true ∧ bit v 63 = true ∧ bit (s.cmpCfg n) 63 = false ∧ cmpMode v ≠ 1 ∧ s.assigned 11 n 0 =
      true) ∧
    (∃ (s : State) (n : Nat) (v : Nat), commanded s 0x311A = true ∧ n < 64 ∧ s.present (n / 8) = true ∧ cmpCfgOk v =
      true ∧ s.cmpNames v = true ∧ bit v 63 = false) :=
  ⟨⟨State.reset, 0, takes (on (by decide +kernel)) (by decide +kernel), by decide +kernel⟩,
   ⟨chan23 { state := .error }, 23, _, takes (on (by decide +kernel)) (by decide +kernel), rfl, by decide +kernel⟩,
   ⟨State.reset, 0, takes (on (by decide +kernel)) (by decide +kernel), by decide +kernel⟩,
   ⟨State.reset, 0, takes (on (by decide +kernel)) (by decide +kernel), by decide +kernel⟩,
   ⟨cfgs [(0x3118, 64, 2 ^ 31)] (wired [(12, 63, 0)] State.reset), 63, 0, true, _, _, _, _, on (by decide +kernel),
     fun l h => (nomatch h), rfl, rfl, rfl, rfl, by decide +kernel⟩,
   ⟨State.reset, 0, on (by decide +kernel), by decide +kernel⟩,
   ⟨{ State.reset with compares := [(63, { pulseEnd := some 0 })] }, 63, 0, on (by decide +kernel), by decide +kernel⟩,
   ⟨cfgs [(0x311A, 64, 2 ^ 63)] State.reset, 63, ([0]), takes (on (by decide +kernel)) (by decide +kernel),
     by decide +kernel⟩,
   ⟨cfgs [(0x311A, 1, 2 ^ 63)] (ctlRing 4 { raw := 0x4B * 2 ^ 96, moving := true, buf := [1, 0, 0, 0, 0, 0, 0, 0] }
     State.reset), 4096, ({ raw := 0x4B * 2 ^ 96, moving := true, buf := [1, 0, 0, 0, 0, 0, 0, 0] }), _, _, on
     (by decide +kernel), rfl, rfl, by decide +kernel⟩,
   ⟨wired [(11, 63, 0)] State.reset, 63, (2 ^ 63 + 1), takes (on (by decide +kernel)) (by decide +kernel),
     by decide +kernel⟩,
   ⟨State.reset, 63, 1, takes (on (by decide +kernel)) (by decide +kernel), by decide +kernel⟩⟩

theorem witness_AxisCommands :
    (∃ (s : State) (a : Nat), commanded s (0x3000 + a) = true ∧ s.axisPresent a = true ∧ s.axisFree a = true ∧
      ((s.axis a).state = .off ∨ (s.axis a).state = .stopped) ∧ s.axisWired a = true ∧ s.axisHeld a = false ∧
      (s.enableAxis a).ratesOk (axisDie a) = true) ∧
    (∃ (s : State) (a : Nat), commanded s (0x3000 + a) = true ∧ s.axisPresent a = true ∧ s.axisFree a = true ∧
      ((s.axis a).state = .hold ∨ (s.axis a).state = .stopped)) ∧
    (∃ (s : State) (a : Nat), commanded s (0x3000 + a) = true ∧ s.axisPresent a = true ∧ s.axisFree a = true ∧
      ((s.axis a).state = .hold ∨ (s.axis a).state = .moving)) ∧
    (∃ (s : State) (a : Nat), commanded s (0x3000 + a) = true ∧ s.axisPresent a = true ∧ s.axisFree a = true ∧
      ((s.axis a).state = .hold ∨ (s.axis a).state = .moving)) ∧
    (∃ (s : State) (a : Nat) (t : _), commanded s (0x3000 + a) = true ∧ s.gearAxis a (s.cfgI64 (0x3000 + a) 3)
      (s.cfgI64 (0x3000 + a) 4) = some t ∧ s.axisPresent a = true ∧ s.axisFree a = true ∧ ((s.axis a).state = .hold ∨
      (s.axis a).state = .geared)) ∧
    (∃ (s : State) (a : Nat), commanded s (0x3000 + a) = true ∧ s.axisPresent a = true ∧ s.axisFree a = true ∧
      ((s.axis a).state = .moving ∨ (s.axis a).state = .geared ∨ (s.axis a).state = .tension)) ∧
    (∃ (s : State) (a : Nat), commanded s (0x3000 + a) = true ∧ s.axisPresent a = true ∧ (s.axis a).state ≠ .off ∧
      (s.axis a).state ≠ .detained ∧ s.webGone a = false) ∧
    (∃ (s : State) (a : Nat), commanded s (0x3000 + a) = true ∧ s.axisPresent a = true ∧ s.axisFree a = true) ∧
    (∃ (s : State) (a : Nat), commanded s (0x3000 + a) = true ∧ (∀ k, k < 4 → s.axisSlot a k = none) ∧ s.axisPresent a
      = true ∧ s.axisFree a = true ∧ (s.axis a).state = .detained) ∧
    (∃ (s : State) (a : Nat), commanded s (0x3000 + a) = true ∧ s.axisPresent a = true ∧ s.axisFree a = true ∧
      ((s.axis a).state = .hold ∨ (s.axis a).state = .moving ∨ (s.axis a).state = .geared)) :=
  ⟨⟨wired [(3, 63, 0), (3, 63, 1)] State.reset, 63, takes (on (by decide +kernel)) (by decide +kernel),
     by decide +kernel⟩,
   ⟨axis63 { state := .hold }, 63, takes (on (by decide +kernel)) (by decide +kernel), by decide +kernel⟩,
   ⟨axis63 { state := .moving }, 63, takes (on (by decide +kernel)) (by decide +kernel), by decide +kernel⟩,
   ⟨axis63 { state := .hold }, 63, takes (on (by decide +kernel)) (by decide +kernel), by decide +kernel⟩,
   ⟨cfgs [(0x303F, 4, 1)] (axis63 { state := .hold }), 63, ((cfgs [(0x303F, 4, 1)] (axis63
     { state := .hold })).gearAxis 63 ((cfgs [(0x303F, 4, 1)] (axis63 { state := .hold })).cfgI64 (0x3000 + 63) 3)
     ((cfgs [(0x303F, 4, 1)] (axis63 { state := .hold })).cfgI64 (0x3000 + 63) 4)).get (by decide +kernel), takes (on
     (by decide +kernel)) (by decide +kernel), (Option.some_get _).symm, by decide +kernel⟩,
   ⟨axis63 { state := .geared }, 63, takes (on (by decide +kernel)) (by decide +kernel), by decide +kernel⟩,
   ⟨axis63 { state := .hold }, 63, takes (on (by decide +kernel)) (by decide +kernel), by decide +kernel⟩,
   ⟨State.reset, 0, takes (on (by decide +kernel)) (by decide +kernel), by decide +kernel⟩,
   ⟨axis63 { state := .detained }, 63, takes (on (by decide +kernel)) (by decide +kernel), all_lt (by decide +kernel),
     by decide +kernel⟩,
   ⟨axis63 { state := .hold }, 63, takes (on (by decide +kernel)) (by decide +kernel), by decide +kernel⟩⟩

theorem witness_AxisEvents :
    (∃ (s : State) (a : Nat) (t : Int) (u : _), s.powered = true ∧ u = (s.advanceTo (s.axis a).vel.endAt).catchUp a ∧
      s.axisPresent a = true ∧ (s.axis a).target = some t ∧ (s.axis a).state = .moving) ∧
    (∃ (s : State) (a : Nat), s.powered = true ∧ s.axisPresent a = true ∧ (s.axis a).state = .moving ∧ (s.axis
      a).halting = true) ∧
    (∃ (s : State) (a : Nat) (r : Int) (wc : Int), s.powered = true ∧ s.axisPresent a = true ∧ (s.axis a).armed = some
      (r, wc) ∧ (s.axis a).state = .geared ∧ wc ≤ s.w) ∧
    (∃ (s : State) (a : Nat) (levels : Nat) (k : Nat) (o : Nat), s.powered = true ∧ s.axisPresent a = true ∧ a < 16 ∧
      bit (s.cfg (0x3000 + a) 17) 23 = false ∧ hallSector (Nat.xor (levels % 8) (bits (s.cfg (0x3000 + a) 17) 19 17))
      = some k ∧ (s.axis a).hall = some o ∧ (k + bits (s.cfg (0x3000 + a) 17) 22 20) % 6 = (o + 1) % 6) ∧
    (∃ (s : State) (a : Nat) (levels : Nat) (k : Nat) (o : Nat), s.powered = true ∧ s.axisPresent a = true ∧ a < 16 ∧
      bit (s.cfg (0x3000 + a) 17) 23 = false ∧ hallSector (Nat.xor (levels % 8) (bits (s.cfg (0x3000 + a) 17) 19 17))
      = some k ∧ (s.axis a).hall = some o ∧ o = ((k + bits (s.cfg (0x3000 + a) 17) 22 20) % 6 + 1) % 6) ∧
    (∃ (s : State) (a : Nat) (levels : Nat), s.powered = true ∧ s.axisPresent a = true ∧ a < 16 ∧ bit (s.cfg (0x3000 +
      a) 17) 23 = false ∧ hallSector (Nat.xor (levels % 8) (bits (s.cfg (0x3000 + a) 17) 19 17)) = none ∧ (s.axis
      a).state ≠ .off ∧ (s.axis a).state ≠ .detained) ∧
    (∃ (s : State) (a : Nat) (t : _), s.powered = true ∧ t = ((s.advanceTo ((s.axis a).intAt + 16000000 / max 1 (bits
      (s.cfg (0x3000 + a) 17) 63 48))).integrateAxis a) ∧ s.axisPresent a = true ∧ 16 ≤ a ∧ (s.axis a).state ≠ .off ∧
      (s.axis a).state ≠ .detained ∧ bit (s.cfg (0x3000 + a) 17) 47 = true) ∧
    (∃ (s : State) (a : Nat) (u : _) (inc : _) (n : _) (setup : _) (t : _), s.powered = true ∧ u = s.catchUp a ∧ inc =
      (ratFloor (ratAbs (u.axisVelocity a) * (2 ^ 48 : Nat) / 100000000)).toNat ∧ n = (2 ^ 48 - (u.axis a).acc + inc -
      1) / inc ∧ setup = (if (!bit (u.cfg (0x3000 + a) 17) 47 && decide (true ≠ (u.axis a).forward)) = true then bits
      (u.cfg (0x3000 + a) 17) 23 12 else 0) ∧ t = u.advanceTo (u.timebase + 16 * max n setup) ∧ s.axisPresent a = true
      ∧ 16 ≤ a ∧ (s.axis a).state = .moving ∧ 0 < u.axisVelocity a ∧ inc ≠ 0) ∧
    (∃ (s : State) (a : Nat) (u : _) (inc : _) (n : _) (setup : _) (t : _), s.powered = true ∧ u = s.catchUp a ∧ inc =
      (ratFloor (ratAbs (u.axisVelocity a) * (2 ^ 48 : Nat) / 100000000)).toNat ∧ n = ((u.axis a).acc + 1 + inc - 1) /
      inc ∧ setup = (if (!bit (u.cfg (0x3000 + a) 17) 47 && decide (false ≠ (u.axis a).forward)) = true then bits
      (u.cfg (0x3000 + a) 17) 23 12 else 0) ∧ t = u.advanceTo (u.timebase + 16 * max n setup) ∧ s.axisPresent a = true
      ∧ 16 ≤ a ∧ (s.axis a).state = .moving ∧ u.axisVelocity a < 0 ∧ inc ≠ 0) :=
  ⟨⟨axis63 { state := .moving, target := some (-1) }, 63, (-1), _, on (by decide +kernel), rfl, by decide +kernel⟩,
   ⟨axis63 { state := .moving, halting := true }, 63, on (by decide +kernel), by decide +kernel⟩,
   ⟨axis63 { state := .geared, armed := some (1, 0) }, 63, 1, 0, on (by decide +kernel), by decide +kernel⟩,
   ⟨{ State.reset with axes := [(15, { hall := some 5 })] }, 15, 1, 0, 5, on (by decide +kernel), by decide +kernel⟩,
   ⟨{ State.reset with axes := [(15, { hall := some 1 })] }, 15, 1, 0, 1, on (by decide +kernel), by decide +kernel⟩,
   ⟨{ State.reset with axes := [(15, { state := .hold })] }, 15, 7, on (by decide +kernel), by decide +kernel⟩,
   ⟨cfgs [(0x303F, 17, 2 ^ 47)] (axis63 { state := .hold }), 63, _, on (by decide +kernel), rfl, by decide +kernel⟩,
   ⟨cfgs [(0x303F, 16, 1000)] { axis63 { state := .moving, vel := { start := 1000, goal := 1000 } } with
       fuses := { fields := [(odKey 0x4016 64, { copyA := 1000, copyB := 1000, locked := true })] } }, 63, _, _, _, _,
     _, on (by decide +kernel), rfl, rfl, rfl, rfl, rfl, by decide +kernel⟩,
   ⟨cfgs [(0x303F, 16, 1000)] { axis63 { state := .moving, vel := { start := -1000, goal := -1000 } } with
       fuses := { fields := [(odKey 0x4016 64, { copyA := 1000, copyB := 1000, locked := true })] } }, 63, _, _, _, _,
     _, on (by decide +kernel), rfl, rfl, rfl, rfl, rfl, by decide +kernel⟩⟩

theorem witness_LoopCommands :
    (∃ (s : State) (j : Nat) (u : ConvUser) (n : Nat) (rest : _) (c : Nat) (code : Nat), s.powered = true ∧ (s.conv
      c).running = (u, n) :: rest ∧ c < 2 ∧ s.present c = true) ∧
    (∃ (s : State) (j : Nat), s.powered = true ∧ s.slotPresent j = true ∧ (s.loopSlot j).enabled = true ∧ bits
      (s.trigWord j) 31 28 = 2 ∧ (s.loopSlot j).due = true) ∧
    (∃ (s : State) (j : Nat) (t : Nat), s.powered = true ∧ s.slotPresent j = true ∧ (s.loopSlot j).enabled = true ∧
      bits (s.trigWord j) 31 28 = 1 ∧ (s.loopSlot j).trigger = some t) ∧
    (∃ (s : State) (j : Nat) (t : Nat), s.powered = true ∧ s.slotPresent j = true ∧ (s.loopSlot j).enabled = true ∧
      bits (s.trigWord j) 31 28 = 1 ∧ (s.loopSlot j).trigger = none ∧ (s.loopSlot j).trigPrev = some t) ∧
    (∃ (s : State) (j : Nat) (t : Nat) (u : State) (y : _), s.powered = true ∧ u = s.advanceTo (t + 160) ∧ rMul
      (realOr0 (realOf (u.slotInput j))) (u.cfgReal (0x3200 + j) 9) = some y ∧ s.slotPresent j = true ∧ s.engineRuns j
      = true ∧ (s.loopSlot j).trigger = some t) ∧
    (∃ (s : State) (j : Nat) (t : Nat) (u : State), s.powered = true ∧ u = s.advanceTo (t + 160) ∧ s.slotPresent j =
      true ∧ s.engineRuns j = true ∧ (s.loopSlot j).trigger = some t ∧ rMul (realOr0 (realOf (u.slotInput j)))
      (u.cfgReal (0x3200 + j) 9) = none) :=
  ⟨⟨{ State.reset with conv1 := { running := [(.supply 0, 0)] } }, 0, (.supply 0), 0, ([]), 1, 4095, on
     (by decide +kernel), by decide +kernel⟩,
   ⟨cfgs [(0x33FF, 4, 2 * 2 ^ 28)] (loop511 { enabled := true, due := true }), 511, on (by decide +kernel),
     by decide +kernel⟩,
   ⟨cfgs [(0x33FF, 4, 2 ^ 28)] (loop511 { enabled := true, trigger := some 0 }), 511, 0, on (by decide +kernel),
     by decide +kernel⟩,
   ⟨cfgs [(0x33FF, 4, 2 ^ 28)] (loop511 { enabled := true, trigPrev := some 0 }), 511, 0, on (by decide +kernel),
     by decide +kernel⟩,
   ⟨loop511 { enabled := true, trigger := some 0 }, 511, 0, _, (rMul (realOr0 (realOf (((loop511
     { enabled := true, trigger := some 0 }).advanceTo (0 + 160)).slotInput 511))) (((loop511
     { enabled := true, trigger := some 0 }).advanceTo (0 + 160)).cfgReal (0x3200 + 511) 9)).get (by decide +kernel),
     on (by decide +kernel), rfl, (Option.some_get _).symm, by decide +kernel⟩,
   ⟨cfgs [(0x33FF, 5, 2 ^ 24), (0x33FF, 9, 0x40000000)] (loop511
     { enabled := true, trigger := some 0, input := 2 ^ 127 }), 511, 0, _, on (by decide +kernel), rfl,
     by decide +kernel⟩⟩

theorem witness_LoopSlotCommands :
    (∃ (s : State) (j : Nat) (t : _), commanded s (0x3200 + j) = true ∧ t = ((s.undetain 0x20 (slotDie j) j).modLoop j
      fun l => { l with
        enabled := true, first := true, i := 0, u := 0, d := 0, handover := false, trigPrev := none, trigger := none,
        waiting := false, outputs := 0 }) ∧ s.slotPresent j = true ∧ (s.slotOwner j).1 = .host ∧ t.ratesOk (slotDie j)
      = true) ∧
    (∃ (s : State) (j : Nat), commanded s (0x3200 + j) = true ∧ s.slotPresent j = true ∧ (s.slotOwner j).1 = .host) ∧
    (∃ (s : State) (j : Nat), commanded s (0x3200 + j) = true ∧ s.slotPresent j = true ∧ (s.slotOwner j).1 = .host) ∧
    (∃ (s : State) (j : Nat), commanded s (0x3200 + j) = true ∧ s.slotPresent j = true ∧ (s.slotOwner j).1 = .host) ∧
    (∃ (s : State) (j : Nat), commanded s (0x3200 + j) = true ∧ s.slotPresent j = true ∧ (s.slotOwner j).1 = .host) ∧
    (∃ (s : State) (j : Nat), commanded s (0x3200 + j) = true ∧ s.slotPresent j = true ∧ (s.slotOwner j).1 ≠ .host) ∧
    (∃ (s : State) (j : Nat), commanded s (0x3200 + j) = true ∧ s.slotPresent j = true ∧ (s.slotOwner j).1 ≠ .host) ∧
    (∃ (s : State) (j : Nat), commanded s (0x3200 + j) = true ∧ s.slotPresent j = true ∧ (s.slotOwner j).1 ≠ .host) ∧
    (∃ (s : State) (j : Nat), commanded s (0x3200 + j) = true ∧ s.slotPresent j = true ∧ (s.slotOwner j).1 ≠ .host) ∧
    (∃ (s : State) (j : Nat), commanded s (0x3200 + j) = true ∧ s.slotPresent j = true ∧ (s.slotOwner j).1 ≠ .host) :=
  ⟨⟨State.reset, 0, _, takes (on (by decide +kernel)) (by decide +kernel), rfl, by decide +kernel⟩,
   ⟨State.reset, 0, takes (on (by decide +kernel)) (by decide +kernel), by decide +kernel⟩,
   ⟨State.reset, 0, takes (on (by decide +kernel)) (by decide +kernel), by decide +kernel⟩,
   ⟨State.reset, 0, takes (on (by decide +kernel)) (by decide +kernel), by decide +kernel⟩,
   ⟨State.reset, 0, takes (on (by decide +kernel)) (by decide +kernel), by decide +kernel⟩,
   ⟨scan31 { state := .coast }, 451, takes (on (by decide +kernel)) (by decide +kernel), by decide +kernel⟩,
   ⟨scan31 { state := .coast }, 451, takes (on (by decide +kernel)) (by decide +kernel), by decide +kernel⟩,
   ⟨scan31 { state := .coast }, 451, takes (on (by decide +kernel)) (by decide +kernel), by decide +kernel⟩,
   ⟨scan31 { state := .coast }, 451, takes (on (by decide +kernel)) (by decide +kernel), by decide +kernel⟩,
   ⟨scan31 { state := .coast }, 451, takes (on (by decide +kernel)) (by decide +kernel), by decide +kernel⟩⟩

theorem witness_HighVoltageCommands :
    (∃ (s : State) (i : Nat) (n : Nat) (h : _) (r : _) (density : _) (v : _) (t : _), s.powered = true ∧ h = dsChannel
      i ∧ r = s.cfg (0x3400 + h) 16 ∧ density = ((min n (r ^ 3) : Nat) : Rat) / ((max 1 (r ^ 3) : Nat) : Rat) ∧ v = (2
      * density - 1) * s.dsFull i ∧ t = ((s.modDs i fun d => { d with main := v, density, lost := false }).dsDue i) ∧
      s.hvPresent h = true ∧ (i % 2 = 1 ∨ (t.hvChan h).state.live = false ∨ ratAbs v ≤ t.cfgReal (0x3400 + h) 17)) ∧
    (∃ (s : State) (i : Nat) (n : Nat) (h : _) (r : _) (density : _) (v : _) (t : _), s.powered = true ∧ h = dsChannel
      i ∧ r = s.cfg (0x3400 + h) 16 ∧ density = ((min n (r ^ 3) : Nat) : Rat) / ((max 1 (r ^ 3) : Nat) : Rat) ∧ v = (2
      * density - 1) * s.dsFull i ∧ t = ((s.modDs i fun d => { d with main := v, density, lost := false }).dsDue i) ∧
      s.hvPresent h = true ∧ i % 2 = 0 ∧ (t.hvChan h).state.live = true ∧ t.cfgReal (0x3400 + h) 17 < ratAbs v) ∧
    (∃ (s : State) (i : Nat) (n : Nat) (v : _) (t : _), s.powered = true ∧ v = (2 * (((min n 256 : Nat) : Rat) / 256)
      - 1) * s.dsFull i ∧ t = (s.modDs i fun d => { d with fast := some v, lost := false }) ∧ s.hvPresent (dsChannel
      i) = true ∧ (i % 2 = 0 ∨ (t.hvChan (dsChannel i)).state.live = false)) ∧
    (∃ (s : State) (i : Nat) (n : Nat) (v : _) (t : _), s.powered = true ∧ v = (2 * (((min n 256 : Nat) : Rat) / 256)
      - 1) * s.dsFull i ∧ t = (s.modDs i fun d => { d with fast := some v, lost := false }) ∧ s.hvPresent (dsChannel
      i) = true ∧ i % 2 = 1 ∧ (t.hvChan (dsChannel i)).state.live = true ∧ t.cfgReal (0x3400 + dsChannel i) 18 <
      ratAbs v) ∧
    (∃ (s : State) (i : Nat) (t : _), s.powered = true ∧ t = (s.modDs i fun d =>
      { d with lost := true, fast := none }) ∧ s.hvPresent (dsChannel i) = true ∧ (t.hvChan (dsChannel i)).state.live
      = true) ∧
    (∃ (s : State) (h : Nat), s.powered = true ∧ s.hvPresent h = true ∧ (s.hvChan h).state = .arcBlank) ∧
    (∃ (s : State) (h : Nat), commanded s (0x3400 + h) = true ∧ s.hvPresent h = true ∧ (s.hvChan h).state = .off ∧
      s.cfgReal (0x3400 + h) 17 ≠ 0 ∧ s.cfgReal (0x3400 + h) 18 ≠ 0 ∧ (s.hvSlot h).isSome = true ∧ s.hvWired h = true
      ∧ s.outputsFree = true ∧ (s.enableHv h).ratesOk (hvDie h) = true) ∧
    (∃ (s : State) (h : Nat), commanded s (0x3400 + h) = true ∧ s.hvPresent h = true ∧ (s.hvChan h).state ≠ .detained) ∧
    (∃ (s : State) (h : Nat), commanded s (0x3400 + h) = true ∧ s.hvPresent h = true ∧ (s.hvChan h).state = .detained) :=
  ⟨⟨State.reset, 0, 0, _, _, _, _, _, on (by decide +kernel), rfl, rfl, rfl, rfl, rfl, by decide +kernel⟩,
   ⟨hv63 { state := .run }, 126, 0, _, _, _, _, _, on (by decide +kernel), rfl, rfl, rfl, rfl, rfl, by decide +kernel⟩,
   ⟨State.reset, 0, 0, _, _, on (by decide +kernel), rfl, rfl, by decide +kernel⟩,
   ⟨hv63 { state := .run }, 127, 256, _, _, on (by decide +kernel), rfl, rfl, by decide +kernel⟩,
   ⟨hv63 { state := .run }, 127, _, on (by decide +kernel), rfl, by decide +kernel⟩,
   ⟨hv63 { state := .arcBlank }, 63, on (by decide +kernel), by decide +kernel⟩,
   ⟨wired [(5, 63, 0), (6, 126, 0), (6, 127, 0), (7, 126, 0), (7, 127, 0)] (cfgs [(0x343F, 9, 4), (0x343F, 17,
     0x3F800000), (0x343F, 18, 0x3F800000)] State.reset), 63, takes (on (by decide +kernel)) (by decide +kernel),
     by decide +kernel⟩,
   ⟨State.reset, 0, takes (on (by decide +kernel)) (by decide +kernel), by decide +kernel⟩,
   ⟨hv63 { state := .detained }, 63, takes (on (by decide +kernel)) (by decide +kernel), by decide +kernel⟩⟩

theorem witness_FuserEvents :
    (∃ (s : State) (z : Nat) (t : Nat), s.powered = true ∧ s.zonePresent z = true ∧ s.triac z = true ∧ s.assigned 9 z
      0 = true) ∧
    (∃ (s : State) (z : Nat) (t : Nat) (r : Nat) (u : _), s.powered = true ∧ u = (s.advanceTo t).modZone z (fun x =>
      { x with lastCross := some (s.advanceTo t).timebase, fired := false }) ∧ s.zonePresent z = true ∧ s.triac z =
      true ∧ s.assigned 9 z 0 = true ∧ (s.zone z).lastRising = some r ∧ mainsOk (u.timebase - r) = true) ∧
    (∃ (s : State) (z : Nat) (t : Nat), s.powered = true ∧ s.zonePresent z = true ∧ (s.zone z).lastCross = some t ∧
      s.triac z = true ∧ s.zoneLive z = true ∧ (s.zone z).firing = true ∧ (s.zone z).fired = false) ∧
    (∃ (s : State) (z : Nat) (t : Nat), s.powered = true ∧ s.zonePresent z = true ∧ (s.zone z).lastCross = some t ∧
      s.triac z = true ∧ s.zoneLive z = true ∧ 0 < (s.zone z).period) ∧
    (∃ (s : State) (z : Nat) (t : _), s.powered = true ∧ t = ((s.modZone z fun x =>
      { x with sampleAt := some s.timebase, sampling := true, code := none, cold := none }).warmZone z) ∧
      s.zonePresent z = true ∧ s.domain (0x3500 + z) 7 ≠ [] ∧ (s.zone z).sampleAt = none ∧ bits (t.cfg (0x3500 + z) 6)
      25 24 = 0) ∧
    (∃ (s : State) (z : Nat) (t : Nat), s.powered = true ∧ s.zonePresent z = true ∧ (s.zone z).bandSince = some t ∧
      (s.zone z).state = .regulate ∧ (s.zone z).inBand = false) :=
  ⟨⟨wired [(9, 31, 0)] State.reset, 31, 1, on (by decide +kernel), by decide +kernel⟩,
   ⟨wired [(9, 31, 0)] (zone31 { lastRising := some 0 }), 31, 32000000, 0, _, on (by decide +kernel), rfl,
     by decide +kernel⟩,
   ⟨zone31 { state := .regulate, firing := true, lastCross := some 0 }, 31, 0, on (by decide +kernel),
     by decide +kernel⟩,
   ⟨zone31 { state := .regulate, period := 32000000, lastCross := some 0 }, 31, 0, on (by decide +kernel),
     by decide +kernel⟩,
   ⟨(zone31 { state := .regulate }).setDomain 0x351F 7 [0, 0, 0, 0, 0, 0, 0, 0], 31, _, on (by decide +kernel), rfl,
     by decide +kernel⟩,
   ⟨zone31 { state := .regulate, bandSince := some 0 }, 31, 0, on (by decide +kernel), by decide +kernel⟩⟩

theorem witness_FuserCommands :
    (∃ (s : State) (z : Nat), commanded s (0x3500 + z) = true ∧ s.zonePresent z = true ∧ (s.zone z).state = .off ∧
      s.domain (0x3500 + z) 7 ≠ [] ∧ s.cfgReal (0x3500 + z) 18 ≠ 0 ∧ (s.zoneSlot z).isSome = true ∧ s.zoneWired z =
      true ∧ s.outputsFree = true ∧ (s.startZone z).ratesOk (zoneDie z) = true) ∧
    (∃ (s : State) (z : Nat), commanded s (0x3500 + z) = true ∧ s.zonePresent z = true ∧ (s.zone z).state ≠ .detained) ∧
    (∃ (s : State) (z : Nat), commanded s (0x3500 + z) = true ∧ s.zonePresent z = true ∧ (s.zone z).state = .detained) ∧
    (∃ (s : State) (z : Nat), commanded s (0x3500 + z) = true ∧ s.zonePresent z = true ∧ (s.zone z).state = .warmup) ∧
    (∃ (s : State) (z : Nat), commanded s (0x3500 + z) = true ∧ s.zonePresent z = true ∧ (s.zone z).state = .regulate) ∧
    (∃ (s : State) (z : Nat), commanded s (0x3500 + z) = true ∧ s.zonePresent z = true ∧ (s.zone z).state = .setback) ∧
    (∃ (s : State) (z : Nat) (v : Nat), commanded s (0x3500 + z) = true ∧ s.zonePresent z = true ∧ v < 2 ^ 32 ∧
      realBad v = false ∧ s.cfgReal (0x3500 + z) 13 ≤ realOr0 v) ∧
    (∃ (s : State), commanded s 0x2190 = true ∧ s.tt.state = .idle) ∧
    (∃ (s : State), commanded s 0x2190 = true ∧ s.tt.state = .idle ∧ s.faults.fatal = false ∧ s.hazard.active = false) :=
  ⟨⟨wired [(8, 31, 0), (9, 31, 0)] ((cfgs [(0x351F, 11, 4), (0x351F, 18, 0x3F800000)] State.reset).setDomain 0x351F 7
     [0, 0, 0, 0, 0, 0, 0, 0]), 31, takes (on (by decide +kernel)) (by decide +kernel), by decide +kernel⟩,
   ⟨State.reset, 0, takes (on (by decide +kernel)) (by decide +kernel), by decide +kernel⟩,
   ⟨zone31 { state := .detained }, 31, takes (on (by decide +kernel)) (by decide +kernel), by decide +kernel⟩,
   ⟨zone31 { state := .warmup }, 31, takes (on (by decide +kernel)) (by decide +kernel), by decide +kernel⟩,
   ⟨zone31 { state := .regulate }, 31, takes (on (by decide +kernel)) (by decide +kernel), by decide +kernel⟩,
   ⟨zone31 { state := .setback }, 31, takes (on (by decide +kernel)) (by decide +kernel), by decide +kernel⟩,
   ⟨State.reset, 0, 0, takes (on (by decide +kernel)) (by decide +kernel), by decide +kernel⟩,
   ⟨State.reset, takes (on (by decide +kernel)) (by decide +kernel), by decide +kernel⟩,
   ⟨State.reset, takes (on (by decide +kernel)) (by decide +kernel), by decide +kernel⟩⟩

theorem witness_ClockCommands :
    (∃ (s : State) (die : Nat) (pll : Nat) (u : _) (t : _), s.powered = true ∧ u = (if pll = 1 ∧ s.timebaseRuns =
      false then { s with timebase := 0, power := { s.power with rtc := s.rtcNow, rtcAt := 0 } } else s) ∧ t =
      (u.modClock die fun c => { c with
        lock := setBit c.lock pll true, ever := setBit c.ever pll true, repeated := setBit c.repeated pll false,
        relocks := if bit c.ever pll then satInc 8 c.relocks else c.relocks }) ∧ s.pllServes die pll = true ∧ bit
      (s.dieClock die).lock pll = false ∧ pll < 2 ∧ bit (s.dieClock die).ever pll = false) ∧
    (∃ (s : State) (die : Nat) (pll : Nat) (t : _), s.powered = true ∧ t = (s.modClock die fun c => { c with
        lock := setBit c.lock pll true, ever := setBit c.ever pll true, repeated := setBit c.repeated pll false,
        relocks := if bit c.ever pll then satInc 8 c.relocks else c.relocks }) ∧ s.pllServes die pll = true ∧ bit
      (s.dieClock die).lock pll = false ∧ 2 ≤ pll ∧ pll = 6) ∧
    (∃ (s : State) (die : Nat) (pll : Nat) (t : _), s.powered = true ∧ t = (s.modClock die fun c => { c with
        lock := setBit c.lock pll true, ever := setBit c.ever pll true, repeated := setBit c.repeated pll false,
        relocks := if bit c.ever pll then satInc 8 c.relocks else c.relocks }) ∧ s.pllServes die pll = true ∧ bit
      (s.dieClock die).lock pll = false ∧ 2 ≤ pll ∧ pll = 5) ∧
    (∃ (s : State) (die : Nat) (pll : Nat) (t : _), s.powered = true ∧ t = (s.modClock die fun c => { c with
        lock := setBit c.lock pll true, ever := setBit c.ever pll true, repeated := setBit c.repeated pll false,
        relocks := if bit c.ever pll then satInc 8 c.relocks else c.relocks }) ∧ s.pllServes die pll = true ∧ bit
      (s.dieClock die).lock pll = false ∧ 2 ≤ pll ∧ pll < 5) ∧
    (∃ (s : State) (die : Nat) (pll : Nat), s.powered = true ∧ s.pllServes die pll = true ∧ bit (s.dieClock die).lock
      pll = false ∧ (2 ≤ pll ∨ bit (s.dieClock die).ever pll = false) ∧ bit (s.dieClock die).repeated pll = false) ∧
    (∃ (s : State) (die : Nat) (pll : Nat), s.powered = true ∧ s.pllServes die pll = true ∧ bit (s.dieClock die).lock
      pll = false ∧ (2 ≤ pll ∨ bit (s.dieClock die).ever pll = false) ∧ bit (s.dieClock die).repeated pll = true) ∧
    (∃ (s : State) (die : Nat) (pll : Nat), s.powered = true ∧ s.pllServes die pll = true ∧ bit (s.dieClock die).lock
      pll = true) ∧
    (∃ (s : State) (die : Nat) (pll : Nat), s.powered = true ∧ s.pllServes die pll = true ∧ bit (s.dieClock die).lock
      pll = false ∧ pll < 2 ∧ bit (s.dieClock die).ever pll = true) ∧
    (∃ (s : State) (die : Nat) (pll : Nat), s.powered = true ∧ s.pllServes die pll = true ∧ bit (s.dieClock die).lock
      pll = false ∧ pll < 2 ∧ bit (s.dieClock die).ever pll = true) ∧
    (∃ (s : State) (die : Nat) (pll : Nat), s.powered = true ∧ s.pllServes die pll = true ∧ bit (s.dieClock die).lock
      pll = false ∧ pll < 2 ∧ bit (s.dieClock die).ever pll = true) ∧
    (∃ (s : State) (die : Nat), s.powered = true) ∧
    (∃ (s : State) (die : Nat) (v : Nat), commanded s (0x3808 + die) = true ∧ die < 8 ∧ s.present die = true ∧ v < 32
      ∧ Nat.land v (s.ownedOutputs die) = 0) ∧
    (∃ (s : State) (die : Nat) (v : Nat), commanded s (0x3808 + die) = true ∧ (∀ k, k < 5 → bit v k = true → bit
      (s.cfg (0x3808 + die) 13) k = false → s.outputWired die k = true ∧ s.faults.fatal = false) ∧ die < 8 ∧ s.present
      die = true ∧ v < 32 ∧ Nat.land (Nat.xor v (s.cfg (0x3808 + die) 13)) (s.ownedOutputs die) = 0) ∧
    (∃ (s : State) (die : Nat) (sub : Nat) (v : Nat), commanded s (0x3808 + die) = true ∧ die < 8 ∧ s.present die =
      true ∧ (sub = 1 ∨ sub = 2) ∧ s.nmt.state = .preOperational ∧ s.ownedOutputs die = 0 ∧ bit (s.cfg (0x3808 + die)
      13) 4 = false ∧ auxValueOk sub v = true) :=
  ⟨⟨{ State.reset with clocks := [(7, {})] }, 7, 1, _, _, on (by decide +kernel), rfl, rfl, by decide +kernel⟩,
   ⟨{ State.reset with clocks := [(7, {})] }, 7, 6, _, on (by decide +kernel), rfl, by decide +kernel⟩,
   ⟨{ State.reset with clocks := [(0, {})] }, 0, 5, _, on (by decide +kernel), rfl, by decide +kernel⟩,
   ⟨{ State.reset with clocks := [(7, {})] }, 7, 4, _, on (by decide +kernel), rfl, by decide +kernel⟩,
   ⟨{ State.reset with clocks := [(7, {})] }, 7, 6, on (by decide +kernel), by decide +kernel⟩,
   ⟨{ State.reset with clocks := [(7, { repeated := 64 })] }, 7, 6, on (by decide +kernel), by decide +kernel⟩,
   ⟨State.reset, 0, 0, on (by decide +kernel), by decide +kernel⟩,
   ⟨{ State.reset with clocks := [(7, { ever := 2 })] }, 7, 1, on (by decide +kernel), by decide +kernel⟩,
   ⟨{ State.reset with clocks := [(7, { ever := 2 })] }, 7, 1, on (by decide +kernel), by decide +kernel⟩,
   ⟨{ State.reset with clocks := [(7, { ever := 2 })] }, 7, 1, on (by decide +kernel), by decide +kernel⟩,
   ⟨State.reset, 0, on (by decide +kernel)⟩,
   ⟨State.reset, 0, 0, takes (on (by decide +kernel)) (by decide +kernel), by decide +kernel⟩,
   ⟨wired [(15, 0, 0)] State.reset, 0, 1, takes (on (by decide +kernel)) (by decide +kernel), all_lt
     (by decide +kernel), by decide +kernel⟩,
   ⟨State.reset, 0, 2, 1, takes (on (by decide +kernel)) (by decide +kernel), by decide +kernel⟩⟩

theorem witness_RingMembership :
    (∃ (s : State) (port : Nat), s.powered = true ∧ port < 2 ∧ s.portEnabled port = true ∧ s.portUp port = false) ∧
    (∃ (s : State) (port : Nat), s.powered = true ∧ port < 2 ∧ s.portUp port = true ∧ s.portEnabled port = true) ∧
    (∃ (s : State) (port : Nat), s.powered = true ∧ port < 2 ∧ s.portUp port = true) ∧
    (∃ (s : State) (port : Nat) (h : Header) (r : RollInfo) (t : _), s.powered = true ∧ t = (s.modPeer h.src fun x =>
      x.hopsBy port (h.hops + 1)).relay .rollFrame port h (rollData r) ∧ port < 2 ∧ s.portUp port = true ∧ h.src ≠
      s.seat ∧ h.hops < 1023 ∧ (s.modPeer h.src fun x => x.hopsBy port (h.hops + 1)).freshFrame h = true ∧ (s.modPeer
      h.src fun x => x.hopsBy port (h.hops + 1)).portUp port = true ∧ (Nat.land (t.peer h.src).info.ports r.ports =
      (t.peer h.src).info.ports ∨ (t.peer h.src).heard = false)) ∧
    (∃ (s : State) (port : Nat) (h : Header) (r : RollInfo) (t : State), s.powered = true ∧ t = (s.modPeer s.seat fun
      x => { x with lastAt := s.timebase }) ∧ port < 2 ∧ s.portUp port = true ∧ h.hops < 1023 ∧ h.src = s.seat ∧
      s.haling.lastRoll ≠ some r ∧ s.haling.duplicate = false) ∧
    (∃ (s : State), s.powered = true ∧ s.inGroup = true) ∧
    (∃ (s : State) (port : Nat) (h : Header) (r : RollInfo) (seats : List Nat) (d : Int) (w : Int) (seq : Nat) (x :
      StateInfo), s.powered = true ∧ 1023 ≤ h.hops) ∧
    (∃ (s : State) (port : Nat) (h : Header) (r : RollInfo) (seats : List Nat) (d : Int) (w : Int) (seq : Nat) (x :
      StateInfo), s.powered = true ∧ 1023 ≤ h.hops) ∧
    (∃ (s : State) (port : Nat) (h : Header) (r : RollInfo) (seats : List Nat) (d : Int) (w : Int) (seq : Nat) (x :
      StateInfo), s.powered = true ∧ 1023 ≤ h.hops) ∧
    (∃ (s : State) (port : Nat) (h : Header) (r : RollInfo) (seats : List Nat) (d : Int) (w : Int) (seq : Nat) (x :
      StateInfo), s.powered = true ∧ 1023 ≤ h.hops) ∧
    (∃ (s : State) (port : Nat) (h : Header) (r : RollInfo) (seats : List Nat) (d : Int) (w : Int) (seq : Nat) (x :
      StateInfo), s.powered = true ∧ 1023 ≤ h.hops) ∧
    (∃ (s : State) (port : Nat) (h : Header) (r : RollInfo) (seats : List Nat) (d : Int) (w : Int) (seq : Nat) (x :
      StateInfo), s.powered = true ∧ 1023 ≤ h.hops) ∧
    (∃ (s : State) (port : Nat) (h : Header) (seats : List Nat) (d : Int) (t : _), s.powered = true ∧ t = s.relay
      .censusFrame port h (ofSigned 64 d :: seats) ∧ port < 2 ∧ s.portUp port = true ∧ h.hops < 1023 ∧ s.freshFrame h
      = true ∧ follows16 h.gen t.haling.generation = true ∧ seats.contains t.seat = true ∧ t.haling.roll ≠ .minority) ∧
    (∃ (s : State), s.powered = true ∧ s.inGroup = true ∧ s.isHomeroom = true) ∧
    (∃ (s : State) (seat : Nat) (t : _), s.powered = true ∧ t = ((s.advanceTo ((s.peer seat).lastAt + 30 *
      ticksPerMs)).modPeer seat fun x =>
      { x with heard := false, hopsA := none, hopsB := none, restart := false, listener := false }) ∧ seat ≠ s.seat ∧
      (s.peer seat).heard = true ∧ t.haling.census.contains seat = true ∧ (t.holdForLink.haling.roll ≠ .listener ∨
      t.holdForLink.haling.homeroom ≠ seat)) :=
  ⟨⟨cfgs [(0x3900, 6, 1)] State.reset, 1, on (by decide +kernel), by decide +kernel⟩,
   ⟨inGroupOf 0, 1, on (by decide +kernel), by decide +kernel⟩,
   ⟨inGroupOf 0, 1, on (by decide +kernel), by decide +kernel⟩,
   ⟨inGroupOf 0, 1, ({ src := 1023, hops := 1022 }), ({}), _, on (by decide +kernel), rfl, by decide +kernel⟩,
   ⟨inGroupOf 0, 1, ({ src := 0 }), ({}), _, on (by decide +kernel), rfl, by decide +kernel⟩,
   ⟨inGroupOf 0, on (by decide +kernel), by decide +kernel⟩,
   ⟨State.reset, 1, ({ src := 1, hops := 1023 }), ({}), (([] : List Nat)), ((0 : Int)), ((0 : Int)), 0, (({} :
     StateInfo)), on (by decide +kernel), by decide +kernel⟩,
   ⟨State.reset, 1, ({ src := 1, hops := 1023 }), ({}), (([] : List Nat)), ((0 : Int)), ((0 : Int)), 0, (({} :
     StateInfo)), on (by decide +kernel), by decide +kernel⟩,
   ⟨State.reset, 1, ({ src := 1, hops := 1023 }), ({}), (([] : List Nat)), ((0 : Int)), ((0 : Int)), 0, (({} :
     StateInfo)), on (by decide +kernel), by decide +kernel⟩,
   ⟨State.reset, 1, ({ src := 1, hops := 1023 }), ({}), (([] : List Nat)), ((0 : Int)), ((0 : Int)), 0, (({} :
     StateInfo)), on (by decide +kernel), by decide +kernel⟩,
   ⟨State.reset, 1, ({ src := 1, hops := 1023 }), ({}), (([] : List Nat)), ((0 : Int)), ((0 : Int)), 0, (({} :
     StateInfo)), on (by decide +kernel), by decide +kernel⟩,
   ⟨State.reset, 1, ({ src := 1, hops := 1023 }), ({}), (([] : List Nat)), ((0 : Int)), ((0 : Int)), 0, (({} :
     StateInfo)), on (by decide +kernel), by decide +kernel⟩,
   ⟨inGroupOf 1, 1, ({ src := 1023, hops := 1022, gen := 1 }), ([0, 1023]), 0, _, on (by decide +kernel), rfl,
     by decide +kernel⟩,
   ⟨inGroupOf 0, on (by decide +kernel), by decide +kernel⟩,
   ⟨inGroupOf 0 { census := [0, 1023], peers := [(1023, { heard := true })] }, 1023, _, on (by decide +kernel), rfl,
     by decide +kernel⟩⟩

theorem witness_GroupTimeFrames :
    (∃ (s : State) (port : Nat) (h : Header) (time : Nat), s.powered = true ∧ port < 2) ∧
    (∃ (s : State), s.powered = true ∧ s.portUp 0 = true) ∧
    (∃ (s : State), s.powered = true ∧ s.portUp 1 = true) ∧
    (∃ (s : State) (h : Header) (t1 : Nat) (t2 : Nat) (t3 : Nat) (time : Nat) (t : _) (err : _), s.powered = true ∧ t
      = { s with haling := { s.haling with portA := { s.haling.portA with syncSent := none } } } ∧ err = 625 *
      toSigned 64 time + oneWay t1 t2 t3 t.timebase (t.asymmetry 0) - t.group16 * 625 / 65536 ∧ s.portUp 0 = true ∧
      s.haling.portA.syncSent = some t1 ∧ t.isHomeroom = false ∧ t.upstream = 0 ∧ t.haling.roll ≠ .minority) ∧
    (∃ (s : State) (h : Header) (t1 : Nat) (t2 : Nat) (t3 : Nat) (time : Nat) (t : _) (err : _), s.powered = true ∧ t
      = { s with haling := { s.haling with portB := { s.haling.portB with syncSent := none } } } ∧ err = 625 *
      toSigned 64 time + oneWay t1 t2 t3 t.timebase (t.asymmetry 1) - t.group16 * 625 / 65536 ∧ s.portUp 1 = true ∧
      s.haling.portB.syncSent = some t1 ∧ t.isHomeroom = false ∧ t.upstream = 1 ∧ t.haling.roll ≠ .minority) ∧
    (∃ (s : State) (port : Nat) (h : Header) (w : Int) (t : _), s.powered = true ∧ t = s.relay .alignFrame port h
      [ofSigned 64 w] ∧ port < 2 ∧ s.portUp port = true ∧ h.hops < 1023 ∧ s.freshFrame h = true ∧ t.inGroup = true ∧
      t.isHomeroom = false ∧ h.src = t.haling.homeroom ∧ t.haling.roll ≠ .listener ∧ t.alignRest = true) ∧
    (∃ (s : State), s.powered = true ∧ s.inGroup = true ∧ s.isHomeroom = true ∧ s.alignRest = true) :=
  ⟨⟨State.reset, 1, ({ src := 1 }), 0, on (by decide +kernel), by decide +kernel⟩,
   ⟨inGroupOf 0, on (by decide +kernel), by decide +kernel⟩,
   ⟨inGroupOf 0, on (by decide +kernel), by decide +kernel⟩,
   ⟨inGroupOf 1 { portA := { syncSent := some 0 }, peers := [(1, { hopsA := some 1 })] }, ({ src := 1 }), 0, 0, 0, 0,
     _, _, on (by decide +kernel), rfl, rfl, by decide +kernel⟩,
   ⟨inGroupOf 1 { portB := { syncSent := some 0 }, peers := [(1, { hopsB := some 1 })] }, ({ src := 1 }), 0, 0, 0, 0,
     _, _, on (by decide +kernel), rfl, rfl, by decide +kernel⟩,
   ⟨inGroupOf 1023, 0, ({ src := 1023, hops := 1022 }), (-65536), _, on (by decide +kernel), rfl, by decide +kernel⟩,
   ⟨inGroupOf 0, on (by decide +kernel), by decide +kernel⟩⟩

theorem witness_GroupFrames :
    (∃ (s : State) (port : Nat) (h : Header) (seq : Nat) (ready : Bool) (origin : Nat) (hg : Nat) (restart : Bool) (t
      : _), s.powered = true ∧ t = { s with
        haling := { s.haling with
          votes := mapSet none s.haling.votes (h.src * 2 ^ 32 + seq) (if ready then some (ofSigned 64 origin, hg) else
            none) } } ∧ port < 2 ∧ s.portUp port = true ∧ h.hops < 1023 ∧ h.dest = s.seat ∧ s.inGroup = true ∧
      s.isHomeroom = true) ∧
    (∃ (s : State) (port : Nat) (h : Header) (seq : Nat) (i : Nat) (t : _), s.powered = true ∧ t = s.relay
      .commitFrame port h [seq] ∧ port < 2 ∧ s.portUp port = true ∧ h.hops < 1023 ∧ s.freshFrame h = true ∧ t.inGroup
      = true ∧ h.src = t.haling.homeroom ∧ t.haling.roll ≠ .listener ∧ t.openPanel seq = some i ∧ (t.slot i).state =
      .resident ∧ (t.tt.state = .reversing ∨ t.tt.state = .waiting ∨ t.w < t.deadlineAt i) ∧ (t.modSlot i fun p =>
      { p with commitMsg := true }).commitable i = true) ∧
    (∃ (s : State) (port : Nat) (h : Header) (seq : Nat), s.powered = true ∧ port < 2 ∧ s.portUp port = true ∧ h.hops
      < 1023 ∧ h.bcast = false ∧ h.dest = s.seat) ∧
    (∃ (s : State) (port : Nat) (h : Header) (seq : Nat) (t : _), s.powered = true ∧ t = s.relay .lateFrame port h
      [seq] ∧ port < 2 ∧ s.portUp port = true ∧ h.hops < 1023 ∧ h.bcast = true ∧ s.freshFrame h = true ∧ t.inGroup =
      true ∧ h.src = t.haling.homeroom) ∧
    (∃ (s : State) (port : Nat) (h : Header) (x : StateInfo) (t : _) (u : _), s.powered = true ∧ t = s.relay
      .stateFrame port h [x.state, ofSigned 64 x.wd, ofSigned 64 x.wrest, realOf x.vr, b2n x.reached, ofSigned 64
      x.delta] ∧ u = State.followState { t with haling := { t.haling with last := x } } x ∧ port < 2 ∧ s.portUp port =
      true ∧ h.hops < 1023 ∧ s.freshFrame h = true ∧ t.inGroup = true ∧ t.isHomeroom = false ∧ h.src =
      t.haling.homeroom ∧ t.haling.roll ≠ .minority ∧ t.haling.roll ≠ .listener ∧ x.delta = 0 ∧ u.tt.state ≠ .halting
      ∧ u.tt.state ≠ .ending) ∧
    (∃ (s : State), s.powered = true ∧ s.inGroup = true ∧ s.isHomeroom = true ∧ s.tt.state ≠ .idle) ∧
    (∃ (s : State) (port : Nat) (h : Header) (wrest : Nat), s.powered = true ∧ port < 2 ∧ s.portUp port = true ∧
      h.hops < 1023 ∧ h.dest = s.seat ∧ s.inGroup = true ∧ s.isHomeroom = true) ∧
    (∃ (s : State) (port : Nat) (h : Header) (station : Nat) (side : Nat) (err : Int) (locked : Bool) (t : _),
      s.powered = true ∧ t = s.relay .stitchFrame port h [station, side, ofSigned 32 err, b2n locked] ∧ port < 2 ∧
      s.portUp port = true ∧ h.hops < 1023 ∧ s.freshFrame h = true) ∧
    (∃ (s : State) (j : JoinInfo), s.powered = true ∧ s.inGroup = true ∧ s.joinsOf = [j]) ∧
    (∃ (s : State), s.powered = true ∧ s.inGroup = true ∧ s.joinsOf = []) ∧
    (∃ (s : State) (port : Nat) (h : Header) (index : Nat) (sub : Nat) (bytes : List Nat) (t : _), s.powered = true ∧
      t = s.readObject index sub ∧ port < 2 ∧ s.portUp port = true ∧ h.hops < 1023 ∧ h.dest = s.seat ∧ leadAwake s =
      true ∧ s.answers = true ∧ s.flash.recovery = false ∧ t.resp = none) ∧
    (∃ (s : State) (port : Nat) (h : Header) (index : Nat) (sub : Nat) (bytes : List Nat) (t : _) (a : _), s.powered =
      true ∧ t = s.readObject index sub ∧ port < 2 ∧ s.portUp port = true ∧ h.hops < 1023 ∧ h.dest = s.seat ∧
      leadAwake s = true ∧ s.answers = true ∧ s.flash.recovery = false ∧ t.resp = some a) ∧
    (∃ (s : State) (port : Nat) (h : Header) (index : Nat) (sub : Nat) (bytes : List Nat) (t : _), s.powered = true ∧
      t = (s.writeFor (.tunnel h.src) index sub bytes).1 ∧ port < 2 ∧ s.portUp port = true ∧ h.hops < 1023 ∧ h.dest =
      s.seat ∧ leadAwake s = true ∧ s.answers = true ∧ s.flash.recovery = false ∧ (s.writeFor (.tunnel h.src) index
      sub bytes).2 = false) ∧
    (∃ (s : State) (port : Nat) (h : Header) (index : Nat) (sub : Nat) (bytes : List Nat) (t : _), s.powered = true ∧
      t = (s.writeFor (.tunnel h.src) index sub bytes).1 ∧ port < 2 ∧ s.portUp port = true ∧ h.hops < 1023 ∧ h.dest =
      s.seat ∧ leadAwake s = true ∧ s.answers = true ∧ s.flash.recovery = false ∧ (s.writeFor (.tunnel h.src) index
      sub bytes).2 = true) ∧
    (∃ (s : State) (port : Nat) (h : Header) (result : Nat) (bytes : List Nat), s.powered = true ∧ leadAwake s = true
      ∧ port < 2 ∧ s.portUp port = true ∧ h.hops < 1023 ∧ h.dest = s.seat ∧ s.haling.tunnel.busy = true ∧ h.src =
      s.haling.tunnel.seat ∧ (result ≠ 0 ∨ (s.endTunnel result).haling.tunnel.reads = false)) ∧
    (∃ (s : State) (port : Nat) (h : Header) (bytes : List Nat), s.powered = true ∧ leadAwake s = true ∧ port < 2 ∧
      s.portUp port = true ∧ h.hops < 1023 ∧ h.dest = s.seat ∧ s.haling.tunnel.busy = true ∧ h.src =
      s.haling.tunnel.seat ∧ (s.endTunnel 0).haling.tunnel.reads = true) ∧
    (∃ (s : State) (t : _), commanded s 0x3908 = true ∧ t = { s with
        haling := { s.haling with
          tunnel := {
            busy := true, since := s.timebase, result := 0, seat := s.cfg 0x3908 1, reads := decide (s.cfg 0x3908 4 =
              1) } } } ∧ s.haling.tunnel.busy = false ∧ (t.peer (s.cfg 0x3908 1)).heard = true) ∧
    (∃ (s : State) (t : _), commanded s 0x3908 = true ∧ t = { s with
        haling := { s.haling with
          tunnel := {
            busy := true, since := s.timebase, result := 0, seat := s.cfg 0x3908 1, reads := decide (s.cfg 0x3908 4 =
              1) } } } ∧ s.haling.tunnel.busy = false ∧ (t.peer (s.cfg 0x3908 1)).heard = false) ∧
    (∃ (s : State), s.powered = true ∧ s.haling.tunnel.busy = true) :=
  ⟨⟨inGroupOf 0, 0, ({ src := 1023, hops := 1022 }), 1, true, 0, 32, false, _, on (by decide +kernel), rfl,
     by decide +kernel⟩,
   ⟨panel 31 { state := .resident, mask := 1, seq := 7, origin := 2 ^ 40 } (tts .running (inGroupOf 1023)), 0,
     ({ src := 1023, hops := 1022 }), 7, 31, _, on (by decide +kernel), rfl, by decide +kernel⟩,
   ⟨tts .running (inGroupOf 0), 0, ({ src := 1023, hops := 1022, dest := 0, bcast := false }), 7, on
     (by decide +kernel), by decide +kernel⟩,
   ⟨inGroupOf 1023, 0, ({ src := 1023, hops := 1022, bcast := true, fseq := 1 }), 7, _, on (by decide +kernel), rfl,
     by decide +kernel⟩,
   ⟨inGroupOf 1023, 0, ({ src := 1023, hops := 1022 }), ({}), _, _, on (by decide +kernel), rfl, rfl,
     by decide +kernel⟩,
   ⟨tts .running (inGroupOf 0), on (by decide +kernel), by decide +kernel⟩,
   ⟨inGroupOf 0, 0, ({ src := 1023, hops := 1022 }), 0, on (by decide +kernel), by decide +kernel⟩,
   ⟨inGroupOf 0, 0, ({ src := 1023, hops := 1022 }), 7, 1, (-1), true, _, on (by decide +kernel), rfl,
     by decide +kernel⟩,
   ⟨cfgs [(0x2817, 1, 1)] (inGroupOf 0),
     ({ side := 0, station := 7, peer := 0, overlap := 32, ramp := 0, tile := 0 }), on (by decide +kernel),
     by decide +kernel⟩,
   ⟨inGroupOf 0, on (by decide +kernel), by decide +kernel⟩,
   ⟨inGroupOf 0, 0, ({ src := 1023, hops := 1022 }), 0x3800, 1, (([] : List Nat)), _, on (by decide +kernel), rfl,
     by decide +kernel⟩,
   ⟨inGroupOf 0, 0, ({ src := 1023, hops := 1022 }), 0x1234, 0, (([] : List Nat)), _, Abort.noObject, on
     (by decide +kernel), rfl, by decide +kernel⟩,
   ⟨inGroupOf 0, 0, ({ src := 1023, hops := 1022 }), 0x3900, 4, ([1, 0]), _, on (by decide +kernel), rfl,
     by decide +kernel⟩,
   ⟨inGroupOf 0, 0, ({ src := 1023, hops := 1022 }), 0x4300, 5, ([1]), _, on (by decide +kernel), rfl,
     by decide +kernel⟩,
   ⟨inGroupOf 0 { tunnel := { busy := true } }, 0, ({ src := 0, hops := 1022 }), 1, (([] : List Nat)), on
     (by decide +kernel), by decide +kernel⟩,
   ⟨inGroupOf 0 { tunnel := { busy := true, reads := true } }, 0, ({ src := 0, hops := 1022 }), ([1]), on
     (by decide +kernel), by decide +kernel⟩,
   ⟨inGroupOf 0 { peers := [(0, { heard := true })] }, _, takes (on (by decide +kernel)) (by decide +kernel), rfl,
     by decide +kernel⟩,
   ⟨State.reset, _, takes (on (by decide +kernel)) (by decide +kernel), rfl, by decide +kernel⟩,
   ⟨inGroupOf 0 { tunnel := { busy := true } }, on (by decide +kernel), by decide +kernel⟩⟩

theorem witness_HazardCommands :
    (∃ (s : State) (src : Nat) (k : Nat), s.powered = true ∧ src < 8 ∧ s.pairOf src = some k) ∧
    (∃ (s : State) (src : Nat), s.powered = true ∧ src < 10 ∧ s.pairOf src = none) ∧
    (∃ (s : State) (cause : Nat), s.powered = true) ∧
    (∃ (s : State) (src : Nat), s.powered = true ∧ src < 10 ∧ bit s.hazard.present src = true ∧ s.pairOf src = none) ∧
    (∃ (s : State) (src : Nat) (k : Nat), s.powered = true ∧ src < 10 ∧ bit s.hazard.present src = true ∧ s.pairOf src
      = some k) ∧
    (∃ (s : State) (src : Nat) (u : Nat) (t : _), s.powered = true ∧ t = s.advanceTo (u - 1 + s.cfg 0x4000 9 *
      ticksPerMs) ∧ src < 10 ∧ mapGet 0 s.hazard.clearSince src = u ∧ u ≠ 0 ∧ s.pairOf src = none ∧ bit (s.cfg 0x4000
      6) src = true ∧ bit s.hazard.present src = false ∧ bit s.hazard.sources src = true ∧ setBit s.hazard.sources src
      false ≠ 0) ∧
    (∃ (s : State) (src : Nat) (u : Nat) (t : _), s.powered = true ∧ t = s.advanceTo (u - 1 + s.cfg 0x4000 9 *
      ticksPerMs) ∧ src < 10 ∧ mapGet 0 s.hazard.clearSince src = u ∧ u ≠ 0 ∧ s.pairOf src = none ∧ bit (s.cfg 0x4000
      6) src = true ∧ bit s.hazard.present src = false ∧ bit s.hazard.sources src = true ∧ setBit s.hazard.sources src
      false = 0 ∧ s.hazard.active = true ∧ s.anyBlocked = false ∧ s.faults.fatal = false) ∧
    (∃ (s : State) (pair : Nat) (u : Nat) (t : _), s.powered = true ∧ t = ((s.advanceTo (u + s.discrepancy +
      1)).modPair pair fun p => { p with blocked := true, bothDemanded := false, demandAt := none, clearAt := none })
      ∧ pair < 4 ∧ (s.pair pair).disagreeSince = some u ∧ bit (s.cfg 0x4000 7) pair = true ∧ (s.pair pair).blocked =
      false) ∧
    (∃ (s : State), commanded s 0x4000 = true ∧ s.sourcesQuiet = true ∧ s.faults.fatal = false ∧ s.anyBlocked = false
      ∧ s.hazard.active = true) ∧
    (∃ (s : State), commanded s 0x4000 = true ∧ s.sourcesQuiet = true ∧ s.faults.fatal = false ∧ s.anyBlocked = false
      ∧ s.hazard.active = false) ∧
    (∃ (s : State) (port : Nat) (origin : Nat) (hops : Nat) (t : _), s.powered = true ∧ t = { s with
        haling := { s.haling with
          hazardSets := wrapInc 32 s.haling.hazardSets, origins := mapSet 0 s.haling.origins origin (s.timebase + 1) }
          } ∧ port < 2 ∧ s.portUp port = true ∧ origin ≠ s.seat) ∧
    (∃ (s : State), s.powered = true ∧ s.hazard.active = true ∧ setBit s.hazard.sources 9 false ≠ 0) ∧
    (∃ (s : State) (origin : Nat) (t : Nat) (left : _) (u : State), s.powered = true ∧ u = s.advanceTo (t - 1 + 2 *
      ticksPerUs) ∧ mapGet 0 s.haling.origins origin = t ∧ t ≠ 0 ∧ left = mapSet 0 s.haling.origins origin 0 ∧ left ≠
      []) ∧
    (∃ (s : State) (origin : Nat) (t : Nat) (u : State), s.powered = true ∧ u = s.advanceTo (t - 1 + 2 * ticksPerUs) ∧
      mapGet 0 s.haling.origins origin = t ∧ t ≠ 0 ∧ mapSet 0 s.haling.origins origin 0 = []) ∧
    (∃ (s : State) (t : _) (u : _) (v : _), s.powered = true ∧ t = (upTo 32).foldl State.settleLaser (s.toRoll
      .minority) ∧ u = ((t.hv.map (·.1)).foldl State.hvOff t).zonesToSetback ∧ v = (u.axes.map (·.1)).foldl (fun s a
      => if s.webAxis = some a ∨ ((s.axis a).state ≠ .moving ∧ (s.axis a).state ≠ .geared ∧ (s.axis a).state ≠
      .tension) then s else s.beginAxisHalt a 0) u ∧ s.inGroup = true ∧ (s.haling.census.any fun x => !s.half.contains
      x) = true ∧ s.quorum = false ∧ s.haling.roll ≠ .minority ∧ s.slotsWhere SlotState.isCommitted = [] ∧ s.webQuiet
      = true ∧ (v.stopTimetable 4).tt.state ≠ .idle) :=
  ⟨⟨cfgs [(0x4000, 7, 8)] State.reset, 7, 3, on (by decide +kernel), by decide +kernel⟩,
   ⟨State.reset, 0, on (by decide +kernel), by decide +kernel⟩,
   ⟨State.reset, 4, on (by decide +kernel)⟩,
   ⟨{ State.reset with hazard := { present := 512 } }, 9, on (by decide +kernel), by decide +kernel⟩,
   ⟨cfgs [(0x4000, 7, 8)] { State.reset with hazard := { present := 128 } }, 7, 3, on (by decide +kernel),
     by decide +kernel⟩,
   ⟨cfgs [(0x4000, 6, 512)] { State.reset with hazard := { active := true, sources := 513, clearSince := [(9, 1)] } },
     9, 1, _, on (by decide +kernel), rfl, by decide +kernel⟩,
   ⟨cfgs [(0x4000, 6, 512)] { State.reset with hazard := { active := true, sources := 512, clearSince := [(9, 1)] } },
     9, 1, _, on (by decide +kernel), rfl, by decide +kernel⟩,
   ⟨cfgs [(0x4000, 7, 8)] { State.reset with hazard := { pairs := [(3, { disagreeSince := some 0 })] } }, 3, 0, _, on
     (by decide +kernel), rfl, by decide +kernel⟩,
   ⟨{ State.reset with hazard := { active := true, sources := 1 } }, takes (on (by decide +kernel))
     (by decide +kernel), by decide +kernel⟩,
   ⟨State.reset, takes (on (by decide +kernel)) (by decide +kernel), by decide +kernel⟩,
   ⟨inGroupOf 0, 1, 1023, 1022, _, on (by decide +kernel), rfl, by decide +kernel⟩,
   ⟨{ State.reset with hazard := { active := true, sources := 1 } }, on (by decide +kernel), by decide +kernel⟩,
   ⟨inGroupOf 0 { origins := [(1, 1), (1023, 5)] }, 1023, 5, ([(1, 1)]), _, on (by decide +kernel), rfl,
     by decide +kernel⟩,
   ⟨inGroupOf 0 { origins := [(1023, 5)] }, 1023, 5, _, on (by decide +kernel), rfl, by decide +kernel⟩,
   ⟨tts .waiting (inGroupOf 0 { census := [0, 1, 2], lastComplete := [0, 1, 2], former := some 0 }), _, _, _, on
     (by decide +kernel), rfl, rfl, rfl, by decide +kernel⟩⟩

theorem witness_FusesAndSeal :
    (∃ (s : State) (die : Nat) (top : Nat), commanded s 0x4018 = true ∧ fuseField s.fuses.targetIndex
      s.fuses.targetSub = some (die, top) ∧ s.present die = true ∧ s.fuses.value ≤ top ∧ s.sealed.on = false ∧
      s.nmt.state = .preOperational ∧ s.hazard.active = true ∧ (s.fuseOf (odKey s.fuses.targetIndex
      s.fuses.targetSub)).locked = false ∧ s.fuses.busy = none) ∧
    (∃ (s : State) (k : Nat) (v : Nat), s.powered = true ∧ s.fuses.busy = some (k, v)) ∧
    (∃ (s : State) (k : Nat) (v : Nat) (a : Nat) (b : Nat), s.powered = true ∧ s.fuses.busy = some (k, v) ∧ (a ≠ v ∨ b
      ≠ v)) ∧
    (∃ (s : State), commanded s 0x4008 = true ∧ s.nmt.state = .preOperational ∧ s.sealed.on = false) :=
  ⟨⟨{ State.reset with
       hazard := { active := true }, fuses := { targetIndex := 0x4010, targetSub := 8, value := 4095 } }, 7, 4095,
     takes (on (by decide +kernel)) (by decide +kernel), by decide +kernel⟩,
   ⟨{ State.reset with fuses := { busy := some (0x4010 * 256 + 8, 4095) } }, (0x4010 * 256 + 8), 4095, on
     (by decide +kernel), by decide +kernel⟩,
   ⟨{ State.reset with fuses := { busy := some (0x4010 * 256 + 8, 4095) } }, (0x4010 * 256 + 8), 4095, 4095, 0, on
     (by decide +kernel), by decide +kernel⟩,
   ⟨State.reset, takes (on (by decide +kernel)) (by decide +kernel), by decide +kernel⟩⟩

theorem witness_FaultCommands :
    (∃ (s : State) (codes : List Nat), s.powered = true) ∧
    (∃ (s : State) (t : Nat) (u : State), s.powered = true ∧ u = s.advanceTo t ∧ s.faults.pulseEnd = some t) ∧
    (∃ (s : State), commanded s 0x4100 = true ∧ s.faults.fatal = false) ∧
    (∃ (s : State), s.powered = true ∧ s.drivesFaultn = false) ∧
    (∃ (s : State), s.powered = true ∧ s.drivesFaultn = true) ∧
    (∃ (s : State), commanded s 0x4100 = true) ∧
    (∃ (s : State) (die : Nat) (cause : Nat), s.powered = true ∧ s.present die = true ∧ cause < 1024 ∧ knownCause 0x03
      cause = true) ∧
    (∃ (s : State) (die : Nat), s.powered = true ∧ s.present die = true ∧ (s.heat die).recess = false) ∧
    (∃ (s : State), s.powered = true ∧ s.dies.moving = true) ∧
    (∃ (s : State), commanded s 0x4108 = true ∧ injectable.contains (codeUnit (s.cfg 0x4108 1), codeCause (s.cfg
      0x4108 1)) = true ∧ s.targetPresent (s.cfg 0x4108 1) = true ∧ s.inject.status ≠ 1 ∧ (s.nmt.state ≠ .operational
      ∨ s.tt.state = .idle)) ∧
    (∃ (s : State), commanded s 0x4108 = true ∧ injectable.contains (codeUnit (s.cfg 0x4108 1), codeCause (s.cfg
      0x4108 1)) = true ∧ s.targetPresent (s.cfg 0x4108 1) = false) ∧
    (∃ (s : State), commanded s 0x4108 = true ∧ s.inject.status = 1) ∧
    (∃ (s : State), commanded s 0x4108 = true ∧ s.inject.status ≠ 1) ∧
    (∃ (s : State) (n : Nat), s.powered = true ∧ n < 192 ∧ (s.cfg (0x5000 + n) 1 / 2 ^ 24 = 5 ∨ s.cfg (0x5000 + n) 1 /
      2 ^ 24 = 8)) ∧
    (∃ (s : State) (n : Nat), s.powered = true ∧ 192 ≤ n ∧ n < 224 ∧ (s.cfg (0x5000 + n) 1 / 2 ^ 24 = 5 ∨ s.cfg
      (0x5000 + n) 1 / 2 ^ 24 = 8)) ∧
    (∃ (s : State) (die : Nat), s.powered = true ∧ s.fitted die = true) :=
  ⟨⟨State.reset, ([faultCode 1 1 0 0 2]), on (by decide +kernel)⟩,
   ⟨{ State.reset with faults := { pulseEnd := some 0 } }, 0, _, on (by decide +kernel), rfl, by decide +kernel⟩,
   ⟨State.reset, takes (on (by decide +kernel)) (by decide +kernel), by decide +kernel⟩,
   ⟨State.reset, on (by decide +kernel), by decide +kernel⟩,
   ⟨{ State.reset with faults := { fatal := true, latch := true } }, on (by decide +kernel), by decide +kernel⟩,
   ⟨State.reset, takes (on (by decide +kernel)) (by decide +kernel)⟩,
   ⟨State.reset, 0, 1, on (by decide +kernel), by decide +kernel⟩,
   ⟨State.reset, 0, on (by decide +kernel), by decide +kernel⟩,
   ⟨{ State.reset with dies := { moving := true } }, on (by decide +kernel), by decide +kernel⟩,
   ⟨cfgs [(0x4108, 1, faultCode 0 1 0 0 2)] State.reset, takes (on (by decide +kernel)) (by decide +kernel),
     by decide +kernel⟩,
   ⟨cfgs [(0x4108, 1, faultCode 0 1 7 0 2)] { State.reset with variant := .yk2c }, takes (on (by decide +kernel))
     (by decide +kernel), by decide +kernel⟩,
   ⟨{ State.reset with inject := { status := 1 } }, takes (on (by decide +kernel)) (by decide +kernel),
     by decide +kernel⟩,
   ⟨State.reset, takes (on (by decide +kernel)) (by decide +kernel), by decide +kernel⟩,
   ⟨wired [(5, 0, 0)] State.reset, 0, on (by decide +kernel), by decide +kernel⟩,
   ⟨cfgs [(0x50DF, 1, 8 * 2 ^ 24)] State.reset, 223, on (by decide +kernel), by decide +kernel⟩,
   ⟨State.reset, 0, on (by decide +kernel), by decide +kernel⟩⟩

theorem witness_SequencerEvents :
    (∃ (s : State) (t : State), t = { s with power := { s.power with vstby := true } } ∧ s.power.vstby = false ∧ t.cfg
      0x4200 3 = 1) ∧
    (∃ (s : State) (t : State), t = { s with power := { s.power with vstby := true } } ∧ s.power.vstby = false ∧ t.cfg
      0x4200 3 ≠ 1) ∧
    (∃ (s : State) (t : State), t = s.lose false) ∧
    (∃ (s : State) (r : Nat) (t : _), t = s.standbyTime ∧ s.power.seq = .powerUp ∧ (s.railsOf s.power.step).contains r
      = true) ∧
    (∃ (s : State) (readings : List Nat) (t : _) (j : Nat), t = (s.setReadings readings).standbyTime ∧ s.power.seq =
      .powerUp ∧ ((s.railsOf s.power.step).all fun r => bit s.power.enables r && (s.setReadings readings).inWindow r)
      = true ∧ t.stepAfter s.power.step = some j) ∧
    (∃ (s : State) (readings : List Nat) (t : _) (u : State), t = (s.setReadings readings).standbyTime ∧ u =
      t.putRecord 1 s.power.step clearedRec ∧ s.power.seq = .powerUp ∧ ((s.railsOf s.power.step).all fun r => bit
      s.power.enables r && (s.setReadings readings).inWindow r) = true ∧ t.stepAfter s.power.step = none) ∧
    (∃ (s : State) (r : Nat) (readings : List Nat) (t : _) (u : State), t = (s.setReadings readings).standbyTime ∧ u =
      { t with power := { t.power with pgTimeouts := setBit t.power.pgTimeouts r true } } ∧ s.power.seq = .powerUp ∧
      (s.railsOf s.power.step).contains r = true ∧ (s.setReadings readings).inWindow r = false) ∧
    (∃ (s : State) (readings : List Nat), s.power.seq = .shutDown ∧ ((s.railsOf s.power.step).all (s.setReadings
      readings).railDown) = true) ∧
    (∃ (s : State) (r : Nat) (readings : List Nat) (t : _) (u : State), t = (s.setReadings readings).standbyTime ∧ u =
      { t with power := { t.power with undischarged := setBit t.power.undischarged r true } } ∧ s.power.seq =
      .shutDown ∧ (s.railsOf s.power.step).contains r = true ∧ (s.setReadings readings).railDown r = false) ∧
    (∃ (s : State) (t : State), t = s.standbyTime) ∧
    (∃ (s : State) (falling : Bool), bit (s.cfg 0x4200 2) 0 = true ∧ bit (s.cfg 0x4200 2) 1 = falling) ∧
    (∃ (s : State), bit (s.cfg 0x4200 2) 2 = true) :=
  ⟨⟨cfgs [(0x4200, 3, 1)] { State.reset with power := { seq := .standby, vstby := false } }, _, rfl,
     by decide +kernel⟩,
   ⟨cfgs [(0x4200, 3, 0)] { State.reset with power := { seq := .standby, vstby := false } }, _, rfl,
     by decide +kernel⟩,
   ⟨State.reset, _, rfl⟩,
   ⟨{ State.reset with power := { seq := .powerUp, step := 3 } }, 5, _, rfl, by decide +kernel⟩,
   ⟨{ State.reset with power := { seq := .powerUp, step := 2, readings := [150, 180, 210, 95, 180, 180] } }, ([150,
     180, 210, 95, 180, 180]), _, 3, rfl, by decide +kernel⟩,
   ⟨{ State.reset with power := { seq := .powerUp, step := 3 } }, ([150, 180, 210, 100, 189, 171]), _, _, rfl, rfl,
     by decide +kernel⟩,
   ⟨{ State.reset with power := { seq := .powerUp, step := 3 } }, 5, ([150, 180, 210, 100, 189, 190]), _, _, rfl, rfl,
     by decide +kernel⟩,
   ⟨{ State.reset with power := { seq := .shutDown, step := 3 } }, ([150, 180, 210, 100, 20, 20]), by decide +kernel⟩,
   ⟨{ State.reset with power := { seq := .shutDown, step := 3 } }, 5, ([150, 180, 210, 100, 20, 21]), _, _, rfl, rfl,
     by decide +kernel⟩,
   ⟨State.reset, _, rfl⟩,
   ⟨State.reset, false, by decide +kernel⟩,
   ⟨cfgs [(0x4200, 2, 4)] { State.reset with power := { seq := .standby } }, by decide +kernel⟩⟩

theorem witness_PowerAndThermalCommands :
    (∃ (s : State) (r : Nat) (readings : List Nat) (t : _), s.powered = true ∧ t = s.setReadings readings ∧
      s.power.seq = .on ∧ r < 8 ∧ s.railRole r = 1 ∧ t.inWindow r = false) ∧
    (∃ (s : State) (r : Nat) (readings : List Nat) (t : _), t = s.setReadings readings ∧ s.powered = true ∧
      s.power.seq = .on ∧ r < 8 ∧ t.inWindow r = false ∧ s.railRole r = 2) ∧
    (∃ (s : State) (r : Nat) (readings : List Nat) (t : _), t = s.setReadings readings ∧ s.powered = true ∧
      s.power.seq = .on ∧ r < 8 ∧ t.inWindow r = false ∧ s.railRole r = 3) ∧
    (∃ (s : State) (r : Nat) (readings : List Nat) (t : _), t = s.setReadings readings ∧ s.powered = true ∧
      s.power.seq = .on ∧ r < 8 ∧ t.inWindow r = false ∧ s.railRole r = 4) ∧
    (∃ (s : State) (r : Nat) (readings : List Nat) (t : _), t = s.setReadings readings ∧ s.powered = true ∧
      s.power.seq = .on ∧ r < 8 ∧ t.inWindow r = false ∧ s.railRole r = 5) ∧
    (∃ (s : State) (r : Nat) (readings : List Nat) (t : _), t = s.setReadings readings ∧ s.powered = true ∧
      s.power.seq = .on ∧ r < 8 ∧ t.inWindow r = false ∧ s.railRole r = 6) ∧
    (∃ (s : State) (die : Nat) (p : Nat) (b : Nat), s.powered = true ∧ s.present die = true ∧ (s.heat die).bias = some
      b) ∧
    (∃ (s : State), s.powered = true ∧ s.power.grace = true) ∧
    (∃ (s : State) (diodes : _) (readings : List Nat) (clockBad : Nat) (t : _) (u : State) (v : State), s.powered =
      true ∧ t = State.setReadings (s.presentDies.foldl State.leaveRecess s) (readings.take 8) ∧ u =
      { t with power := { t.power with supplies := readings.drop 8 } } ∧ v = u.presentDies.foldl (fun s d =>
      s.readDiodes diodes d) u) ∧
    (∃ (s : State) (die : Nat) (t : Nat), s.powered = true ∧ (s.heat die).hotSince = some t ∧ s.present die = true) ∧
    (∃ (s : State) (die : Nat) (t : _), s.powered = true ∧ t = (s.modHeat die fun x =>
      { x with recess := true, recesses := wrapInc 32 x.recesses }) ∧ s.present die = true ∧ (s.heat die).recess =
      false ∧ t.allInRecess = false) ∧
    (∃ (s : State) (die : Nat) (t : _) (u : _), s.powered = true ∧ t = (s.modHeat die fun x =>
      { x with recess := true, recesses := wrapInc 32 x.recesses }) ∧ u = t.traceMarker 1 0 ∧ s.present die = true ∧
      (s.heat die).recess = false ∧ t.allInRecess = true ∧ t.trace.paused = false) ∧
    (∃ (s : State) (die : Nat) (t : _), s.powered = true ∧ t = (s.modHeat die fun x => { x with recess := false }) ∧
      (s.heat die).recess = true ∧ t.trace.paused = false) ∧
    (∃ (s : State) (die : Nat) (t : _), s.powered = true ∧ t = (s.modHeat die fun x => { x with recess := false }) ∧
      (s.heat die).recess = true ∧ t.trace.paused = true) ∧
    (∃ (s : State) (t : State) (u : State), commanded s 0x4200 = true ∧ t = s.traceMarker 3 0 ∧ u =
      { t with power := { t.power with tail := t.traceLast 64 } } ∧ (s.tt.state = .idle ∨ s.tt.state = .stopped) ∧
      s.flash.queue = [] ∧ s.power.seq = .on ∧ s.faults.fatal = false ∧ u.faults.fatal = false) :=
  ⟨⟨State.reset, 0, ([]), _, on (by decide +kernel), rfl, by decide +kernel⟩,
   ⟨cfgs [(0x4208, 1, 2)] State.reset, 7, ([1, 1, 1, 1, 1, 1, 1, 1]), _, rfl, by decide +kernel⟩,
   ⟨cfgs [(0x4208, 1, 3)] State.reset, 7, ([1, 1, 1, 1, 1, 1, 1, 1]), _, rfl, by decide +kernel⟩,
   ⟨cfgs [(0x4208, 1, 4)] State.reset, 7, ([1, 1, 1, 1, 1, 1, 1, 1]), _, rfl, by decide +kernel⟩,
   ⟨cfgs [(0x4208, 1, 5)] State.reset, 7, ([1, 1, 1, 1, 1, 1, 1, 1]), _, rfl, by decide +kernel⟩,
   ⟨cfgs [(0x4208, 1, 6)] State.reset, 7, ([1, 1, 1, 1, 1, 1, 1, 1]), _, rfl, by decide +kernel⟩,
   ⟨{ State.reset with thermal := [(7, { bias := some 0 })] }, 7, 0, 0, on (by decide +kernel), by decide +kernel⟩,
   ⟨{ State.reset with power := { grace := true } }, by decide +kernel⟩,
   ⟨State.reset, ([]), ([]), 0, _, _, _, on (by decide +kernel), rfl, rfl, rfl⟩,
   ⟨{ State.reset with thermal := [(7, { hotSince := some 0 })] }, 7, 0, on (by decide +kernel), by decide +kernel⟩,
   ⟨State.reset, 0, _, on (by decide +kernel), rfl, by decide +kernel⟩,
   ⟨{ State.reset with thermal := (List.range 7).map fun d => (d, { recess := true }) }, 7, _, _, on
     (by decide +kernel), rfl, rfl, by decide +kernel⟩,
   ⟨{ State.reset with thermal := [(7, { recess := true })] }, 7, _, on (by decide +kernel), rfl, by decide +kernel⟩,
   ⟨{ State.reset with thermal := [(7, { recess := true })], trace := { paused := true } }, 7, _, on
     (by decide +kernel), rfl, by decide +kernel⟩,
   ⟨State.reset, _, _, takes (on (by decide +kernel)) (by decide +kernel), rfl, rfl, by decide +kernel⟩⟩

theorem witness_DictionaryPaths :
    (∃ (s : State) (ctrl : Nat) (index : Nat) (sub : Nat), s.powered = true ∧ leadAwake s = true ∧ s.usdoServed ctrl =
      true) ∧
    (∃ (s : State) (ctrl : Nat) (index : Nat) (sub : Nat) (bs : List Nat), s.powered = true ∧ leadAwake s = true ∧
      s.usdoServed ctrl = true) ∧
    (∃ (s : State) (ctrl : Nat) (index : Nat) (sub : Nat) (bs : List Nat), s.powered = true ∧ leadAwake s = true ∧
      s.usdoServed ctrl = true) ∧
    (∃ (s : State) (ctrl : Nat) (bytes : List Nat) (u : Usdo), s.powered = true ∧ mapGet none s.usdo ctrl = some u ∧
      leadAwake s = true ∧ s.usdoServed ctrl = true) ∧
    (∃ (s : State) (ctrl : Nat) (bytes : List Nat) (u : Usdo), s.powered = true ∧ mapGet none s.usdo ctrl = some u ∧
      leadAwake s = true ∧ s.usdoServed ctrl = true) ∧
    (∃ (s : State) (c : Nat) (u : Usdo) (t : _), s.powered = true ∧ t = s.advanceTo (u.lastAt + ticksPerS) ∧ s.usdo =
      [(c, some u)]) ∧
    (∃ (s : State) (n : Nat) (index : Nat) (sub : Nat) (irq : Bool) (vector : Nat) (tag : Nat), s.powered = true ∧ n <
      2048 ∧ leadAwake s = true ∧ (s.mirror n).busy = false) ∧
    (∃ (s : State) (n : Nat) (index : Nat) (sub : Nat) (len : Nat) (irq : Bool) (vector : Nat) (tag : Nat), s.powered
      = true ∧ n < 2048 ∧ leadAwake s = true ∧ (s.mirror n).busy = false) ∧
    (∃ (s : State) (index : Nat) (sub : Nat) (v : List Nat), s.powered = true ∧ leadAwake s = true ∧ s.nmt.booted =
      true) ∧
    (∃ (s : State) (offset : Nat) (size : Nat) (v : List Nat), s.powered = true ∧ (size = 4 ∨ size = 8) ∧ offset %
      size = 0 ∧ offset < 0x04000000) ∧
    (∃ (s : State) (offset : Nat) (size : Nat) (v : List Nat), s.powered = true ∧ (size = 4 ∨ size = 8) ∧ offset %
      size = 0 ∧ offset < 0x40000000) ∧
    (∃ (s : State) (offset : Nat) (size : Nat) (v : List Nat), s.powered = true ∧ barSizeOk offset size = false ∧
      offset < 0x04000000) ∧
    (∃ (s : State) (offset : Nat) (size : Nat) (v : List Nat), s.powered = true ∧ barSizeOk offset size = false ∧
      offset < 0x04000000) ∧
    (∃ (s : State) (v : List Nat), s.powered = true) ∧
    (∃ (s : State) (v : List Nat), s.powered = true) ∧
    (∃ (s : State) (v : List Nat), s.powered = true) ∧
    (∃ (s : State) (v : List Nat), s.powered = true) :=
  ⟨⟨cfgs [(0x2001, 6, 1)] State.reset, 1, 0x1000, 0, on (by decide +kernel), by decide +kernel⟩,
   ⟨State.reset, 0, 0x1017, 0, ([100, 0]), on (by decide +kernel), by decide +kernel⟩,
   ⟨State.reset, 0, 0x4300, 6, ([1]), on (by decide +kernel), by decide +kernel⟩,
   ⟨{ State.reset with usdo := [(0, some { index := 0x4300, sub := 6, bytes := [1], lastAt := 0 })] }, 0, ([2]),
     (mapGet none
     ({ State.reset with usdo := [(0, some { index := 0x4300, sub := 6, bytes := [1], lastAt := 0 })] }).usdo 0).get
     (by decide +kernel), on (by decide +kernel), (Option.some_get _).symm, by decide +kernel⟩,
   ⟨{ State.reset with usdo := [(0, some { index := 0x4300, sub := 6, bytes := [1], lastAt := 0 })] }, 0, ([2]),
     (mapGet none
     ({ State.reset with usdo := [(0, some { index := 0x4300, sub := 6, bytes := [1], lastAt := 0 })] }).usdo 0).get
     (by decide +kernel), on (by decide +kernel), (Option.some_get _).symm, by decide +kernel⟩,
   ⟨{ State.reset with usdo := [(0, some { index := 0x4300, sub := 6, bytes := [1], lastAt := 0 })] }, 0,
     ({ index := 0x4300, sub := 6, bytes := [1], lastAt := 0 }), _, on (by decide +kernel), rfl, by decide +kernel⟩,
   ⟨State.reset, 2047, 0x1000, 0, true, 2047, 1, on (by decide +kernel), by decide +kernel⟩,
   ⟨State.reset, 2047, 0x1017, 0, 2, true, 2047, 1, on (by decide +kernel), by decide +kernel⟩,
   ⟨State.reset, 0x1017, 0, ([1, 0]), on (by decide +kernel), by decide +kernel⟩,
   ⟨State.reset, 0x03FFFFF8, 8, ([0, 0, 0, 0, 0, 0, 0, 0]), on (by decide +kernel), by decide +kernel⟩,
   ⟨State.reset, 0x3FFFFFFC, 4, ([0, 0, 0, 0]), on (by decide +kernel), by decide +kernel⟩,
   ⟨State.reset, 0, 3, (([] : List Nat)), on (by decide +kernel), by decide +kernel⟩,
   ⟨State.reset, 0, 3, (([] : List Nat)), on (by decide +kernel), by decide +kernel⟩,
   ⟨State.reset, (([] : List Nat)), on (by decide +kernel)⟩,
   ⟨State.reset, (([] : List Nat)), on (by decide +kernel)⟩,
   ⟨State.reset, (([] : List Nat)), on (by decide +kernel)⟩,
   ⟨State.reset, (([] : List Nat)), on (by decide +kernel)⟩⟩

theorem witness_NmtCommands :
    (∃ (s : State), s.powered = true ∧ s.nmt.booted = true ∧ leadAwake s = true ∧ s.sealed.on = false) ∧
    (∃ (s : State), s.powered = true ∧ s.nmt.booted = true ∧ leadAwake s = true ∧ s.sealed.on = true ∧ s.faults.fatal
      = true) ∧
    (∃ (s : State), s.powered = true ∧ s.nmt.booted = true ∧ leadAwake s = true ∧ s.sealed.on = true ∧ s.faults.fatal
      = false ∧ s.nmt.state ≠ .operational) ∧
    (∃ (s : State), s.powered = true ∧ s.nmt.booted = true ∧ leadAwake s = true ∧ (s.tt.state = .idle ∨ s.tt.state =
      .stopped) ∧ s.nmt.state ≠ .stopped) ∧
    (∃ (s : State), s.powered = true ∧ s.nmt.booted = true ∧ leadAwake s = true ∧ s.tt.state ≠ .idle ∧ s.tt.state ≠
      .stopped) ∧
    (∃ (s : State), s.powered = true ∧ s.nmt.booted = true ∧ leadAwake s = true ∧ (s.tt.state = .idle ∨ s.tt.state =
      .stopped) ∧ s.nmt.state ≠ .preOperational) ∧
    (∃ (s : State), s.powered = true ∧ s.nmt.booted = true ∧ leadAwake s = true ∧ s.tt.state ≠ .idle ∧ s.tt.state ≠
      .stopped) ∧
    (∃ (s : State), s.powered = true ∧ s.nmt.booted = true ∧ leadAwake s = true ∧ (s.tt.state = .idle ∨ s.tt.state =
      .stopped)) ∧
    (∃ (s : State), s.powered = true ∧ s.nmt.booted = true ∧ leadAwake s = true ∧ s.tt.state ≠ .idle ∧ s.tt.state ≠
      .stopped) ∧
    (∃ (s : State), s.powered = true ∧ s.nmt.booted = true ∧ leadAwake s = true) ∧
    (∃ (s : State), s.powered = true ∧ s.nmt.booted = true ∧ leadAwake s = true ∧ s.nmt.pending ≠ .none ∧ s.tt.state =
      .idle) ∧
    (∃ (s : State), s.powered = true ∧ s.nmt.booted = true ∧ leadAwake s = true ∧ s.straps.porLow = false ∧
      (s.tt.state = .idle ∨ s.tt.state = .stopped)) :=
  ⟨⟨State.reset, on (by decide +kernel), by decide +kernel⟩,
   ⟨{ oper with faults := { fatal := true } }, on (by decide +kernel), by decide +kernel⟩,
   ⟨{ State.reset with sealed := { on := true } }, on (by decide +kernel), by decide +kernel⟩,
   ⟨State.reset, on (by decide +kernel), by decide +kernel⟩,
   ⟨tts .running oper, on (by decide +kernel), by decide +kernel⟩,
   ⟨oper, on (by decide +kernel), by decide +kernel⟩,
   ⟨tts .waiting oper, on (by decide +kernel), by decide +kernel⟩,
   ⟨State.reset, on (by decide +kernel), by decide +kernel⟩,
   ⟨tts .halting oper, on (by decide +kernel), by decide +kernel⟩,
   ⟨State.reset, on (by decide +kernel), by decide +kernel⟩,
   ⟨{ oper with nmt := { state := .operational, pending := .stop } }, on (by decide +kernel), by decide +kernel⟩,
   ⟨State.reset, on (by decide +kernel), by decide +kernel⟩⟩

theorem witness_CanEvents :
    (∃ (s : State) (ctrl : Nat), s.powered = true ∧ s.canRuns ctrl = true ∧ s.canState ctrl ≠ .busOff ∧ ctrl ≠ 0) ∧
    (∃ (s : State), s.powered = true ∧ s.canRuns 0 = true ∧ s.canState 0 ≠ .busOff) ∧
    (∃ (s : State) (ctrl : Nat), s.powered = true ∧ s.canRuns ctrl = true ∧ s.canState ctrl = .active) ∧
    (∃ (s : State) (k : Nat) (x : Consumer) (t : Nat) (u : _), s.powered = true ∧ u = s.advanceTo (t + s.cfg 0x1016 k
      % 65536 * ticksPerMs) ∧ mapGet {} s.can.consumers k = x ∧ x.lastHeard = some t ∧ s.nmt.booted = true ∧ 1 ≤ k ∧ k
      ≤ 8 ∧ s.cfg 0x1016 k % 65536 ≠ 0 ∧ x.timedOut = false) ∧
    (∃ (s : State) (t : _), s.powered = true ∧ t = s.drainEmcy 33 ∧ t.nmt.booted = true ∧ t.cfg 0x1017 0 ≠ 0) ∧
    (∃ (s : State) (node : Nat), s.powered = true ∧ leadAwake s = true ∧ s.nmt.booted = true ∧ s.can.ctrl0 ≠ .busOff) ∧
    (∃ (s : State) (ctrl : Nat), s.powered = true ∧ s.canRuns ctrl = true ∧ s.canState ctrl ≠ .active) :=
  ⟨⟨cfgs [(0x2001, 6, 1)] State.reset, 1, on (by decide +kernel), by decide +kernel⟩,
   ⟨State.reset, on (by decide +kernel), by decide +kernel⟩,
   ⟨State.reset, 0, on (by decide +kernel), by decide +kernel⟩,
   ⟨cfgs [(0x1016, 8, 0x20064)] { State.reset with can := { consumers := [(8, { lastHeard := some 0 })] } }, 8,
     ({ lastHeard := some 0 }), 0, _, on (by decide +kernel), rfl, by decide +kernel⟩,
   ⟨cfgs [(0x1017, 0, 100)] State.reset, _, on (by decide +kernel), rfl, by decide +kernel⟩,
   ⟨State.reset, 2, on (by decide +kernel), by decide +kernel⟩,
   ⟨{ State.reset with can := { ctrl0 := .busOff } }, 0, on (by decide +kernel), by decide +kernel⟩⟩

theorem witness_PdoAndTraceCommands :
    (∃ (s : State) (k : Nat) (bytes : List Nat) (l : _), s.powered = true ∧ splitPdo (s.mapping (0x1600 + k)) bytes =
      some l ∧ leadAwake s = true ∧ s.rpdoOn k = true ∧ s.cfg (0x1400 + k) 2 ≤ 240) ∧
    (∃ (s : State) (k : Nat) (bytes : List Nat) (l : _), s.powered = true ∧ splitPdo (s.mapping (0x1600 + k)) bytes =
      some l ∧ leadAwake s = true ∧ s.rpdoOn k = true ∧ 240 < s.cfg (0x1400 + k) 2) ∧
    (∃ (s : State) (k : Nat) (t : Nat), s.powered = true ∧ s.tpdoOn k = true ∧ 254 ≤ s.cfg (0x1800 + k) 2 ∧
      s.tpdoBytes k ≠ (s.tpdo k).lastValue ∧ (s.tpdo k).lastSent = some t) ∧
    (∃ (s : State) (k : Nat) (t : Nat), s.powered = true ∧ s.tpdoOn k = true ∧ 254 ≤ s.cfg (0x1800 + k) 2 ∧
      s.tpdoBytes k = (s.tpdo k).lastValue ∧ (s.tpdo k).lastSent = some t ∧ s.cfg (0x1800 + k) 5 * ticksPerMs ≠ 0) ∧
    (∃ (s : State) (counter : Nat), s.powered = true ∧ leadAwake s = true ∧ s.consumes = true ∧ s.nmt.state ≠
      .operational) ∧
    (∃ (s : State) (counter : Nat) (t : _), s.powered = true ∧ t = (upTo 64).foldl (fun s k => s.syncTpdo counter k)
      { s with can := { s.can with syncCounter := counter } } ∧ leadAwake s = true ∧ s.consumes = true ∧ s.nmt.state =
      .operational) ∧
    (∃ (s : State) (value : Nat) (t : Nat) (u : _), s.powered = true ∧ u = s.advanceTo t ∧ leadAwake s = true ∧
      s.consumes = true ∧ bit (s.cfg 0x1012 0) 31 = true) ∧
    (∃ (s : State), commanded s 0x1003 = true) ∧
    (∃ (s : State), s.powered = true ∧ s.nmt.booted = true ∧ leadAwake s = true ∧ s.served 0x4402 = true) ∧
    (∃ (s : State), commanded s 0x4400 = true) ∧
    (∃ (s : State), commanded s 0x4400 = true) :=
  ⟨⟨cfgs [(0x143F, 1, 0x200), (0x143F, 2, 240), (0x163F, 0, 1)] oper, 63, (([] : List Nat)), (splitPdo ((cfgs
     [(0x143F, 1, 0x200), (0x143F, 2, 240), (0x163F, 0, 1)] oper).mapping (0x1600 + 63)) (([] : List Nat))).get
     (by decide +kernel), on (by decide +kernel), (Option.some_get _).symm, by decide +kernel⟩,
   ⟨cfgs [(0x143F, 1, 0x200), (0x143F, 2, 254), (0x163F, 0, 1)] oper, 63, (([] : List Nat)), (splitPdo ((cfgs
     [(0x143F, 1, 0x200), (0x143F, 2, 254), (0x163F, 0, 1)] oper).mapping (0x1600 + 63)) (([] : List Nat))).get
     (by decide +kernel), on (by decide +kernel), (Option.some_get _).symm, by decide +kernel⟩,
   ⟨cfgs [(0x183F, 1, 0x180), (0x183F, 2, 254), (0x1A3F, 0, 1), (0x1A3F, 1, 0x21010108)]
     { oper with can := { tpdos := [(63, { lastSent := some 0 })] } }, 63, 0, on (by decide +kernel),
     by decide +kernel⟩,
   ⟨cfgs [(0x183F, 1, 0x180), (0x183F, 2, 254), (0x183F, 5, 1), (0x1A3F, 0, 1), (0x1A3F, 1, 0x21010108)]
     { oper with can := { tpdos := [(63, { lastSent := some 0, lastValue := [0] })] } }, 63, 0, on
     (by decide +kernel), by decide +kernel⟩,
   ⟨State.reset, 240, on (by decide +kernel), by decide +kernel⟩,
   ⟨oper, 0, _, on (by decide +kernel), rfl, by decide +kernel⟩,
   ⟨cfgs [(0x1012, 0, 2 ^ 31)] State.reset, 1, 0, _, on (by decide +kernel), rfl, by decide +kernel⟩,
   ⟨State.reset, takes (on (by decide +kernel)) (by decide +kernel)⟩,
   ⟨State.reset, on (by decide +kernel), by decide +kernel⟩,
   ⟨State.reset, takes (on (by decide +kernel)) (by decide +kernel)⟩,
   ⟨{ State.reset with trace := { on := false } }, takes (on (by decide +kernel)) (by decide +kernel)⟩⟩

theorem witness_FlashCommands :
    (∃ (s : State), commanded s 0x4300 = true ∧ s.flashTakes = true ∧ s.flash.erasing = false) ∧
    (∃ (s : State), commanded s 0x4300 = true ∧ s.flashTakes = true ∧ s.flash.erasing = true) ∧
    (∃ (s : State), commanded s 0x4300 = true ∧ s.flashTakes = true) ∧
    (∃ (s : State), commanded s 0x4300 = true ∧ s.flashTakes = true) ∧
    (∃ (s : State) (index : Nat), commanded s 0x4310 = true ∧ s.flashTakes = true ∧ s.flash.recovery = false ∧ (index
      = 0xFFFF ∨ indexListed index = true ∧ s.objPresent index 0 true = true)) ∧
    (∃ (s : State), commanded s 0x4310 = true ∧ s.flashTakes = true) ∧
    (∃ (s : State), commanded s 0x4330 = true ∧ s.flashTakes = true ∧ s.flash.slotIn .trial = none) ∧
    (∃ (s : State), commanded s 0x4330 = true ∧ s.flashTakes = true) ∧
    (∃ (s : State), commanded s 0x4330 = true ∧ s.flashTakes = true ∧ (s.flash.queue ≠ [] ∨ s.flash.complete = true)) ∧
    (∃ (s : State), commanded s 0x4330 = true ∧ s.flashTakes = true ∧ s.flash.queue = [] ∧ s.flash.complete = false) ∧
    (∃ (s : State) (bytes : List Nat) (n : Nat), commanded s 0x4330 = true ∧ bytes.length = 4100 ∧ s.flashTakes = true
      ∧ n = bytesNum (bytes.take 4) ∧ n < 2048 ∧ (s.flash.queue ≠ [] ∨ s.flash.pieceRefused n (bytes.drop 4) = none ∧
      s.flash.received n = false)) ∧
    (∃ (s : State) (bytes : List Nat) (n : Nat), commanded s 0x4330 = true ∧ bytes.length = 4100 ∧
      s.flash.pieceRefused n (bytes.drop 4) = none ∧ s.flashTakes = true ∧ n = bytesNum (bytes.take 4) ∧ n < 2048 ∧
      s.flash.queue = [] ∧ s.flash.received n = true) ∧
    (∃ (s : State) (bytes : List Nat) (n : Nat) (a : _), commanded s 0x4330 = true ∧ bytes.length = 4100 ∧
      s.flashTakes = true ∧ n = bytesNum (bytes.take 4) ∧ n < 2048 ∧ s.flash.queue = [] ∧ s.flash.pieceRefused n
      (bytes.drop 4) = some a) ∧
    (∃ (s : State), commanded s 0x4320 = true ∧ s.flashTakes = true ∧ s.flash.reached = true ∧ s.flash.runningTrial ≠
      none) ∧
    (∃ (s : State), commanded s 0x4320 = true ∧ s.flashTakes = true ∧ (s.flash.reached = false ∨ s.flash.runningTrial
      = none)) ∧
    (∃ (s : State), commanded s 0x4320 = true ∧ s.flashTakes = true ∧ s.flash.slotIn .trial ≠ none) ∧
    (∃ (s : State), commanded s 0x4320 = true ∧ s.flashTakes = true ∧ s.flash.slotIn .trial = none) :=
  ⟨⟨State.reset, takes (on (by decide +kernel)) (by decide +kernel), by decide +kernel⟩,
   ⟨{ State.reset with flash := { queue := [{ op := .erase 0, asker := .direct }] } }, takes (on (by decide +kernel))
     (by decide +kernel), by decide +kernel⟩,
   ⟨State.reset, takes (on (by decide +kernel)) (by decide +kernel), by decide +kernel⟩,
   ⟨State.reset, takes (on (by decide +kernel)) (by decide +kernel), by decide +kernel⟩,
   ⟨State.reset, 0xFFFF, takes (on (by decide +kernel)) (by decide +kernel), by decide +kernel⟩,
   ⟨State.reset, takes (on (by decide +kernel)) (by decide +kernel), by decide +kernel⟩,
   ⟨State.reset, takes (on (by decide +kernel)) (by decide +kernel), by decide +kernel⟩,
   ⟨State.reset, takes (on (by decide +kernel)) (by decide +kernel), by decide +kernel⟩,
   ⟨{ State.reset with flash := { queue := [{ op := .cancel }] } }, takes (on (by decide +kernel))
     (by decide +kernel), by decide +kernel⟩,
   ⟨State.reset, takes (on (by decide +kernel)) (by decide +kernel), by decide +kernel⟩,
   ⟨{ State.reset with flash := { transfer := .receiving } }, ([255, 7, 0, 0] ++ List.replicate 4096 1), 2047, takes
     (on (by decide +kernel)) (by decide +kernel), piece_length, by decide +kernel⟩,
   ⟨{ State.reset with flash := { transfer := .receiving, cells := [(pieceMark 2047, 255)] } }, (pieceOf
     { transfer := .receiving, cells := [(pieceMark 2047, 255)] }), 2047, takes (on (by decide +kernel))
     (by decide +kernel), pieceOf_length _, pieceOf_held (by decide +kernel), by decide +kernel⟩,
   ⟨State.reset, ([255, 7, 0, 0] ++ List.replicate 4096 1), 2047, Abort.state, takes (on (by decide +kernel))
     (by decide +kernel), piece_length, by decide +kernel⟩,
   ⟨{ State.reset with flash := trialFlash .confirmed }, takes (on (by decide +kernel)) (by decide +kernel),
     by decide +kernel⟩,
   ⟨State.reset, takes (on (by decide +kernel)) (by decide +kernel), by decide +kernel⟩,
   ⟨{ State.reset with flash := trialFlash .confirmed }, takes (on (by decide +kernel)) (by decide +kernel),
     by decide +kernel⟩,
   ⟨State.reset, takes (on (by decide +kernel)) (by decide +kernel), by decide +kernel⟩⟩

theorem witness_FlashAndFirmware :
    (∃ (s : State) (ok : Bool) (j : _) (rest : _) (a : _) (t : _), s.powered = true ∧ s.flash.stepsOf j = .error a ∧ t
      = s.endFlashJob j rest (some a) ∧ s.flash.queue = j :: rest ∧ t.power.grace = false) ∧
    (∃ (s : State) (ok : Bool) (j : _) (rest : _) (t : _), s.powered = true ∧ s.flash.stepsOf j = .ok [] ∧ t =
      s.endFlashJob j rest none ∧ s.flash.queue = j :: rest ∧ t.power.grace = false) ∧
    (∃ (s : State) (j : _) (rest : _) (x : _) (more : _) (st : Nat) (t : _) (u : _), s.powered = true ∧
      s.flash.stepsOf j = .ok (x :: more) ∧ t = s.setFlashStatus st ∧ u = t.afterStep j rest more ∧ s.flash.queue = j
      :: rest ∧ st = s.flash.stepStatus x ∧ st ≠ 0 ∧ u.power.grace = false) ∧
    (∃ (s : State) (j : _) (rest : _) (a : _) (more : _) (t : _) (u : _), s.powered = true ∧ s.flash.stepsOf j = .ok
      (.read a :: more) ∧ t = (s.hostRead a).setFlashStatus 0 ∧ u = t.afterStep j rest more ∧ s.flash.queue = j ::
      rest ∧ s.flash.stepStatus (.read a) = 0 ∧ u.power.grace = false) ∧
    (∃ (s : State) (j : _) (rest : _) (x : _) (more : _) (t : _) (u : _), s.powered = true ∧ s.flash.stepsOf j = .ok
      (x :: more) ∧ (∀ a, x ≠ .read a) ∧ t = State.setFlashStatus { s with flash := s.flash.apply x } 0 ∧ u =
      t.afterStep j rest more ∧ s.flash.queue = j :: rest ∧ s.flash.stepStatus x = 0 ∧ u.power.grace = false) ∧
    (∃ (s : State) (j : _) (rest : _) (x : _) (more : _) (t : _) (u : _), s.powered = true ∧ s.flash.stepsOf j = .ok
      (x :: more) ∧ t = ((s.tearStep x).setFlashStatus 5).raise 0x32 0 0 2 ∧ u = t.afterStep j rest more ∧
      s.flash.queue = j :: rest ∧ u.power.grace = false) ∧
    (∃ (s : State) (ok : Bool) (j : _) (rest : _) (x : _) (more : _) (t : _) (u : _) (v : _), s.flash.stepsOf j = .ok
      (x :: more) ∧ t = (if ok then s.finishStep x else s.failStep x) ∧ u = t.afterStep j rest more ∧ v =
      { u with flash := { u.flash with suspended := u.flash.suspended && !u.flash.leadingReads.isEmpty } } ∧ s.powered
      = true ∧ s.flash.queue = j :: rest ∧ v.power.grace = true) ∧
    (∃ (s : State) (k : Nat) (j : Nat) (b : _) (p : _), b = (s.flash.boot.setSlot j .previous).setSlot k .confirmed ∧
      FlashPlan.putBoot { flash := s.flash } b = some p ∧ s.flash.runningTrial = some k ∧ s.flash.slotIn .confirmed =
      some j) ∧
    (∃ (s : State) (k : Nat) (b : _) (p : _), b = s.flash.boot.setSlot k .confirmed ∧ FlashPlan.putBoot
      { flash := s.flash } b = some p ∧ s.flash.runningTrial = some k ∧ s.flash.slotIn .confirmed = none) ∧
    (∃ (s : State) (k : Nat) (p : _), FlashPlan.putBoot { flash := s.flash } (s.flash.boot.setSlot k .failed) = some p
      ∧ s.flash.slotIn .trial = some k) :=
  ⟨⟨{ State.reset with flash := { queue := [{ op := .verify }] } }, true, (({ op := .verify } : FlashJob)), (([] :
     List FlashJob)), Abort.imageIncomplete, _, on (by decide +kernel), plan_fails (by decide +kernel), rfl,
     by decide +kernel⟩,
   ⟨{ State.reset with flash := { queue := [{ op := .restore }] } }, true, (({ op := .restore } : FlashJob)), (([] :
     List FlashJob)), _, on (by decide +kernel), plan_is (by decide +kernel), rfl, by decide +kernel⟩,
   ⟨{ State.reset with flash := { queue := [{ op := .erase 1 }] } }, (({ op := .erase 1 } : FlashJob)), (([] : List
     FlashJob)), (FlashStep.erase (hostBase + 1) 4096), (([] : List FlashStep)), 4, _, _, on (by decide +kernel),
     plan_is (by decide +kernel), rfl, rfl, by decide +kernel⟩,
   ⟨{ State.reset with flash := { queue := [{ op := .read 0 }] } }, (({ op := .read 0 } : FlashJob)), (([] : List
     FlashJob)), hostBase, (([] : List FlashStep)), _, _, on (by decide +kernel), plan_is (by decide +kernel), rfl,
     rfl, by decide +kernel⟩,
   ⟨{ State.reset with flash := { queue := [{ op := .erase 0 }] } }, (({ op := .erase 0 } : FlashJob)), (([] : List
     FlashJob)), (FlashStep.erase hostBase 4096), (([] : List FlashStep)), _, _, on (by decide +kernel), plan_is
     (by decide +kernel), (by intro a h; cases h), rfl, rfl, by decide +kernel⟩,
   ⟨{ State.reset with flash := { queue := [{ op := .erase 0 }] } }, (({ op := .erase 0 } : FlashJob)), (([] : List
     FlashJob)), (FlashStep.erase hostBase 4096), (([] : List FlashStep)), _, _, on (by decide +kernel), plan_is
     (by decide +kernel), rfl, rfl, by decide +kernel⟩,
   ⟨{ State.reset with flash := { queue := [{ op := .erase 0 }] }, power := { grace := true } }, true,
     (({ op := .erase 0 } : FlashJob)), (([] : List FlashJob)), (FlashStep.erase hostBase 4096), (([] : List
     FlashStep)), _, _, _, plan_is (by decide +kernel), rfl, rfl, rfl, by decide +kernel⟩,
   ⟨{ State.reset with flash := trialFlash .confirmed }, 1, 0, _, _, rfl, (Option.some_get confirm_plan).symm,
     by decide +kernel⟩,
   ⟨{ State.reset with flash := trialFlash .empty }, 1, _, _, rfl, (Option.some_get lone_confirm_plan).symm,
     by decide +kernel⟩,
   ⟨{ State.reset with flash := trialFlash .confirmed }, 1, _, (Option.some_get revert_plan).symm, by decide +kernel⟩⟩

theorem witness_BootAndBalls :
    (∃ (s : State) (t : State) (u : State) (v : State), s.powered = true ∧ t = (State.trainChannels
      { s with nmt := { s.nmt with booted := true, state := .preOperational, pending := .none } }).bootImage ∧ u =
      t.storedValues (fun _ => true) ∧ v = (State.takeNode (State.settleStart
      { u with store := { u.store with rate := u.cfg 0x2300 3 } })).bootUp ∧ s.nmt.booted = false) ∧
    (∃ (s : State) (legacy : Bool) (boot0 : Bool) (boot1 : Bool), s.straps.porLow = true) ∧
    (∃ (s : State) (legacy : Bool) (boot0 : Bool) (boot1 : Bool) (t : _), t = (s.lose true).recover true ∧
      s.straps.porLow = false ∧ (s.power.seq = .on ∨ s.power.seq = .shutDown)) ∧
    (∃ (s : State) (levels : Nat), s.straps.porLow = false ∧ s.nmt.booted = false) ∧
    (∃ (s : State) (n : Nat) (v : Nat), commanded s (0x5000 + n) = true ∧ n < 192 ∧ s.present (n / 24) = true ∧
      s.preop = true ∧ mfioWordOk v = true ∧ (∀ d, mfioDie v = some d → d = n / 24) ∧ s.mfioTaken n v = false ∧
      s.mfioUnitOff (s.mfioWord n) = true ∧ s.mfioUnitOff v = true ∧ bits v 31 24 ≠ 13) ∧
    (∃ (s : State) (n : Nat) (v : Nat), commanded s (0x5000 + n) = true ∧ n < 192 ∧ s.present (n / 24) = true ∧
      s.preop = true ∧ v < 256 ∧ bit v 0 = false ∧ bits v 6 5 ≠ 3 ∧ s.mfioUnitOff (s.mfioWord n) = true) ∧
    (∃ (s : State) (tms : Bool) (tdi : Bool) (t : _), t =
      { s with jtag := (s.tapAct tdi).enter (s.jtag.tap.next tms) } ∧ s.power.seq ≠ .standby ∧ t.tdoBit = none) ∧
    (∃ (s : State) (tms : Bool) (tdi : Bool) (t : _) (b : Nat), t =
      { s with jtag := (s.tapAct tdi).enter (s.jtag.tap.next tms) } ∧ s.power.seq ≠ .standby ∧ t.tdoBit = some b) :=
  ⟨⟨{ State.reset with nmt := { booted := false } }, _, _, _, on (by decide +kernel), rfl, rfl, rfl,
     by decide +kernel⟩,
   ⟨{ State.reset with straps := { porLow := true } }, true, false, true, by decide +kernel⟩,
   ⟨State.reset, true, false, true, _, rfl, by decide +kernel⟩,
   ⟨{ State.reset with nmt := { booted := false } }, 127, by decide +kernel⟩,
   ⟨State.reset, 0, 0, takes (on (by decide +kernel)) (by decide +kernel), by decide +kernel⟩,
   ⟨State.reset, 0, 0, takes (on (by decide +kernel)) (by decide +kernel), by decide +kernel⟩,
   ⟨State.reset, false, false, _, rfl, by decide +kernel⟩,
   ⟨{ State.reset with jtag := { tap := .shiftDr } }, false, true, _, 0, rfl, by decide +kernel⟩⟩

theorem witness_AccessEndsRecess :
    (∃ (s : State) (c : Instr), s.powered = true ∧ ((writtenObject c).isSome = true ∨ receivedFrame c = true)) ∧
    (∃ (s : State) (c : Instr), s.powered = true ∧ ((writtenObject c).isSome = true ∨ receivedFrame c = true)) ∧
    (∃ (s : State) (c : Instr), s.powered = true ∧ ((writtenObject c).isSome = true ∨ receivedFrame c = true) ∧
      leadAwake s = true) ∧
    (∃ (s : State) (c : Instr) (d : Nat), s.powered = true ∧ ((writtenObject c).isSome = true ∨ receivedFrame c =
      true) ∧ leadAwake s = false ∧ d ≠ s.dies.lead) :=
  ⟨⟨{ State.reset with thermal := [(0, { recess := true })] }, .timetableRun, on (by decide +kernel),
     by decide +kernel⟩,
   ⟨{ State.reset with thermal := [(0, { recess := true })] }, .nmtStart, on (by decide +kernel), by decide +kernel⟩,
   ⟨State.reset, .timetableRun, on (by decide +kernel), by decide +kernel⟩,
   ⟨{ State.reset with thermal := [(0, { recess := true }), (1, { recess := true })] }, .nmtStart, 1, on
     (by decide +kernel), by decide +kernel⟩⟩

end Sys2Proof.Tests
end

section
/-! PROOF. The lane words of Table 5-13 against the legality check (R150), and the start of a pulse (R157). -/

namespace Sys2Proof.Proofs

open Sys2Proof Sys2Proof.Machine Sys2Proof.Laws

/-! A word from its fields, and the fields of a word, for each of the five formats (Tables 5-7 to 5-11). -/

section Formats

variable {w op a b c d i : Nat}

theorem bits_lt (w hi lo : Nat) : bits w hi lo < 2 ^ (hi + 1 - lo) := Nat.mod_lt _ (Nat.two_pow_pos _)

theorem eq_wordS (hw : w < 2 ^ 32) (ho : bits w 31 26 = op) (ha : bits w 25 22 = a) (hb : bits w 21 18 = b)
    (hc : bits w 17 14 = c) (hr : bits w 13 0 = 0) : w = wordS op a b c := by
  simp only [bits, wordS] at *
  omega

theorem eq_wordI (hw : w < 2 ^ 32) (ho : bits w 31 26 = op) (ha : bits w 25 22 = a) (hb : bits w 21 18 = b)
    (hi : bits w 17 0 = i) : w = wordI op a b i := by
  simp only [bits, wordI] at *
  omega

theorem eq_wordB (hw : w < 2 ^ 32) (ho : bits w 31 26 = op) (ha : bits w 25 22 = a) (hb : bits w 21 18 = b)
    (hr : bits w 17 11 = 0) (hi : bits w 10 0 = i) : w = wordB op a b i := by
  simp only [bits, wordB] at *
  omega

/-- A 15-bit image is that of its signed reading. -/
theorem ofSigned_toSigned_bits (w : Nat) : ofSigned 15 (toSigned 15 (bits w 14 0)) = bits w 14 0 := by
  simp only [bits, toSigned, ofSigned]
  omega

theorem eq_wordM {off : Int} (hw : w < 2 ^ 32) (ho : bits w 31 26 = op) (ha : bits w 25 23 = a) (hb : bits w 22 19 = b)
    (hc : bits w 18 17 = c) (hr : bits w 16 15 = 0) (hi : ofSigned 15 off = bits w 14 0) : w = wordM op a b c off := by
  rw [wordM, hi]
  clear hi
  simp only [bits] at *
  omega

theorem eq_wordV (hw : w < 2 ^ 32) (ho : bits w 31 26 = op) (ha : bits w 25 23 = a) (hb : bits w 22 20 = b)
    (hc : bits w 19 17 = c) (hd : bits w 16 13 = d) (hr : bits w 12 8 = 0) (hi : bits w 7 0 = i) :
    w = wordV op a b c d i := by
  simp only [bits, wordV] at *
  omega

theorem fields_wordS (ho : op < 64) : bits (wordS op a b c) 31 26 = op ∧ bits (wordS op a b c) 13 0 = 0 := by
  simp only [bits, wordS]
  omega

theorem fields_wordI (ho : op < 64) :
    bits (wordI op a b i) 31 26 = op ∧ bits (wordI op a b i) 21 18 = b % 16 ∧ bits (wordI op a b i) 17 0 = i % 2 ^ 18 := by
  simp only [bits, wordI]
  omega

theorem fields_wordB (ho : op < 64) :
    bits (wordB op a b i) 31 26 = op ∧ bits (wordB op a b i) 25 22 = a % 16 ∧ bits (wordB op a b i) 21 18 = b % 16 ∧
      bits (wordB op a b i) 17 11 = 0 ∧ bits (wordB op a b i) 10 0 = i % 2 ^ 11 := by
  simp only [bits, wordB]
  omega

theorem fields_wordM {off : Int} (ho : op < 64) :
    bits (wordM op a b c off) 31 26 = op ∧ bits (wordM op a b c off) 18 17 = c % 4 ∧ bits (wordM op a b c off) 16 15 = 0 := by
  simp only [bits, wordM, ofSigned]
  omega

theorem fields_wordV (ho : op < 64) :
    bits (wordV op a b c d i) 31 26 = op ∧ bits (wordV op a b c d i) 25 23 = a % 8 ∧ bits (wordV op a b c d i) 22 20 = b % 8 ∧
      bits (wordV op a b c d i) 19 17 = c % 8 ∧ bits (wordV op a b c d i) 16 13 = d % 16 ∧ bits (wordV op a b c d i) 12 8 = 0 ∧
      bits (wordV op a b c d i) 7 0 = i % 256 := by
  simp only [bits, wordV]
  omega

theorem toSigned_bits_range (w : Nat) : -16384 ≤ toSigned 15 (bits w 14 0) ∧ toSigned 15 (bits w 14 0) ≤ 16383 := by
  simp only [bits, toSigned]
  omega

/-- Where format B leaves its upper fields, or every field, 0. -/
theorem bits_zero_wordB (w : Nat) :
    (bits w 25 11 = 0 ↔ bits w 25 22 = 0 ∧ bits w 21 18 = 0 ∧ bits w 17 11 = 0) ∧
    (bits w 21 11 = 0 ↔ bits w 21 18 = 0 ∧ bits w 17 11 = 0) ∧
    (bits w 25 0 = 0 ↔ bits w 25 22 = 0 ∧ bits w 21 18 = 0 ∧ bits w 17 11 = 0 ∧ bits w 10 0 = 0) := by
  simp only [bits]
  omega

end Formats

/-- A choice that comes out true: which branch was taken, and what it says. -/
theorem cases_of_ite_true {c : Prop} [Decidable c] {x y : Bool} (h : (if c then x else y) = true) :
    c ∧ x = true ∨ ¬ c ∧ y = true := by
  by_cases hc : c
  · exact .inl ⟨hc, by rwa [if_pos hc] at h⟩
  · exact .inr ⟨hc, by rwa [if_neg hc] at h⟩

/-- The fields of each form, read back, make the branch of its opcode hold. -/
theorem laneLegal_of_laneForm {w : Nat} (h : laneForm w) : laneLegal w = true := by
  obtain rfl | ⟨op, sd, sa, sb, h1, h7, -, -, -, rfl⟩ | ⟨op, sd, sa, imm, hop, -, -, -, rfl⟩ |
    ⟨op, sd, sa, n, hop, -, -, hn, rfl⟩ | ⟨sd, imm, -, -, rfl⟩ | ⟨sd, sel, -, hsel, rfl⟩ | ⟨op, target, hop, -, rfl⟩ |
    ⟨op, sa, sb, target, hop, -, -, -, rfl⟩ | ⟨sa, target, -, -, rfl⟩ | rfl | rfl |
    ⟨v, sa, line, off, -, -, hline, -, -, rfl⟩ | ⟨v, sa, off, -, -, -, -, rfl⟩ | ⟨op, v, sa, off, hop, -, -, -, -, rfl⟩ |
    ⟨op, vd, va, vb, hop, -, -, -, rfl⟩ | ⟨vd, sa, -, -, rfl⟩ | ⟨vd, va, n, -, -, hn, rfl⟩ | ⟨vd, va, imm, -, -, -, rfl⟩ |
    ⟨vd, va, -, -, rfl⟩ | ⟨va, vb, sa, -, -, -, rfl⟩ := h
  · rfl
  · obtain ⟨hf, hr⟩ := fields_wordS (op := op) (a := sd) (b := sa) (c := sb) (by omega)
    simp [laneLegal, hf, hr, h7, show op ≠ 0 by omega]
  · simp only [List.mem_cons, List.not_mem_nil, or_false] at hop
    obtain rfl | rfl | rfl | rfl | rfl := hop <;> simp [laneLegal, fields_wordI]
  · simp only [List.mem_cons, List.not_mem_nil, or_false] at hop
    obtain rfl | rfl := hop <;> simp [laneLegal, fields_wordI, show n % 262144 ≤ 31 by omega]
  · simp [laneLegal, fields_wordI]
  · simp [laneLegal, fields_wordI, show sel % 262144 ≤ 11 by omega]
  · simp only [List.mem_cons, List.not_mem_nil, or_false] at hop
    obtain rfl | rfl := hop <;> simp [laneLegal, fields_wordB, bits_zero_wordB]
  · simp only [List.mem_cons, List.not_mem_nil, or_false] at hop
    obtain rfl | rfl | rfl | rfl := hop <;> simp [laneLegal, fields_wordB]
  · simp [laneLegal, fields_wordB, bits_zero_wordB]
  · rfl
  · rfl
  · simp [laneLegal, fields_wordM, show line % 4 ≤ 2 by omega]
  · simp [laneLegal, fields_wordM]
  · simp only [List.mem_cons, List.not_mem_nil, or_false] at hop
    obtain rfl | rfl := hop <;> simp [laneLegal, fields_wordM]
  · simp only [List.mem_cons, List.not_mem_nil, or_false] at hop
    obtain rfl | rfl | rfl | rfl | rfl | rfl | rfl | rfl | rfl := hop <;> simp [laneLegal, fields_wordV]
  · simp [laneLegal, fields_wordV]
  · simp [laneLegal, fields_wordV, show n % 256 ≤ 7 by omega]
  · simp [laneLegal, fields_wordV]
  · simp [laneLegal, fields_wordV]
  · simp [laneLegal, fields_wordV]

/-- Each branch of `laneLegal`, in its order, leaves the fields of one form of `laneForm` and 0 in every other bit. -/
theorem laneForm_of_laneLegal {w : Nat} (hw : w < 2 ^ 32) (h : laneLegal w = true) : laneForm w := by
  obtain ⟨h25_11, h21_11, h25_0⟩ := bits_zero_wordB w
  obtain ⟨hlo, hhi⟩ := toSigned_bits_range w
  have himg := ofSigned_toSigned_bits w
  unfold laneForm
  unfold laneLegal at h
  extract_lets op sa i18 mRes line va vb vsa vres imm8 at h
  -- NOP
  rcases cases_of_ite_true h with ⟨hop, h⟩ | ⟨h0, h⟩
  · exact .inl (of_decide_eq_true h)
  -- ADD to MUL
  rcases cases_of_ite_true h with ⟨hop, h⟩ | ⟨h7, h⟩
  · right; left
    exact ⟨op, _, _, _, by omega, hop, bits_lt w 25 22, bits_lt w 21 18, bits_lt w 17 14,
      eq_wordS hw rfl rfl rfl rfl (of_decide_eq_true h)⟩
  -- SHLI, SHRI
  rcases cases_of_ite_true h with ⟨hop, h⟩ | ⟨hshift, h⟩
  · iterate 3 right
    left
    exact ⟨op, _, _, _, by simpa only [List.mem_cons, List.not_mem_nil, or_false] using hop,
      bits_lt w 25 22, bits_lt w 21 18, of_decide_eq_true h,
      eq_wordI hw rfl rfl rfl rfl⟩
  -- LUI
  rcases cases_of_ite_true h with ⟨hop, h⟩ | ⟨hlui, h⟩
  · iterate 4 right
    left
    exact ⟨_, _, bits_lt w 25 22, bits_lt w 17 0, eq_wordI hw hop rfl (of_decide_eq_true h) rfl⟩
  -- GETS
  rcases cases_of_ite_true h with ⟨hop, h⟩ | ⟨-, h⟩
  · simp only [Bool.and_eq_true, decide_eq_true_eq] at h
    iterate 5 right
    left
    exact ⟨_, _, bits_lt w 25 22, h.2, eq_wordI hw hop rfl h.1 rfl⟩
  -- ADDI, ANDI, ORI, LDW, STW
  rcases cases_of_ite_true h with ⟨hop, h⟩ | ⟨-, h⟩
  · iterate 2 right
    left
    exact ⟨op, _, _, _, by simp only [List.mem_cons, List.not_mem_nil, or_false]; omega,
      bits_lt w 25 22, bits_lt w 21 18, bits_lt w 17 0, eq_wordI hw rfl rfl rfl rfl⟩
  -- JMP, CALL
  rcases cases_of_ite_true h with ⟨hop, h⟩ | ⟨-, h⟩
  · iterate 6 right
    left
    obtain ⟨ha, hb, hr⟩ := h25_11.1 (of_decide_eq_true h)
    exact ⟨op, _, by simpa only [List.mem_cons, List.not_mem_nil, or_false] using hop,
      bits_lt w 10 0, eq_wordB hw rfl ha hb hr rfl⟩
  -- BEQ to BGE
  rcases cases_of_ite_true h with ⟨hop, h⟩ | ⟨-, h⟩
  · iterate 7 right
    left
    exact ⟨op, _, _, _, by simp only [List.mem_cons, List.not_mem_nil, or_false]; omega,
      bits_lt w 25 22, bits_lt w 21 18, bits_lt w 10 0,
      eq_wordB hw rfl rfl rfl (of_decide_eq_true h) rfl⟩
  -- LOOP
  rcases cases_of_ite_true h with ⟨hop, h⟩ | ⟨-, h⟩
  · iterate 8 right
    left
    obtain ⟨hb, hr⟩ := h21_11.1 (of_decide_eq_true h)
    exact ⟨_, _, bits_lt w 25 22, bits_lt w 10 0, eq_wordB hw hop rfl hb hr rfl⟩
  -- RET, ENDL
  rcases cases_of_ite_true h with ⟨hop, h⟩ | ⟨-, h⟩
  · iterate 9 right
    obtain ⟨ha, hb, hr, hi⟩ := h25_0.1 (of_decide_eq_true h)
    exact hop.imp (eq_wordB hw · ha hb hr hi) fun hop => .inl (eq_wordB hw hop ha hb hr hi)
  -- WLD
  rcases cases_of_ite_true h with ⟨hop, h⟩ | ⟨-, h⟩
  · simp only [mRes, Bool.and_eq_true, decide_eq_true_eq] at h
    iterate 11 right
    left
    exact ⟨_, _, _, _, bits_lt w 25 23, bits_lt w 22 19, h.2, hlo, hhi, eq_wordM hw hop rfl rfl rfl h.1 himg⟩
  -- EDGE
  rcases cases_of_ite_true h with ⟨hop, h⟩ | ⟨-, h⟩
  · simp only [mRes, Bool.and_eq_true, decide_eq_true_eq] at h
    iterate 12 right
    left
    exact ⟨_, _, _, bits_lt w 25 23, bits_lt w 22 19, hlo, hhi, eq_wordM hw hop rfl rfl h.2 h.1 himg⟩
  -- VLD, VST
  rcases cases_of_ite_true h with ⟨hop, h⟩ | ⟨-, h⟩
  · simp only [mRes, Bool.and_eq_true, decide_eq_true_eq] at h
    iterate 13 right
    left
    exact ⟨op, _, _, _, by simpa only [List.mem_cons, List.not_mem_nil, or_false] using hop,
      bits_lt w 25 23, bits_lt w 22 19, hlo, hhi,
      eq_wordM hw rfl rfl rfl h.2 h.1 himg⟩
  -- vector operations of three registers
  rcases cases_of_ite_true h with ⟨hop, h⟩ | ⟨-, h⟩
  · simp only [vres, Bool.and_eq_true, decide_eq_true_eq] at h
    iterate 14 right
    left
    obtain ⟨⟨hsa, hr⟩, hi⟩ := h
    exact ⟨op, _, _, _, by simp only [List.mem_cons, List.not_mem_nil, or_false]; omega,
      bits_lt w 25 23, bits_lt w 22 20, bits_lt w 19 17,
      eq_wordV hw rfl rfl rfl rfl hsa hr hi⟩
  -- VSPLAT
  rcases cases_of_ite_true h with ⟨hop, h⟩ | ⟨-, h⟩
  · simp only [vres, Bool.and_eq_true, decide_eq_true_eq] at h
    iterate 15 right
    left
    obtain ⟨⟨⟨ha, hb⟩, hr⟩, hi⟩ := h
    exact ⟨_, _, bits_lt w 25 23, bits_lt w 16 13, eq_wordV hw hop rfl ha hb rfl hr hi⟩
  -- VSHR
  rcases cases_of_ite_true h with ⟨hop, h⟩ | ⟨-, h⟩
  · simp only [vres, Bool.and_eq_true, decide_eq_true_eq] at h
    iterate 16 right
    left
    obtain ⟨⟨⟨hb, hsa⟩, hr⟩, hi⟩ := h
    exact ⟨_, _, _, bits_lt w 25 23, bits_lt w 22 20, hi, eq_wordV hw hop rfl rfl hb hsa hr rfl⟩
  -- VLUT
  rcases cases_of_ite_true h with ⟨hop, h⟩ | ⟨-, h⟩
  · simp only [vres, Bool.and_eq_true, decide_eq_true_eq] at h
    iterate 17 right
    left
    obtain ⟨⟨hb, hsa⟩, hr⟩ := h
    exact ⟨_, _, _, bits_lt w 25 23, bits_lt w 22 20, bits_lt w 7 0, eq_wordV hw hop rfl rfl hb hsa hr rfl⟩
  -- TWID
  rcases cases_of_ite_true h with ⟨hop, h⟩ | ⟨-, h⟩
  · simp only [vres, Bool.and_eq_true, decide_eq_true_eq] at h
    iterate 18 right
    left
    obtain ⟨⟨⟨hb, hsa⟩, hr⟩, hi⟩ := h
    exact ⟨_, _, bits_lt w 25 23, bits_lt w 22 20, eq_wordV hw hop rfl rfl hb hsa hr hi⟩
  -- EMIT
  rcases cases_of_ite_true h with ⟨hop, h⟩ | ⟨-, h⟩
  · simp only [vres, Bool.and_eq_true, decide_eq_true_eq] at h
    iterate 19 right
    obtain ⟨⟨hd, hr⟩, hi⟩ := h
    exact ⟨_, _, _, bits_lt w 22 20, bits_lt w 19 17, bits_lt w 16 13, eq_wordV hw hop hd rfl rfl rfl hr hi⟩
  exact absurd h Bool.false_ne_true

/-- A legal word is one of the forms of Table 5-13. -/
theorem laneLegal_iff_laneForm {w : Nat} (hw : w < 2 ^ 32) : laneLegal w = true ↔ laneForm w :=
  ⟨laneForm_of_laneLegal hw, laneLegal_of_laneForm⟩

theorem execIllegalInstruction_fault {s : State} {lane : Nat} (hl : lane < 1024) (ha : (s.lane lane).active = true)
    (hr : (s.lane lane).state = .running)
    (hw : 2048 ≤ (s.lane lane).pc ∨ laneLegal (mapGet 0 (s.lane lane).prog (s.lane lane).pc) = false) :
    execIllegalInstruction lane s = s.programFault lane 2 :=
  if_pos ⟨hl, ha, hr, hw⟩

/-- Settles O8: each branch of `laneLegal` fixes the fields of one form of `laneForm`, and the fields of each form make its
branch hold. -/
theorem laneWordsExact : Obligations.LaneWordsExact := by
  unfold Obligations.LaneWordsExact
  refine ⟨fun w hw => laneLegal_iff_laneForm hw, fun s lane hp hl ha hr hw => ?_⟩
  refine completes_live rfl hp (execIllegalInstruction_fault hl ha hr ?_)
  refine hw.imp_right fun ⟨hlt, hf⟩ => ?_
  rwa [← laneLegal_iff_laneForm hlt, Bool.not_eq_true] at hf

/-! TSTART (R157). -/

/-- A change of a lane that agrees on the lane as it stands. -/
theorem modLane_congr {s : State} {lane : Nat} {f g : Lane → Lane} (h : f (s.lane lane) = g (s.lane lane)) :
    s.modLane lane f = s.modLane lane g := by
  unfold State.lane at h
  rw [State.modLane, State.modLane, mapMod, mapMod, h]

/-- A command that is one lane step does what its statement says, where the two changes agree on the lane as it stands and
leave its PC and its cycles to the step. -/
theorem laneSteps_of_laneStep {c : Instr} {s : State} {lane w cyc : Nat} {F : State → State} {f g : Lane → Lane}
    (hc : exec c s = live s F) (hF : F s = s.laneStep lane w cyc g) (hfg : g (s.lane lane) = f (s.lane lane))
    (hpc : (f (s.lane lane)).pc = (s.lane lane).pc) (hcyc : (f (s.lane lane)).cycles = (s.lane lane).cycles) :
    LaneSteps c s lane w cyc f := by
  intro hp hat
  refine completes_live hc hp ?_
  rw [hF, State.laneStep, if_pos hat]
  exact modLane_congr (by simp only [hfg, hpc, hcyc])

/-- START for the three alignments of Table 5-15. -/
theorem toneStart_eq {entry w : Nat} (h : entry / 64 % 4 ≤ 2) :
    toneStart entry w = if min w 63 = 0 ∨ entry / 64 % 4 = 0 then 0
      else if entry / 64 % 4 = 1 then (63 - min w 63) / 2 else 63 - min w 63 := by
  unfold toneStart
  rw [show bits entry 7 6 = entry / 64 % 4 from rfl]
  generalize entry / 64 % 4 = al at h ⊢
  obtain rfl | rfl | rfl : al = 0 ∨ al = 1 ∨ al = 2 := by omega
  all_goals simp

/-- Settles O24: element by element, by the equation of `toneStart`. -/
theorem toneStart : Obligations.ToneStart := by
  unfold Obligations.ToneStart
  intro s lane vd va vb w al hw hal h2
  refine laneSteps_of_laneStep rfl rfl ?_ rfl rfl
  refine congrArg _ (List.map_congr_left fun e he => ?_)
  have he : e < 32 := List.mem_range.1 he
  rw [toneStart_eq (hal e ▸ h2 e he), ← hw, ← hal]

end Sys2Proof.Proofs
end

section
/-! PROOF. RELEASE of a scanner (R223): the unit code under which its loop slot leaves detention (R297, R332). -/

namespace Sys2Proof.Proofs

open Sys2Proof Sys2Proof.Machine Sys2Proof.Laws

/-- Scanner `g` released: its own unit, and the loop slot with instance `inst` on its die, out of detention. -/
def releasedAs (inst : Nat) (s : State) (g : Nat) : State :=
  (((((s.undetain 0x11 (scannerStation g) (g % 4)).modScanner g fun x => { x with state := .coast }).undetain 0x20
    (scannerStation g) inst).modLoop (64 * scannerStation g + g % 4) fun l => if l.enabled then l else l.start false).settleLaser
      g).errorReset

/-- RELEASE in DETAINED: the slot that leaves detention has the instance `g % 4`, its local number on the scanner's die (R297). -/
theorem opScannerRelease_detained {s : State} {g : Nat} (hp : s.scannerPresent g = true) (hd : (s.scanner g).state = .detained) :
    opScannerRelease g s = .ok (releasedAs (g % 4) s g) := by
  simp only [opScannerRelease, hp, hd, need]
  rfl

theorem told_scannerRelease {s : State} {g : Nat} (hc : commanded s (0x2900 + g) = true) (hp : s.scannerPresent g = true)
    (hd : (s.scanner g).state = .detained) :
    CompletesTold (.scannerRelease g) s ((releasedAs (g % 4) s g).accept (0x2900 + g)) :=
  told_command rfl hc (opScannerRelease_detained hp hd)

/-- What O32 says of RELEASE: the slot that leaves detention has the number of the slot in the whole part as its instance. -/
theorem releasedAs_number_of_scannerCommands (h : Obligations.ScannerCommands) {s : State} {g : Nat}
    (hc : commanded s (0x2900 + g) = true) (hp : s.scannerPresent g = true) (hd : (s.scanner g).state = .detained) :
    CompletesTold (.scannerRelease g) s ((releasedAs (64 * scannerStation g + g % 4) s g).accept (0x2900 + g)) := by
  obtain ⟨-, -, -, -, -, hrelease, -⟩ := h s g _ hc hp rfl
  exact hrelease hd

/-- A command leaves one state only, so a slot is in detention in both accounts of that state or in neither. -/
theorem slotHeld_eq_of_told {c : Instr} {s t u : State} (ht : CompletesTold c s t) (hu : CompletesTold c s u) (j : Nat) :
    t.settleGroup.slotHeld j = u.settleGroup.slotHeld j := by
  have heq : finish s t.settleGroup = finish s u.settleGroup := Host.Outcome.next.inj (ht.symm.trans hu)
  exact congrArg (·.slotHeld j) heq

/-- Scanner 4, the first of die 1, and its loop slot 64 in detention after a non-finite result of the slot (R305). -/
def slotFaultOnDie1 : State :=
  { State.reset with
    scanners := [(4, { state := .detained })]
    faults := { detained := [(codeKey (faultCode 0 0x20 1 0 0), codeOf 0x20 1 0 2),
                             (codeKey (faultCode 0 0x11 1 0 0), codeOf 0x20 1 0 2)] } }

/-- RELEASE takes slot 64 out of detention. -/
theorem slotHeld_released :
    ((releasedAs (4 % 4) slotFaultOnDie1 4).accept (0x2900 + 4)).settleGroup.slotHeld 64 = false := by decide +kernel

/-- Instance 64 on die 1 is the code of another unit, so slot 64 stays in detention. -/
theorem slotHeld_releasedAs_number :
    ((releasedAs (64 * scannerStation 4 + 4 % 4) slotFaultOnDie1 4).accept (0x2900 + 4)).settleGroup.slotHeld 64 = true := by
  decide +kernel

/-- Refutes O32: its RELEASE clause takes the loop slot out of detention under the instance `j = 64 * scannerStation g + g % 4`,
but the fault code of a slot carries its local number on the die, `g % 4` (R297, R332). The two name one unit on die 0 only: with
scanner 4 of die 1 and its slot 64 in detention, RELEASE frees the slot and the clause leaves it held. -/
theorem not_scannerCommands : ¬ Obligations.ScannerCommands := by
  intro h
  have hc : commanded slotFaultOnDie1 (0x2900 + 4) = true := by decide +kernel
  have hp : slotFaultOnDie1.scannerPresent 4 = true := by decide +kernel
  have hd : (slotFaultOnDie1.scanner 4).state = .detained := by decide +kernel
  have heq := slotHeld_eq_of_told (told_scannerRelease hc hp hd) (releasedAs_number_of_scannerCommands h hc hp hd) 64
  rw [slotHeld_released, slotHeld_releasedAs_number] at heq
  exact Bool.false_ne_true heq

end Sys2Proof.Proofs
end

section
/-! PROOF. DISABLE of a host slot (R307): the unit code under which the slot leaves detention (R297, R332), and the trigger cause it
drops. -/

namespace Sys2Proof.Proofs

open Sys2Proof Sys2Proof.Machine Sys2Proof.Laws

/-- A fitted slot that no unit owns takes the slot commands (R307). -/
theorem hostSlot_ok {s : State} {j : Nat} (hp : s.slotPresent j = true) (ho : (s.slotOwner j).1 = .host) :
    s.hostSlot j = .ok () := by
  simp only [State.hostSlot, hp, ho, need]
  rfl

/-- Slot `j` disabled: out of detention under its local number on its die, and stopped. -/
def slotDisabled (s : State) (j : Nat) : State :=
  ((s.undetain 0x20 (slotDie j) (j % 64)).modLoop j LoopSlot.stop).errorReset

theorem opSlotDisable_host {s : State} {j : Nat} (hp : s.slotPresent j = true) (ho : (s.slotOwner j).1 = .host) :
    opSlotDisable j s = .ok (slotDisabled s j) := by
  rw [opSlotDisable, hostSlot_ok hp ho]
  rfl

theorem completes_slotDisable {s : State} {j : Nat} (hc : commanded s (0x3200 + j) = true) (hp : s.slotPresent j = true)
    (ho : (s.slotOwner j).1 = .host) :
    Completes (.slotDisable j) s ((slotDisabled s j).accept (0x3200 + j)) :=
  completes_command rfl hc (opSlotDisable_host hp ho)

/-- A command leaves one state only. -/
theorem finish_eq_of_completes {c : Instr} {s t u : State} (ht : Completes c s t) (hu : Completes c s u) :
    finish s t = finish s u :=
  Host.Outcome.next.inj (ht.symm.trans hu)

/-- Slot `j` disabled as O40 says: the instance of the undetained unit is the slot's number in the whole part, and the cause of a
trigger stays due. -/
def slotDisabledAsStated (s : State) (j : Nat) : State :=
  ((s.undetain 0x20 (slotDie j) j).modLoop j fun l =>
    { l with enabled := false, trigger := none, waiting := false }).errorReset

theorem slotDisabledAsStated_of_loopSlotCommands (h : Obligations.LoopSlotCommands) {s : State} {j : Nat}
    (hc : commanded s (0x3200 + j) = true) (hp : s.slotPresent j = true) (ho : (s.slotOwner j).1 = .host) :
    Completes (.slotDisable j) s ((slotDisabledAsStated s j).accept (0x3200 + j)) := by
  obtain ⟨-, hdisable, -⟩ := h s j hc hp
  exact hdisable ho

/-- Slot 68, local slot 4 of die 1, enabled with the cause of a trigger come, in detention after a non-finite result (R305). -/
def slot68Held : State :=
  { State.reset with
    slotsL := [(68, { enabled := true, due := true })]
    faults := { detained := [(codeKey (faultCode 0 0x20 1 4 0), codeOf 0x20 1 4 2)] } }

/-- DISABLE takes slot 68 out of detention, and no cause of a trigger stays due. -/
theorem slot68_disabled :
    (finish slot68Held ((slotDisabled slot68Held 68).accept (0x3200 + 68))).slotHeld 68 = false ∧
      ((finish slot68Held ((slotDisabled slot68Held 68).accept (0x3200 + 68))).loopSlot 68).due = false := by
  decide +kernel

/-- Instance 68 on die 1 is the code of another unit, so slot 68 stays in detention; and its cause of a trigger stays due. -/
theorem slot68_disabledAsStated :
    (finish slot68Held ((slotDisabledAsStated slot68Held 68).accept (0x3200 + 68))).slotHeld 68 = true ∧
      ((finish slot68Held ((slotDisabledAsStated slot68Held 68).accept (0x3200 + 68))).loopSlot 68).due = true := by
  decide +kernel

/-- Refutes O40: its DISABLE clause differs from the model in two fields. The clause takes the slot out of detention under the
instance `j`, but the fault code of a slot carries its local number on the die, `j % 64` (R297, R332), which is `j` on die 0 only;
and the clause leaves `due`, which `LoopSlot.stop` clears, on every die. Slot 68 of die 1, held and due, shows both: DISABLE frees
it with nothing due, and the clause leaves it held and due; the proof takes the detention. (The ENABLE clause
has the same instance and leaves `due` as well.) -/
theorem not_loopSlotCommands : ¬ Obligations.LoopSlotCommands := by
  intro h
  have hc : commanded slot68Held (0x3200 + 68) = true := by decide +kernel
  have hp : slot68Held.slotPresent 68 = true := by decide +kernel
  have ho : (slot68Held.slotOwner 68).1 = .host := by decide +kernel
  have heq := finish_eq_of_completes (completes_slotDisable hc hp ho) (slotDisabledAsStated_of_loopSlotCommands h hc hp ho)
  obtain ⟨hfree, -⟩ := slot68_disabled
  rw [heq, slot68_disabledAsStated.1] at hfree
  exact Bool.false_ne_true hfree.symm

end Sys2Proof.Proofs
end

section
/-! PROOF. The read of the timebase (R346): what the dictionary finds at 0x3800:1, and the USDO read of it out of recess (R434). -/

namespace Sys2Proof.Proofs

open Sys2Proof Sys2Proof.Machine Sys2Proof.Laws

/-- Outside the reduced dictionary an index is served only where the part is not in recovery (R494). -/
theorem recovery_of_served {s : State} {index : Nat} (hi : recoveryIndex index = false) (hs : s.served index = true) :
    s.flash.recovery = false := by
  rwa [State.served, hi, Bool.or_false, Bool.not_eq_true'] at hs

theorem findObj_timebase : findObj 0x3800 1 = some ⟨0x3800, 0x3800, 1, 2, .u64, .ro, .tpdo, 0, none, .any⟩ := by
  decide +kernel

theorem indexListed_timebase : indexListed 0x3800 = true := by decide +kernel

/-- The object belongs to no die, so no fence takes it away. -/
theorem objPresent_timebase (s : State) : s.objPresent 0x3800 1 false = true := rfl

theorem readCheck_timebase {s : State} (hs : s.served 0x3800 = true) :
    s.readCheck 0x3800 1 = .ok ⟨0x3800, 0x3800, 1, 2, .u64, .ro, .tpdo, 0, none, .any⟩ := by
  have hr : s.flash.recovery = false := recovery_of_served rfl hs
  rw [State.readCheck, hs, hr, indexListed_timebase, findObj_timebase, objPresent_timebase]
  rfl

theorem readNumber_timebase (s : State) : s.readNumber 0x3800 1 = s.timebase := rfl

/-- The read leaves the value and the answer "accepted", and draws nothing. -/
theorem readObject_timebase {s : State} (hs : s.served 0x3800 = true) :
    s.readObject 0x3800 1 = { s with resp := none, answer := numBytes 8 s.timebase } := by
  rw [State.readObject, readCheck_timebase hs, ← readNumber_timebase s]
  rfl

/-! What the end of recess leaves as it was. -/

@[simp] theorem awake_timebase (s : State) : s.awake.timebase = s.timebase := by
  obtain ⟨th, tr, fs, h⟩ := awake_eq s
  rw [h]

@[simp] theorem awake_served (s : State) (index : Nat) : s.awake.served index = s.served index := by
  obtain ⟨th, tr, fs, h⟩ := awake_eq s
  rw [h]
  rfl

@[simp] theorem awake_usdoServed (s : State) (ctrl : Nat) : s.awake.usdoServed ctrl = s.usdoServed ctrl := by
  obtain ⟨th, tr, fs, h⟩ := awake_eq s
  rw [h]
  rfl

theorem execUsdoRequest_read {s : State} {ctrl : Nat} (hu : s.usdoServed ctrl = true) (index sub : Nat) :
    execUsdoRequest ctrl index sub .read s = s.usdoRead ctrl index sub := by
  rw [execUsdoRequest, hu]
  rfl

/-- A USDO read, in recess or out of it: the pair wakes and then serves it. -/
theorem told_usdoRead {s : State} {ctrl : Nat} (hp : s.powered = true) (hu : s.usdoServed ctrl = true) (index sub : Nat) :
    CompletesTold (.usdoRequest ctrl index sub .read) s (s.awake.usdoRead ctrl index sub) := by
  refine told_live rfl hp ?_
  rw [waking, execUsdoRequest_read (by rwa [awake_usdoServed])]

theorem usdoRead_timebase {s : State} (hs : s.served 0x3800 = true) (ctrl : Nat) :
    s.usdoRead ctrl 0x3800 1 =
      ({ s with resp := none, answer := numBytes 8 s.timebase } : State).usdoAnswer ctrl (numBytes 8 s.timebase) := by
  rw [State.usdoRead, readObject_timebase hs]

/-- Settles O11: the dictionary's read of 0x3800:1, and the same read over CAN FD by the pair once it is awake; waking
leaves the timebase. -/
theorem timebaseReads : Obligations.TimebaseReads := by
  unfold Obligations.TimebaseReads
  rintro s ctrl t hp hu hs rfl
  refine ⟨readObject_timebase hs, ?_⟩
  rw [← awake_timebase s, ← usdoRead_timebase ((awake_served s 0x3800).trans hs)]
  exact told_usdoRead hp hu 0x3800 1

end Sys2Proof.Proofs
end

section
/-! PROOF. The cool-down after a thermal shut-down (R433): what standby keeps of the power state, and the wakes that find the part
cooling. -/

namespace Sys2Proof.Proofs

open Sys2Proof Sys2Proof.Machine Sys2Proof.Laws

/-! What leaves the power state as it was. -/

@[simp] theorem finish_power (s t : State) : (finish s t).power = t.power := rfl

@[simp] theorem tearStep_power (s : State) (x : FlashStep) : (s.tearStep x).power = s.power := by
  unfold State.tearStep
  split
  · rfl
  · cases x <;> rfl

@[simp] theorem dropFlash_power (s : State) : s.dropFlash.power = s.power := by
  unfold State.dropFlash
  dsimp only
  split <;> rfl

@[simp] theorem abandonFlash_power (s : State) : s.abandonFlash.power = s.power := by
  unfold State.abandonFlash
  split <;> simp

@[simp] theorem watchPair_power (s : State) (k : Nat) : (s.watchPair k).power = s.power := by
  unfold State.watchPair
  split <;> rfl

@[simp] theorem followInputs_power (s : State) : s.followInputs.power = s.power := by
  simp [State.followInputs, upTo, List.range_succ]

@[simp] theorem senseFaultn_power (s : State) : s.senseFaultn.power = s.power := by
  unfold State.senseFaultn
  split <;> rfl

/-! What changes a part of it. -/

/-- A loss of power leaves the standby domain its power state; the counter goes on from its value at the loss (R417). -/
theorem lose_power (s : State) (kept : Bool) :
    (s.lose kept).power = { s.power with rtc := s.abandonFlash.rtcNow, rtcAt := 0, grace := false, supplies := [] } := by
  simp [State.lose]

/-- Time that passes in standby moves the real-time counter only. -/
theorem standbyTime_power (s : State) : ∃ rtc, s.standbyTime.power = { s.power with rtc } := by
  unfold State.standbyTime
  split <;> exact ⟨_, rfl⟩

/-- A record changes its slot and the next record number only (R424). -/
theorem putRecord_power (s : State) (event step : Nat) (f : PowerRec → PowerRec) :
    ∃ slot0 slot1 nextRec, (s.putRecord event step f).power = { s.power with slot0, slot1, nextRec } := by
  unfold State.putRecord
  dsimp only
  split
  · exact ⟨_, _, _, rfl⟩
  · split <;> exact ⟨_, _, _, rfl⟩

/-! Into standby, and out of it. -/

theorem execShutdownStepComplete_done {s : State} {readings : List Nat} (hs : s.power.seq = .shutDown)
    (hd : ((s.railsOf s.power.step).all (s.setReadings readings).railDown) = true) :
    execShutdownStepComplete readings s =
      ((s.setReadings readings).standbyTime.putRecord 3 s.power.step id).stepDown s.power.step :=
  if_pos ⟨hs, hd⟩

theorem stepDown_last {s : State} {k : Nat} (h : s.stepBelow k = none) : s.stepDown k = s.enterStandby := by
  rw [State.stepDown, h]

/-- The last record is written, everything outside the standby domain is lost, and standby begins: what `enterStandby` has done when
it looks for a wake that was held. -/
def standbyBegun (s : State) : State :=
  let u := (({ s with power := { s.power with enables := 0, stbyok := true } }).putRecord 7 0 id).lose false
  { u with power := { u.power with
      seq := .standby, cooling := decide (u.power.cause = 5) || decide (u.power.cause = 6) } }

theorem standbyBegun_cooling {s : State} (hc : s.power.cause = 5 ∨ s.power.cause = 6) :
    (standbyBegun s).power.cooling = true := by
  obtain ⟨slot0, slot1, n, h⟩ := putRecord_power { s with power := { s.power with enables := 0, stbyok := true } } 7 0 id
  unfold standbyBegun
  dsimp only
  rw [lose_power, h]
  simpa using hc

/-- Standby entered by a domain that cools: a wake that was held is dropped. -/
theorem enterStandby_cooling {s : State} (hc : (standbyBegun s).power.cooling = true) :
    s.enterStandby.power = { (standbyBegun s).power with wakeHeld := false } := by
  have he : s.enterStandby =
      if (standbyBegun s).power.wakeHeld then
        if (standbyBegun s).power.cooling then
          { standbyBegun s with power := { (standbyBegun s).power with wakeHeld := false } }
        else (standbyBegun s).beginPowerUp true
      else standbyBegun s := rfl
  rw [he, if_pos hc]
  split
  case isTrue => rfl
  case isFalse hw => rw [← eq_false_of_ne_true hw]

/-- Standby entered after a thermal shut-down (R433). -/
theorem enterStandby_thermal {s : State} (hc : s.power.cause = 5 ∨ s.power.cause = 6) :
    s.enterStandby.power.seq = .standby ∧ s.enterStandby.power.cooling = true ∧
      s.enterStandby.power.wakeHeld = false := by
  rw [enterStandby_cooling (standbyBegun_cooling hc)]
  exact ⟨rfl, standbyBegun_cooling hc, rfl⟩

/-- The wake logic of a domain that cools does nothing. -/
theorem wake_cooling {s : State} (h : s.power.cooling = true) : s.wake = s := if_pos (.inr h)

/-- The edge moves the real-time counter at most. -/
theorem execWakeEdge_cooling {s : State} (falling : Bool) (h : s.power.cooling = true) :
    ∃ rtc, (execWakeEdge falling s).power = { s.power with rtc } := by
  obtain ⟨rtc, ht⟩ := standbyTime_power s
  unfold execWakeEdge
  dsimp only
  split
  · exact ⟨rtc, by rw [wake_cooling (by rw [ht]; exact h), ht]⟩
  · exact ⟨_, rfl⟩

/-- The alarm moves the real-time counter at most. -/
theorem execRtcAlarm_cooling {s : State} (h : s.power.cooling = true) :
    ∃ rtc rtcAt, (execRtcAlarm s).power = { s.power with rtc, rtcAt } := by
  unfold execRtcAlarm
  split
  · rw [wake_cooling (by exact h)]
    exact ⟨_, _, rfl⟩
  · exact ⟨_, _, rfl⟩

/-- Settles O10: the shut-down step that was the last enters standby cooling, and there neither wake changes more of the power
state than the real-time counter. -/
theorem coolDownIgnoresWake : Obligations.CoolDownIgnoresWake := by
  unfold Obligations.CoolDownIgnoresWake
  refine fun s => ⟨?shutDown, ?edge, ?alarm, _, rfl, rfl⟩
  case shutDown =>
    rintro readings t hs hc hd rfl hlast
    refine ⟨_, completes_always rfl ((execShutdownStepComplete_done hs hd).trans (stepDown_last hlast)), ?_⟩
    obtain ⟨rtc, ht⟩ := standbyTime_power (s.setReadings readings)
    obtain ⟨a, b, n, hr⟩ := putRecord_power (s.setReadings readings).standbyTime 3 s.power.step id
    refine enterStandby_thermal ?_
    rw [hr, ht]
    exact hc
  case edge =>
    intro falling hs hc
    obtain ⟨rtc, h⟩ := execWakeEdge_cooling falling hc
    refine ⟨_, completes_always rfl rfl, ?_⟩
    rw [finish_power, h]
    exact ⟨hs, hc, rfl, rfl⟩
  case alarm =>
    intro hs hc
    obtain ⟨rtc, rtcAt, h⟩ := execRtcAlarm_cooling hc
    refine ⟨_, completes_always rfl rfl, ?_⟩
    rw [finish_power, h]
    exact ⟨hs, hc, rfl, rfl⟩

end Sys2Proof.Proofs
end

section
/-! PROOF. NMT start of an unsealed part, or of one with a fatal fault latched (R448): what the end of recess leaves for it to find, and
the reason in 0x2008:2. -/

namespace Sys2Proof.Proofs

open Sys2Proof Sys2Proof.Machine Sys2Proof.Laws

/-! The end of recess may write to the trace, and what the trace has no room for goes to the collector's inbox: no fault becomes
latched by it. -/

@[simp] theorem traceWords_fatal (s : State) (ws : List Nat) (ref : Nat) :
    (s.traceWords ws ref).faults.fatal = s.faults.fatal := by
  unfold State.traceWords
  dsimp only
  split
  · split <;> rfl
  · rfl

@[simp] theorem traceLost_fatal (s : State) : s.traceLost.faults.fatal = s.faults.fatal := by
  unfold State.traceLost
  split
  · rfl
  · exact traceWords_fatal ..

@[simp] theorem traceMarker_fatal (s : State) (ty n : Nat) : (s.traceMarker ty n).faults.fatal = s.faults.fatal := by
  unfold State.traceMarker
  split
  · rfl
  · exact (traceWords_fatal ..).trans (traceLost_fatal s)

@[simp] theorem leaveRecess_fatal (s : State) (d : Nat) : (s.leaveRecess d).faults.fatal = s.faults.fatal := by
  unfold State.leaveRecess
  split
  · rfl
  · dsimp only
    split
    · exact traceMarker_fatal ..
    · rfl

@[simp] theorem awake_fatal (s : State) : s.awake.faults.fatal = s.faults.fatal := leaveRecess_fatal ..

@[simp] theorem awake_nmt (s : State) : s.awake.nmt = s.nmt := by
  obtain ⟨th, tr, fs, h⟩ := awake_eq s
  rw [h]

@[simp] theorem awake_sealed (s : State) : s.awake.sealed = s.sealed := by
  obtain ⟨th, tr, fs, h⟩ := awake_eq s
  rw [h]

/-! The two reasons: the seal is looked at first. -/

theorem execNmtStart_unsealed {s : State} (hb : s.nmt.booted = true) (hs : s.sealed.on = false) :
    execNmtStart s = { s with nmt := { s.nmt with refusal := 1 } } := by
  simp [execNmtStart, hb, hs]

theorem execNmtStart_fatal {s : State} (hb : s.nmt.booted = true) (hs : s.sealed.on = true) (hf : s.faults.fatal = true) :
    execNmtStart s = { s with nmt := { s.nmt with refusal := 2 } } := by
  simp [execNmtStart, hb, hs, hf]

/-- Unsealed, with or without a fatal fault. -/
theorem told_nmtStart_unsealed {s : State} (hp : s.powered = true) (hb : s.nmt.booted = true) (hs : s.sealed.on = false) :
    CompletesTold .nmtStart s { s.awake with nmt := { s.nmt with refusal := 1 } } := by
  refine told_live rfl hp ?_
  rw [waking, execNmtStart_unsealed (by rwa [awake_nmt]) (by rwa [awake_sealed]), awake_nmt]

theorem told_nmtStart_fatal {s : State} (hp : s.powered = true) (hb : s.nmt.booted = true) (hs : s.sealed.on = true)
    (hf : s.faults.fatal = true) :
    CompletesTold .nmtStart s { s.awake with nmt := { s.nmt with refusal := 2 } } := by
  refine told_live rfl hp ?_
  rw [waking, execNmtStart_fatal (by rwa [awake_nmt]) (by rwa [awake_sealed]) (by rwa [awake_fatal]), awake_nmt]

/-! The object that shows the reason. -/

theorem findObj_nmtRefusal : findObj 0x2008 2 = some ⟨0x2008, 0x2008, 2, 2, .u8, .ro, .none, 0, none, .any⟩ := by
  decide +kernel

theorem indexListed_nmt : indexListed 0x2008 = true := by decide +kernel

/-- The node's objects belong to no die. -/
theorem objPresent_nmtRefusal (s : State) : s.objPresent 0x2008 2 false = true := rfl

theorem readCheck_nmtRefusal {s : State} (hs : s.served 0x2008 = true) :
    s.readCheck 0x2008 2 = .ok ⟨0x2008, 0x2008, 2, 2, .u8, .ro, .none, 0, none, .any⟩ := by
  have hr : s.flash.recovery = false := recovery_of_served rfl hs
  rw [State.readCheck, hs, hr, indexListed_nmt, findObj_nmtRefusal, objPresent_nmtRefusal]
  rfl

theorem readNumber_nmtRefusal (s : State) : s.readNumber 0x2008 2 = s.nmt.refusal := rfl

theorem numBytes_one {v : Nat} (h : v < 256) : numBytes 1 v = [v] :=
  congrArg (· :: []) (Nat.mod_eq_of_lt h)

theorem readObject_nmtRefusal {s : State} (hs : s.served 0x2008 = true) :
    (s.readObject 0x2008 2).answer = numBytes 1 s.nmt.refusal := by
  rw [State.readObject, readCheck_nmtRefusal hs, ← readNumber_nmtRefusal s]
  rfl

/-- Settles O9: the pair that wakes finds the seal and the latched fault as they were, and the reason that it records is the one byte
of 0x2008:2. -/
theorem nmtStartRefused : Obligations.NmtStartRefused := by
  unfold Obligations.NmtStartRefused
  refine fun s hp hb => ⟨?unsealed, ?fatal, ?both, ?read⟩
  case unsealed => exact fun hs _ => told_nmtStart_unsealed hp hb hs
  case fatal => exact told_nmtStart_fatal hp hb
  case both => exact fun hs _ => ⟨1, .inl rfl, told_nmtStart_unsealed hp hb hs⟩
  case read =>
    intro hs hv
    rw [readObject_nmtRefusal hs, numBytes_one hv]

end Sys2Proof.Proofs
end

section
/-! PROOF. The gate that every command passes, and what it gives of the machine as a whole: the step, its invariant, the unpowered part
(R417, R513), NMT STOPPED (Table 15-2), and the state at reset. -/

namespace Sys2Proof.Proofs

open Sys2Proof Sys2Proof.Machine Sys2Proof.Laws

theorem liveGroup_live (s : State) (f : State → State) : ∃ g, liveGroup s f = live s g := ⟨_, rfl⟩

theorem liveInput_always (src : Nat) (high : Bool) (s : State) (f : State → State) :
    ∃ g, liveInput src high s f = always s g := ⟨_, rfl⟩

theorem rowRailDeparture_always (r : Nat) (readings : List Nat) (s : State) :
    ∃ g, rowRailDeparture r readings s = always s g := ⟨_, by unfold rowRailDeparture; rfl⟩

/-- Every arm of `exec` is a row under `always`: a next state, with the queue and the variant as they were. -/
theorem exec_always (c : Instr) (s : State) : ∃ f, exec c s = always s f := by
  cases c with
  | hazardDemand | hazardSourceClear => exact liveInput_always ..
  | railDeparture => exact rowRailDeparture_always ..
  | _ => exact ⟨_, rfl⟩

/-- A row outside the standby domain, the balls and the inputs of the hazard net acts on a powered part only: under `live`, or under
`liveGroup` where the group is told. -/
theorem exec_live (c : Instr) (s : State) : actsUnpowered c = true ∨ ∃ f, exec c s = live s f := by
  cases c with
  | hazardDemand | hazardSourceClear | vstbyApplied | vstbyLoss | onDelayElapsed | powerUpStepComplete | pgTimeout |
  shutdownStepComplete | dischargeTimeout | railDeparture | coolDownElapsed | wakeEdge | rtcAlarm | boot | porn | strapSample |
  tckEdge =>
    exact .inl rfl
  | declare | withdraw | storeGrant | commit | commitDeadline | bell | decelerationStart | webAtRest | reverseComplete |
  correctiveMoveDone | restart | restartSpeedReached | fuserNipClosePoint | timetableRun | timetableHalt | timetableEnd |
  descriptorFetch | dmaBeat | dmaReadCompletion | completionTimeout | lineStored | descriptorComplete | functionLevelReset |
  hotReset | pcieLinkLoss | channelLost | lineStartCommitment | bdEdge | bdMissing | phaseSample | lineStart | lineEnd |
  scannerStart | scannerStop | scannerRelease | scannerRelearn | spinUpElapsed | statusFrame | identFrame | statusTimeout |
  identTimeout | retrainElapsed | linkEnable | linkDisable | linkClear | laserEnReadbackMismatch | bdWatchdog | bdRetryElapsed |
  countEdge | encoderAlarm | serialReadStart | serialWord | serialWordTimeout | moveComplete | haltComplete | hallChange |
  pwmPeriod | stepEmit | conversionComplete | loopTrigger | loopComputation | deltaSigmaInputLost | zeroCrossing |
  zeroCrossTimeout | fuserSample | bandHoldElapsed | zoneStart | zoneStop | zoneClear | zoneSetback | zoneResume | nipOpen |
  nipClose | pllLock | pllLockTimeout | pllLossOfLock | refclkLost | vote | commitFrame | late | portDown | roll | census |
  partNotHeard | syncReply | state_ | haltReport | align_ | tunnelReq | hazardSet | minorityStop | automaticRelease |
  discrepancyTimeout | hazardRelease | faultCollect | lockstepMismatch | supervisorWatchdogExpiry | gateReadbackMismatch |
  hazardNodeDisagreement | thermalModelTick | flashGraceExpiry | housekeepingRound | speedRequestTimer | usdoRequest | usdoSegment
  | mirrorRead | mirrorWrite | registerWrite | nmtStart | nmtStop | nmtEnterPreOperational | nmtResetNode | nmtResetCommunication
  | nmtDeferredTransition | canBusOff | heartbeatTimeout | rpdo | syncMessage =>
    exact .inr (liveGroup_live ..)
  | _ => exact .inr ⟨_, rfl⟩

/-- A command that writes a command object is a command of the dictionary over that object. -/
theorem exec_command (c : Instr) (s : State) :
    writtenObject c = none ∨ ∃ index op, writtenObject c = some index ∧
      (exec c s = live s (command index op) ∨ exec c s = liveGroup s (command index op)) := by
  cases c with
  | masterWebEncoderWrite | webScaleWrite | webDirectionWrite | webPositionPreset | printableWidthWrite | nextOriginWrite |
  bandModeWrite | applyToneTable | applyStitchSettings | channelClear | channelArm | channelSet | compareAppend |
  compareConfigWrite | axisEnable | axisDisable | move | jog | gear | axisHalt | axisStop | setPosition | axisClear | tension |
  slotEnable | slotDisable | slotSelectBank0 | slotSelectBank1 | slotClearFlags | hvEnable | hvDisable | hvClear |
  fuserRunSetpointWrite | dividerCommit | outputEnableWrite | auxPllConfigWrite | tunnelSend | seal_ | clearFaultLatch | clearLog
  | injectionArm | injectionCancel | standby | errorListClear | traceEnableWrite | hostAreaRead | hostAreaProgram | hostAreaErase
  | storeSettings | restoreDefaults | transferBegin | transferCancel | transferVerify | piece | confirm | revert |
  mfioFunctionWrite =>
    exact .inr ⟨_, _, rfl, .inl rfl⟩
  | declare | withdraw | timetableRun | timetableHalt | timetableEnd | scannerStart | scannerStop | scannerRelease |
  scannerRelearn | linkEnable | linkDisable | linkClear | zoneStart | zoneStop | zoneClear | zoneSetback | zoneResume | nipOpen |
  nipClose | hazardRelease =>
    exact .inr ⟨_, _, rfl, .inr rfl⟩
  | _ => exact .inl rfl

/-! The step. -/

/-- Settles O1: taking the command off again gives the state back. -/
theorem stepRunsFrontCommand : Obligations.StepRunsFrontCommand := by
  unfold Obligations.StepRunsFrontCommand
  exact fun s c => rfl

/-- Settles O2: at reset nothing has counted, nothing waits and nothing is stored. -/
theorem resetMeetsInvariant : Obligations.ResetMeetsInvariant := by
  unfold Obligations.ResetMeetsInvariant
  refine ⟨Nat.two_pow_pos 64, fun c hc => ?_, reset_cells⟩
  exact absurd hc List.not_mem_nil

theorem step_nil {s : State} (h : s.pending = []) : step s = idle s := by
  unfold step
  rw [h]

theorem step_cons {s : State} {c : Instr} {rest : List Instr} (h : s.pending = c :: rest) :
    step s = exec c { s with pending := rest } := by
  unfold step
  rw [h]

/-- A step is one command, or one tick, under `always`, on the state without the command it took. -/
theorem step_always (s : State) : ∃ f, step s = always { s with pending := s.pending.tail } f := by
  cases h : s.pending with
  | nil =>
    rw [step_nil h, List.tail_nil, ← h]
    exact ⟨_, rfl⟩
  | cons c rest =>
    rw [step_cons h]
    exact exec_always c _

/-- Settles O3: every step is under `always`, which keeps the queue's rest and the variant and bounds the timebase. -/
theorem stepsKeepTheInvariant : Obligations.StepsKeepTheInvariant := by
  unfold Obligations.StepsKeepTheInvariant
  intro s _ hq
  obtain ⟨f, hf⟩ := step_always s
  obtain ⟨t, ht, hpending, hvariant, htime⟩ := always_keeps { s with pending := s.pending.tail } f
  refine ⟨t, hf.trans ht, htime, fun c hc => hq c ?_, hpending, hvariant⟩
  rw [hpending] at hc
  exact List.mem_of_mem_tail hc

/-! The unpowered part, and NMT STOPPED. -/

/-- Settles O5: such a command runs under `live`. -/
theorem unpoweredPartFrozen : Obligations.UnpoweredPartFrozen := by
  unfold Obligations.UnpoweredPartFrozen
  intro s c hp hc
  obtain h | ⟨f, hf⟩ := exec_live c s
  · exact absurd h (by simp [hc])
  · exact hf.trans (live_off hp f)

@[simp] theorem awake_flash (s : State) : s.awake.flash = s.flash := by
  obtain ⟨th, tr, fs, h⟩ := awake_eq s
  rw [h]

/-- In NMT STOPPED a command of the dictionary is refused, and the access ends the lead pair's recess. -/
theorem command_refused_stopped {s : State} {index : Nat} {op : State → Except Abort State} (hb : s.nmt.booted = true)
    (hs : s.served index = true) (hn : s.nmt.state = .stopped) : command index op s = s.awake.refuse .state := by
  simp [command, hb, hs, hn]

/-- Settles O6: each of these commands is one of the dictionary, and STOPPED refuses it before its own rules. -/
theorem stoppedRefusesCommands : Obligations.StoppedRefusesCommands := by
  unfold Obligations.StoppedRefusesCommands
  intro s c index hw hp hb hs hn
  obtain h | ⟨i, op, hi, hlive | htold⟩ := exec_command c s
  · exact absurd (h.symm.trans hw) (by simp)
  all_goals obtain rfl : i = index := Option.some.inj (hi.symm.trans hw)
  · exact .inl (completes_live hlive hp (command_refused_stopped hb hs hn))
  · exact .inr (told_live htold hp (command_refused_stopped hb hs hn))

/-! The state at reset. -/

/-- Settles O4: no table of the reset state lists anything, so each reads as its default. -/
theorem resetLeaves : Obligations.ResetLeaves := by
  unfold Obligations.ResetLeaves
  rintro s rfl
  refine ⟨fun _ _ => rfl, fun _ _ => rfl, rfl, rfl, rfl, rfl, rfl, rfl, rfl, rfl, rfl, rfl, rfl, fun _ => rfl, fun _ => rfl,
    fun _ => rfl, fun _ => rfl, fun _ => rfl, fun _ => rfl, fun _ => rfl, fun _ => rfl, fun l k => ⟨rfl, ?_⟩⟩
  show (if k % 16 = 0 then (0 : Word) else 0) = 0
  exact ite_self 0

end Sys2Proof.Proofs
end

section
/-! PROOF. The lane operations (R148 to R158): each is one step or one jump of its lane's program, with the change that its row of
Table 5-13 gives, or a program fault. -/

namespace Sys2Proof.Proofs

open Sys2Proof Sys2Proof.Machine Sys2Proof.Laws

variable {s : State} {lane w cyc : Nat} {f g : Lane → Lane} {c : Instr} {F : State → State}

/-! What the lane's own updates leave to the step. -/

@[simp] theorem setReg_pc (l : Lane) (r : Nat) (v : Word) : (l.setReg r v).pc = l.pc := by
  unfold Lane.setReg
  split <;> rfl

@[simp] theorem setReg_cycles (l : Lane) (r : Nat) (v : Word) : (l.setReg r v).cycles = l.cycles := by
  unfold Lane.setReg
  split <;> rfl

/-- A change that keeps the PC and the cycles. -/
def KeepsCount (f : Lane → Lane) : Prop := ∀ l, (f l).pc = l.pc ∧ (f l).cycles = l.cycles

theorem keepsCount_setReg {r : Nat} {v : Lane → Word} : KeepsCount fun l => l.setReg r (v l) :=
  fun _ => ⟨setReg_pc .., setReg_cycles ..⟩

theorem keepsCount_setVec {r : Nat} {v : Lane → List Byte} : KeepsCount fun l => l.setVec r (v l) := fun _ => ⟨rfl, rfl⟩

theorem keepsCount_setData {a : Nat} {v : Lane → List Nat} : KeepsCount fun l => l.setData a (v l) := fun _ => ⟨rfl, rfl⟩

/-- A command that is one step of its lane. -/
theorem laneSteps_of_eq (hc : exec c s = live s F) (hF : F s = s.laneStep lane w cyc f) (hf : KeepsCount f) :
    LaneSteps c s lane w cyc f :=
  laneSteps_of_laneStep hc hF rfl (hf _).1 (hf _).2

/-- A command that is one jump of its lane, where the two changes agree on the lane as it stands. -/
theorem laneJumps_of_laneJump (hc : exec c s = live s F) (hF : F s = s.laneJump lane w cyc g)
    (hfg : g (s.lane lane) = f (s.lane lane)) : LaneJumps c s lane w cyc f := by
  intro hp hat
  refine completes_live hc hp ?_
  rw [hF, State.laneJump, if_pos hat]
  exact modLane_congr (by simp only [hfg])

/-- A command that is one jump of its lane, with the change as stated. -/
theorem laneJumps_of_eq (hc : exec c s = live s F) (hF : F s = s.laneJump lane w cyc f) : LaneJumps c s lane w cyc f :=
  laneJumps_of_laneJump hc hF rfl

/-- A command that is a step of its lane but for a program fault that does not come. -/
theorem not_fault_branch {α : Type} {a b : Bool} (hb : b = true) (x y : α) : (if (a && !b) = true then x else y) = y := by
  simp [hb]

/-! Tables 5-7 and 5-8. -/

/-- Settles O19: NOP leaves the lane, and every other operation is one write of SD. -/
theorem laneScalarOps : Obligations.LaneScalarOps := by
  unfold Obligations.LaneScalarOps
  refine fun s lane sd sa sb => ⟨laneSteps_of_eq rfl rfl fun _ => ⟨rfl, rfl⟩, ?_, ?_, ?_, ?_, ?_, ?_, ?_⟩
  all_goals exact laneSteps_of_eq rfl rfl keepsCount_setReg

/-- Settles O20: the operations with an immediate and GETS write SD, and so does a load from an address that is in range and
aligned; a store writes the data memory. -/
theorem laneImmediateOps : Obligations.LaneImmediateOps := by
  unfold Obligations.LaneImmediateOps
  refine fun s lane sd sa imm i => ⟨?_, ?_, ?_, ?_, ?_, ?_, ?_, fun a ha hok => ⟨?ldw, ?stw⟩⟩
  case ldw =>
    subst ha
    exact laneSteps_of_eq rfl (not_fault_branch hok ..) keepsCount_setReg
  case stw =>
    subst ha
    exact laneSteps_of_eq rfl (not_fault_branch hok ..) keepsCount_setData
  all_goals exact laneSteps_of_eq rfl rfl keepsCount_setReg

/-! Table 5-9. -/

theorem wordB_mod (op sa sb target : Nat) : wordB op sa sb (target % 2048) = wordB op sa sb target := by
  simp [wordB]

/-- A branch on the condition that its operation names. -/
theorem laneJumps_branch {op sa sb target : Nat} {p : Word → Word → Bool} {q : Lane → Prop} [DecidablePred q]
    (hc : exec c s = live s F) (hF : F s = s.branchOp lane op sa sb (target % 2048) p)
    (hq : ∀ l : Lane, p (l.reg sa) (l.reg sb) = true ↔ q l) :
    LaneJumps c s lane (wordB op sa sb target) 0 fun l =>
      if q l then { l with pc := target % 2048, cycles := l.cycles + 2 }
      else { l with pc := l.pc + 1, cycles := l.cycles + 1 } := by
  rw [State.branchOp, wordB_mod] at hF
  refine laneJumps_of_laneJump hc hF ?_
  simp only [hq]

theorem execLoop_change (l : Lane) (sa target : Nat) :
    (if l.reg sa - 1 ≠ 0 then { l.setReg sa (l.reg sa - 1) with pc := target % 2048 }
      else { l.setReg sa (l.reg sa - 1) with pc := (l.setReg sa (l.reg sa - 1)).pc + 1 }) =
    { l.setReg sa (l.reg sa - 1) with pc := if l.reg sa - 1 ≠ 0 then target % 2048 else l.pc + 1 } := by
  rw [setReg_pc]
  split <;> rfl

/-- What ENDL leaves of its lane, before its own cycle: the bank in use is free, and the buffer in use holds a finished code line. -/
def endedLine (l : Lane) : Lane :=
  { l with
    active := false
    cyclesLast := l.cycles + 1
    cyclesPeak := max l.cyclesPeak (l.cycles + 1)
    sweeps := wrapInc 32 l.sweeps
    bank0 := { l.bank0 with busy := l.bank0.busy && l.bankSel }
    bank1 := { l.bank1 with busy := l.bank1.busy && !l.bankSel }
    buf0 := { l.buf0 with ready := l.buf0.ready || !l.bufSel }
    buf1 := { l.buf1 with ready := l.buf1.ready || l.bufSel } }

theorem execEndl_in_time (h : s.pastDeadline lane = false) :
    execEndl lane s = s.laneJump lane (wordB 0x1C 0 0 0) 1 endedLine := by
  rw [execEndl, h, if_neg Bool.false_ne_true]
  congr 1
  funext l
  unfold endedLine
  cases l.bankSel <;> cases l.bufSel <;> simp

/-- Settles O21: a jump sets the PC, a branch sets it on its condition, and ENDL ends the line of a program that is in time. -/
theorem laneBranches : Obligations.LaneBranches := by
  unfold Obligations.LaneBranches
  refine fun s lane sa sb target => ⟨?jmp, ?beq, ?bne, ?blt, ?bge, ?loop, ?call, ?ret, ?late, ?endl⟩
  case jmp => exact laneJumps_of_eq rfl rfl
  case beq => exact laneJumps_branch rfl rfl fun _ => decide_eq_true_iff
  case bne => exact laneJumps_branch rfl rfl fun _ => decide_eq_true_iff
  case blt => exact laneJumps_branch rfl rfl fun _ => Iff.rfl
  case bge => exact laneJumps_branch rfl rfl fun _ => iff_of_eq (Bool.not_eq_true' _)
  case loop => exact laneJumps_of_laneJump rfl rfl (execLoop_change ..)
  case call =>
    intro hroom
    refine laneJumps_of_eq rfl ?_
    rw [Machine.execCall, decide_eq_false (by omega), Bool.and_false, if_neg Bool.false_ne_true]
  case ret =>
    intro a rest hstack
    refine laneJumps_of_eq rfl ?_
    rw [Machine.execRet, hstack, decide_eq_false (List.cons_ne_nil a rest), Bool.and_false, if_neg Bool.false_ne_true]
  case late => exact fun hp h => completes_live rfl hp (if_pos h)
  case endl => exact fun h => laneJumps_of_eq rfl (execEndl_in_time h)

/-! Tables 5-11 and 5-13. -/

/-- Settles O22: every vector operation is one write of VD. -/
theorem laneVectorOps : Obligations.LaneVectorOps := by
  unfold Obligations.LaneVectorOps
  refine fun s lane vd va vb sa imm => ⟨?_, ?_, ?_, ?_, ?_, ?_, ?_, ?_, ?_, ?_⟩
  all_goals exact laneSteps_of_eq rfl rfl keepsCount_setVec

theorem keepsCount_emit {h k : Lane → CodeBuf} :
    KeepsCount fun l => if l.bufSel then { l with buf1 := h l } else { l with buf0 := k l } := by
  intro l
  dsimp only
  split <;> exact ⟨rfl, rfl⟩

/-- Settles O23: the operations of the window, the vector memory and the tone table write VD, VST the data memory, and EMIT the code
buffer in use. -/
theorem laneWindowAndTone : Obligations.LaneWindowAndTone := by
  unfold Obligations.LaneWindowAndTone
  refine fun s lane vd va vb sa line imm off => ⟨?_, ?_, fun a ha hok => ⟨?vld, ?vst⟩, ?_, ?_, ?emit⟩
  case vld =>
    subst ha
    exact laneSteps_of_eq rfl (not_fault_branch hok ..) keepsCount_setVec
  case vst =>
    subst ha
    exact laneSteps_of_eq rfl (not_fault_branch hok ..) keepsCount_setData
  case emit => exact laneSteps_of_eq rfl rfl keepsCount_emit
  all_goals exact laneSteps_of_eq rfl rfl keepsCount_setVec

/-! Program faults. -/

/-- A command whose program stands at its word, and whose fault has come. -/
theorem completes_fault {a b : Bool} {cause : Nat} {x : State} (hc : exec c s = live s F) (hp : s.powered = true)
    (hF : F s = if (a && b) = true then s.programFault lane cause else x) (ha : a = true) (hb : b = true) :
    Completes c s (s.programFault lane cause) := by
  refine completes_live hc hp ?_
  rw [hF, ha, hb]
  rfl

theorem completes_addressFault {a ok : Bool} {x : State} (hc : exec c s = live s F) (hp : s.powered = true)
    (hF : F s = if (a && !ok) = true then s.programFault lane 4 else x) (ha : a = true) (hok : ok = false) :
    Completes c s (s.programFault lane 4) :=
  completes_fault hc hp hF ha (by rw [hok]; rfl)

/-- Settles O25: the fault of each operation is looked at before its step. -/
theorem laneProgramFaults : Obligations.LaneProgramFaults := by
  unfold Obligations.LaneProgramFaults
  refine fun s lane hp => ⟨?illegal, ?call, ?ret, ?ldw, ?stw, ?vld, ?vst⟩
  case illegal => exact fun hl ha hr hw => completes_live rfl hp (execIllegalInstruction_fault hl ha hr hw)
  case call => exact fun target hat hfull => completes_fault rfl hp rfl hat (decide_eq_true hfull)
  case ret => exact fun hat hempty => completes_fault rfl hp rfl hat (decide_eq_true hempty)
  all_goals exact fun _ _ _ hat hbad => completes_addressFault rfl hp rfl hat hbad

end Sys2Proof.Proofs
end

section
/-! PROOF. The PCIe function and the panel store: BAR accesses (R69 to R74), rings, doorbells and descriptors (R78 to R94), the resets
(R96), the arbiter and the codec (R109 to R130). -/

namespace Sys2Proof.Proofs

open Sys2Proof Sys2Proof.Machine Sys2Proof.Laws

/-! The BAR4 window (R74). -/

theorem cellGet_cellsSet_other {b : Nat} : ∀ (bs : List Nat) (a : Nat) (m : List Host.Cell), cellsWf m = true →
    b < a ∨ a + bs.length ≤ b → cellGet (cellsSet m a bs) b = cellGet m b
  | [], _, _, _, _ => rfl
  | v :: bs, a, m, hm, hb => by
    rw [List.length_cons] at hb
    rw [cellsSet, cellGet_cellsSet_other bs (a + 1) _ (cellsWf_cellSet a v m hm) (by omega)]
    exact cellGet_cellSet_other (by omega) v m hm

theorem cellGet_cellsSet_same : ∀ (bs : List Nat) (a k : Nat) (m : List Host.Cell), cellsWf m = true → k < bs.length →
    cellGet (cellsSet m a bs) (a + k) = bs.getD k 0 % 256
  | v :: bs, a, 0, m, hm, _ => by
    rw [cellsSet, cellGet_cellsSet_other bs (a + 1) _ (cellsWf_cellSet a v m hm) (by omega)]
    exact cellGet_cellSet_same a v m hm
  | v :: bs, a, k + 1, m, hm, hk => by
    rw [cellsSet, show a + (k + 1) = a + 1 + k by omega,
      cellGet_cellsSet_same bs (a + 1) k _ (cellsWf_cellSet a v m hm) (by simpa using hk)]
    rfl

@[simp] theorem length_leBytes : ∀ n v : Nat, (leBytes n v).length = n
  | 0, _ => rfl
  | n + 1, v => congrArg (· + 1) (length_leBytes n (v / 256))

theorem leBytes_getD : ∀ (n v k : Nat), k < n → ((leBytes n v).map (·.toNat)).getD k 0 = v / 256 ^ k % 256
  | n + 1, v, 0, _ => by simp [leBytes]
  | n + 1, v, k + 1, hk => by
    have ih := leBytes_getD n (v / 256) k (by omega)
    rw [Nat.div_div_eq_div_mul, ← Nat.pow_succ'] at ih
    simpa [leBytes] using ih

/-- The bytes of the store after a write of `size` bytes: those of `value`, and no other byte changed. -/
def cellsWritten (m : List Host.Cell) (offset size value : Nat) : List Host.Cell :=
  cellsSet m offset ((leBytes size value).map (·.toNat))

theorem cellsWf_cellsWritten {m : List Host.Cell} (hm : cellsWf m = true) (offset size value : Nat) :
    cellsWf (cellsWritten m offset size value) = true := cellsWf_cellsSet _ _ _ hm

theorem cellGet_cellsWritten_other {m : List Host.Cell} (hm : cellsWf m = true) {offset size value a : Nat}
    (ha : a < offset ∨ offset + size ≤ a) : cellGet (cellsWritten m offset size value) a = cellGet m a :=
  cellGet_cellsSet_other _ _ _ hm (by simpa using ha)

theorem cellGet_cellsWritten_same {m : List Host.Cell} (hm : cellsWf m = true) {offset size value k : Nat} (hk : k < size) :
    cellGet (cellsWritten m offset size value) (offset + k) = value / 256 ^ k % 256 := by
  rw [cellsWritten, cellGet_cellsSet_same _ _ _ _ hm (by simpa using hk), leBytes_getD size value k hk, Nat.mod_mod]

/-- What a permitted BAR4 write leaves. -/
def storeWritten (s : State) (offset size value : Nat) : State :=
  let t := s.supervisorBurst (s.channelOf offset)
  { t with store := { t.store with
      cells := cellsWritten s.store.cells offset size value
      probed := if s.store.rasterIn then ((upTo size).map (offset + ·)) ++ s.store.probed else [] } }

section Store

variable {s : State} {offset size value failure : Nat}

theorem execDiagnosticStoreWrite_permitted (hz : barSizeOk offset size = true) (ht : s.tt.state = .idle)
    (hn : s.nmt.state = .preOperational) (hd : s.cfg 0x2200 8 = 1) (hp : s.slotsWhere SlotState.uncommitted = [])
    (hb : offset + size ≤ s.dataBytes) : execDiagnosticStoreWrite offset size value s = storeWritten s offset size value :=
  if_pos ⟨hz, ht, hn, hd, hp, hb⟩

theorem execDiagnosticStoreWrite_refused (h : barSizeOk offset size = false ∨ s.tt.state ≠ .idle ∨ s.nmt.state ≠ .preOperational ∨
    s.cfg 0x2200 8 ≠ 1 ∨ s.slotsWhere SlotState.uncommitted ≠ [] ∨ s.dataBytes < offset + size) :
    execDiagnosticStoreWrite offset size value s = s.setAbsent := by
  refine if_neg fun ⟨hz, ht, hn, hd, hp, hb⟩ => ?_
  obtain h | h | h | h | h | h := h
  · exact Bool.false_ne_true (h.symm.trans hz)
  · exact h ht
  · exact h hn
  · exact h hd
  · exact h hp
  · exact absurd hb (by omega)

theorem execDiagnosticStoreRead_above (hz : barSizeOk offset size = true) (hb : s.dataBytes < offset + size) :
    execDiagnosticStoreRead offset size failure s = { s with answer := List.replicate size 255 } := by
  rw [execDiagnosticStoreRead, if_neg (by simp [hz]), if_pos hb]

theorem execDiagnosticStoreRead_badSize (hz : barSizeOk offset size = false) :
    execDiagnosticStoreRead offset size failure s = s.emit .unsupported 4 [offset, size] := if_pos hz

/-- A good read of installed bytes, before any raster is stored. -/
theorem execDiagnosticStoreRead_bytes (hz : barSizeOk offset size = true) (hb : offset + size ≤ s.dataBytes)
    (hr : s.store.rasterIn = false) :
    execDiagnosticStoreRead offset size 0 s =
      { s.supervisorBurst (s.channelOf offset) with answer := (upTo size).map fun k => cellGet s.store.cells (offset + k) } := by
  have hr' : (s.supervisorBurst (s.channelOf offset)).store.rasterIn = false := hr
  rw [execDiagnosticStoreRead, if_neg (by simp [hz]), if_neg (by omega)]
  dsimp only
  rw [State.storeBytes, hr']
  rfl

/-- A good read of installed bytes once raster is stored: a byte that BAR4 has not written is free. -/
theorem execDiagnosticStoreRead_raster (hz : barSizeOk offset size = true) (hb : offset + size ≤ s.dataBytes)
    (hr : s.store.rasterIn = true) :
    execDiagnosticStoreRead offset size 0 s =
      { (s.supervisorBurst (s.channelOf offset)).freeNat.2 with
        answer := (upTo size).map fun k =>
          if s.store.probed.contains (offset + k) then cellGet s.store.cells (offset + k)
          else (s.supervisorBurst (s.channelOf offset)).freeNat.1 / 256 ^ k % 256 } := by
  have hr' : (s.supervisorBurst (s.channelOf offset)).store.rasterIn = true := hr
  rw [execDiagnosticStoreRead, if_neg (by simp [hz]), if_neg (by omega)]
  dsimp only
  rw [State.storeBytes, hr']
  rfl

end Store

theorem map_upTo_congr {α : Type} {n : Nat} {f g : Nat → α} (h : ∀ k, k < n → f k = g k) : (upTo n).map f = (upTo n).map g :=
  List.map_congr_left fun k hk => h k (List.mem_range.1 hk)

/-- The bytes of a permitted write are the ones that BAR4 has written, also where raster is stored. -/
theorem storeWritten_probed {s : State} {offset size value k : Nat} (hr : s.store.rasterIn = true) (hk : k < size) :
    (storeWritten s offset size value).store.probed.contains (offset + k) = true := by
  have hp : (storeWritten s offset size value).store.probed = ((upTo size).map (offset + ·)) ++ s.store.probed := by
    rw [storeWritten, hr]
    rfl
  rw [hp, List.contains_iff_mem]
  exact List.mem_append_left _ (List.mem_map_of_mem (List.mem_range.2 hk))

/-- Where BAR4 has written the bytes of `value`, a read answers them: as the bytes of the store before any raster is stored, and as
bytes of its own after. -/
theorem storeRead_written {t : State} {offset size value : Nat} (hp : t.powered = true) (hz : barSizeOk offset size = true)
    (hb : offset + size ≤ t.dataBytes) (hv : ∀ k, k < size → cellGet t.store.cells (offset + k) = value / 256 ^ k % 256)
    (hprobed : ∀ k, k < size → t.store.rasterIn = true → t.store.probed.contains (offset + k) = true) :
    (t.store.rasterIn = false → Completes (.diagnosticStoreRead offset size 0) t
      { t.supervisorBurst (t.channelOf offset) with answer := (upTo size).map fun k => value / 256 ^ k % 256 }) ∧
    ∃ u, exec (.diagnosticStoreRead offset size 0) t = .next u ∧
      u.answer = (upTo size).map fun k => value / 256 ^ k % 256 := by
  have hclean (hr : t.store.rasterIn = false) := (execDiagnosticStoreRead_bytes hz hb hr).trans
    (congrArg (fun bs => { t.supervisorBurst (t.channelOf offset) with answer := bs }) (map_upTo_congr hv))
  refine ⟨fun hr => completes_live rfl hp (hclean hr), ?_⟩
  cases hr : t.store.rasterIn with
  | false => exact ⟨_, completes_live rfl hp (hclean hr), rfl⟩
  | true =>
    refine ⟨_, completes_live rfl hp (execDiagnosticStoreRead_raster hz hb hr), map_upTo_congr fun k hk => ?_⟩
    rw [if_pos (hprobed k hk hr), hv k hk]

theorem finish_storeWritten_dataBytes (s : State) (offset size value : Nat) :
    (finish s (storeWritten s offset size value)).dataBytes = s.dataBytes := rfl

/-- Settles O7: a write is the bytes of its value, one `cellSet` each; the read finds them in the list of bytes, and where raster is
stored they are among those that BAR4 has written. -/
theorem storeWindow : Obligations.StoreWindow := by
  unfold Obligations.StoreWindow
  refine fun s offset size value hp => ⟨?write, ?refused, ?above⟩
  case write =>
    intro hz hm ht hn hd hs hb
    have hv : ∀ k, k < size → cellGet (finish s (storeWritten s offset size value)).store.cells (offset + k) =
        value / 256 ^ k % 256 := fun k hk => cellGet_cellsWritten_same hm hk
    have hread := storeRead_written (t := finish s (storeWritten s offset size value)) hp hz
      (finish_storeWritten_dataBytes s offset size value ▸ hb) hv fun k hk hr => storeWritten_probed hr hk
    exact ⟨_, completes_live rfl hp (execDiagnosticStoreWrite_permitted hz ht hn hd hs hb), cellsWf_cellsWritten hm ..,
      fun a ha => cellGet_cellsWritten_other hm ha, hv, hread⟩
  case refused => exact fun h => completes_live rfl hp (execDiagnosticStoreWrite_refused h)
  case above => exact fun failure hz hb => completes_live rfl hp (execDiagnosticStoreRead_above hz hb)

/-! BAR accesses and rings. -/

@[simp] theorem logAer_ringKind (s : State) (k q : Nat) : (s.logAer k).ringKind q = s.ringKind q := rfl

theorem bar0_write_absent {s : State} {o size : Nat} (value : Nat) (hz : barSizeOk o size = true)
    (ho : 0x18100 ≤ o ∧ o < 0x01000000 ∨ 0x01080000 ≤ o ∧ o < 0x02000000) : s.barWrite 0 o size value = s.absent := by
  rw [State.barWrite, if_neg (by omega), if_pos hz, State.bar0Write, if_neg (by omega), if_neg (by omega), if_neg (by omega),
    if_neg (by omega), if_neg (by omega)]

theorem bar2_write_absent {s : State} {o size : Nat} (value : Nat) (hz : barSizeOk o size = true)
    (ho : 0x00200000 ≤ o ∧ o < 0x04000000 ∨ 0x0C000000 ≤ o ∧ o < 0x40000000) : s.barWrite 2 o size value = s.absent := by
  rw [State.barWrite, if_neg (by omega), if_pos hz, State.bar2Write, if_neg (by omega), if_neg (by omega), if_neg (by omega)]

/-- Settles O16: each access goes to its BAR's own map, and each write to a ring finds its ring there and enabled as it should be. -/
theorem barAndRingWrites : Obligations.BarAndRingWrites := by
  unfold Obligations.BarAndRingWrites
  refine ⟨fun s hp => ⟨?w0, ?w2, ?rNone, ?rSome, ?size, ?bytes, ?raster, ?badSize, ?write, ?enable, ?reset, ?doorbell, ?event⟩,
    fun s t hp ht => ⟨?flr, ?hot, ?loss, ?trained⟩⟩
  case w0 =>
    intro o size value hz ho
    refine completes_live rfl hp ?_
    rw [execBarAbsentAccess, if_pos rfl]
    exact bar0_write_absent value hz ho
  case w2 =>
    intro o size value hz ho
    refine completes_live rfl hp ?_
    rw [execBarAbsentAccess, if_pos rfl]
    exact bar2_write_absent value hz ho
  case rNone =>
    rintro bar o size value hz (⟨rfl, ho, hb⟩ | ⟨rfl, ho, hb⟩)
    all_goals
      refine completes_live rfl hp ?_
      rw [execBarAbsentAccess, if_neg Bool.false_ne_true, State.barRead, if_neg (Nat.not_le.2 ho), if_pos hz, hb]
      rfl
  case rSome =>
    rintro bar o size value bs hz (⟨rfl, ho, hb⟩ | ⟨rfl, ho, hb⟩)
    all_goals
      refine completes_live rfl hp ?_
      rw [execBarAbsentAccess, if_neg Bool.false_ne_true, State.barRead, if_neg (Nat.not_le.2 ho), if_pos hz, hb]
      rfl
  case size =>
    rintro write bar o size value hz (⟨rfl, ho⟩ | ⟨rfl, ho⟩)
    all_goals
      refine completes_live rfl hp ?_
      cases write <;> simp [execBarAbsentAccess, State.barWrite, State.barRead, hz, Nat.not_le.2 ho, State.unsupported]
  case bytes => exact fun offset size hz hb hr => completes_live rfl hp (execDiagnosticStoreRead_bytes hz hb hr)
  case raster =>
    intro offset size v t hz hb hr hf
    refine completes_live rfl hp ?_
    rw [execDiagnosticStoreRead_raster hz hb hr, hf]
  case badSize => exact fun offset size failure hz => completes_live rfl hp (execDiagnosticStoreRead_badSize hz)
  case write =>
    rintro offset size value hz ht hn hd hs hb t rfl
    exact completes_live rfl hp (execDiagnosticStoreWrite_permitted hz ht hn hd hs hb)
  case enable =>
    intro q hq he hok hk
    refine completes_live rfl hp ?_
    simp [execRingEnable, State.enableRing, hq, he, hok]
    exact fun h => absurd h hk
  case reset =>
    rintro q hq he hk t rfl
    refine completes_live rfl hp ?_
    simp [execRingReset, State.disableRing, hq, he, hk]
  case doorbell =>
    rintro q v t rfl hq he hk hs hf
    refine completes_live rfl hp ?_
    rw [execDoorbell, State.writeHostIndex, if_pos hq, if_pos he, if_neg hk]
    exact if_pos ⟨hs, hf⟩
  case event =>
    rintro q v t rfl hq he hk hr hs hf
    refine completes_live rfl hp ?_
    rw [execEventRingDoorbell, State.writeHostIndex, if_pos hq, if_pos he, if_pos hk]
    exact (if_pos ⟨hs, hf⟩).trans (if_pos hr)
  case flr => exact told_live rfl hp (by rw [ht]; rfl)
  case hot => exact told_live rfl hp (by rw [ht]; rfl)
  case loss => exact told_live rfl hp (by rw [ht]; rfl)
  case trained => exact fun speed width h3 h5 hw => completes_live rfl hp (if_pos ⟨h3, h5, hw⟩)

/-- Settles O17: each event is looked up at the head of its ring. -/
theorem ringTraffic : Obligations.RingTraffic := by
  unfold Obligations.RingTraffic
  refine fun s q hp => ⟨?fetchFailed, ?fetched, ?noBeat, ?beat, ?read, ?timeout, ?jobTimeout, ?stored, ?complete, ?trcComplete⟩
  case fetchFailed =>
    intro hf ht hh
    refine told_live rfl hp ?_
    simp [execDescriptorFetch, hf, ht, hh]
  case fetched =>
    intro d hf ht hh
    refine told_live rfl hp ?_
    rw [execDescriptorFetch, if_neg (by simp [hf, ht]), hh]
  case noBeat =>
    intro die hd hw
    refine told_live rfl hp ?_
    simp [execDmaBeat, hd, hw]
  case beat =>
    rintro die ch c n t hd hw rfl rfl rfl hr
    refine told_live rfl hp ?_
    simp [execDmaBeat, hd, hw, hr]
  case read =>
    rintro h bytes hh hm new h1 t rfl rfl rfl hv
    refine told_live rfl hp ?_
    simp [execDmaReadCompletion, State.readCompletion, hh, hm] at hv ⊢
    simp [hv]
  case timeout =>
    intro h hh hm hk
    refine told_live rfl hp ?_
    simp [execCompletionTimeout, State.readCompletion, State.readFailed, hh, hm, hk]
  case jobTimeout =>
    intro h hh hm hk
    refine told_live rfl hp ?_
    simp [execCompletionTimeout, State.readCompletion, State.readFailed, hh, hm, hk]
  case stored =>
    rintro h hh hk hm hl hf hs x rfl hb hmv
    refine told_live rfl hp ?_
    simp [execLineStored, State.storeLine, hh, hk, hm, hf, hs, Nat.not_le.2 hl, Nat.not_lt.2 hb, Nat.not_lt.2 hmv]
  case complete =>
    intro h hh hk hm hf hl
    refine told_live rfl hp ?_
    simp [execDescriptorComplete, hh, hk, hm, hf, Nat.not_lt.2 hl]
  case trcComplete =>
    intro h hh hk hm hf hb hl ho
    refine told_live rfl hp ?_
    simp [execDescriptorComplete, hh, hk, hm, hf, Nat.not_lt.2 hl, Nat.not_lt.2 hb, Nat.not_lt.2 ho]

/-- Settles O18: each event meets the one branch that its hypotheses name. -/
theorem storeCommands : Obligations.StoreCommands := by
  unfold Obligations.StoreCommands
  refine fun s hp => ⟨?decode, ?lost, ?window, ?grant, ?withdrawn, ?withdrawnPlayback, ?block, ?held, ?compress, ?decompress⟩
  case decode =>
    rintro slot lane y chan hl hc hs hd hk t u rfl rfl
    refine completes_live rfl hp ?_
    exact if_pos ⟨hl, hc, hs, hd, hk⟩
  case lost => exact fun c => told_live rfl hp rfl
  case window => exact completes_live rfl hp rfl
  case grant =>
    rintro k pending r hk t rfl hw
    refine completes_live rfl hp ?_
    rw [execArbiterGrant, if_pos hk]
    dsimp only
    rw [hw]
  case withdrawn =>
    intro k r hg hr
    refine completes_live rfl hp ?_
    simp [execGrantWithdrawn, hg, hr]
  case withdrawnPlayback =>
    rintro k r hg hr t rfl
    refine completes_live rfl hp ?_
    simp [execGrantWithdrawn, hg, hr]
  case block =>
    rintro q h block hh hk hf hv hm hl ht hheld hst x n prev prev2 rfl rfl hx hb hmv rfl rfl hgood
    refine completes_live rfl hp ?_
    have hc : s.compressible q = some h := by
      simp [State.compressible, hh, hk, hf, hv, hm, Nat.not_le.2 hl, Nat.not_le.2 hx, Nat.not_lt.2 hb, Nat.not_lt.2 hmv]
    simp [execCompressorBlockEmit, hc, ht, hheld, hst, hgood]
  case held =>
    intro q h blocks hj hh
    refine completes_live rfl hp ?_
    simp [execCodecCompressJob, hj, hh]
  case compress =>
    intro q h blocks j hj hh hjob hz
    refine completes_live rfl hp ?_
    simp [execCodecCompressJob, hj, hh, ← hjob, hz, upTo]
  case decompress =>
    intro q h hj
    refine completes_live rfl hp ?_
    simp [execCodecDecompressJob, hj]

end Sys2Proof.Proofs
end

section
/-! PROOF. Geometry (R18 to R33), panels (R32 to R41), the seamless halt (R44 to R47) and RUN, HALT and END (R51). -/

namespace Sys2Proof.Proofs

open Sys2Proof Sys2Proof.Machine Sys2Proof.Laws

/-! The checks of a command, one after the other. -/

section Need

variable {α : Type} {c : Bool} {a : Abort} {k : Unit → Except Abort α} {r : Except Abort α}

/-- A check that holds passes on to the rest. -/
theorem need_ok (h : c = true) (hk : k () = r) : (need c a >>= k) = r := by
  rw [need, if_pos h]
  exact hk

/-- A check that fails ends with its abort. -/
theorem need_error (h : c = false) : (need c a >>= k) = .error a := by
  rw [need, h]
  rfl

end Need

theorem and_true_intro {a b : Bool} (ha : a = true) (hb : b = true) : (a && b) = true := by rw [ha, hb]; rfl

theorem fitsI64_of_bounds {w : Int} (hlo : -(2 ^ 63) ≤ w) (hhi : w < 2 ^ 63) : fitsI64 w = true :=
  and_true_intro (decide_eq_true hlo) (decide_eq_true hhi)

/-- Settles O12: each write meets the checks of its own rules. -/
theorem geometryWrites : Obligations.GeometryWrites := by
  unfold Obligations.GeometryWrites
  refine fun s => ⟨?encoder, ?scale, ?direction, ?preset, ?width, ?origin, ?band⟩
  case encoder =>
    intro v hc hp hv hch
    exact completes_command rfl hc (need_ok hp (need_ok (decide_eq_true hv) (need_ok hch rfl)))
  case scale =>
    intro v hc hp hv
    exact completes_command rfl hc (need_ok hp (need_ok (decide_eq_true hv) rfl))
  case direction =>
    intro v hc hp hv
    exact completes_command rfl hc (need_ok hp (need_ok (decide_eq_true hv) rfl))
  case preset =>
    intro w hc hp ht hq hlo hhi
    have hstate : (s.preop && s.ttIdle && s.webQuiet) = true :=
      and_true_intro (and_true_intro hp (decide_eq_true ht)) hq
    exact completes_command rfl hc (need_ok hstate (need_ok (fitsI64_of_bounds hlo hhi) rfl))
  case width =>
    intro st v hc hst hp hpre h1 h2 hok hl
    refine completes_command rfl hc (need_ok (and_true_intro (decide_eq_true hst) hp) (need_ok hpre ?_))
    exact need_ok (and_true_intro (decide_eq_true h1) (decide_eq_true h2)) (need_ok hok (need_ok hl rfl))
  case origin =>
    intro w hc ht hs hlo hhi
    have hstate : (s.ttIdle && decide (s.slotsWhere SlotState.uncommitted = [])) = true :=
      and_true_intro (decide_eq_true ht) (decide_eq_true hs)
    exact completes_command rfl hc (need_ok hstate (need_ok (fitsI64_of_bounds hlo hhi) rfl))
  case band =>
    intro st hc hst hp ht hb
    refine completes_command rfl hc (need_ok (and_true_intro (decide_eq_true hst) hp) (need_ok rfl ?_))
    exact need_ok (and_true_intro (decide_eq_true ht) hb) rfl

/-! Panels. -/

/-- The next panel of a job has the next number (R32 check 3). -/
def followsLast (s : State) (seq : Nat) : Bool := match s.tt.last with
  | some l => decide (seq = wrapInc 32 l.seq)
  | none => true

theorem followsLast_of {s : State} {seq : Nat} (h : ∀ l, s.tt.last = some l → seq = wrapInc 32 l.seq) :
    followsLast s seq = true := by
  unfold followsLast
  split
  · exact decide_eq_true (h _ ‹_›)
  · rfl

/-- Settles O13: a declared or withdrawn panel meets the checks of R32 and R34, and each event of a panel its own guard. -/
theorem panelCommands : Obligations.PanelCommands := by
  unfold Obligations.PanelCommands
  refine fun s i => ⟨?declare, ?withdraw, ?grant, ?commit, ?deadline, ?bell, ?firstBell⟩
  case declare =>
    rintro hc hi ho hp h1 h2 h3 h4 h5 hl hs origin rfl
    have hvalid := and_true_intro (and_true_intro (and_true_intro (and_true_intro (and_true_intro (decide_eq_true h1)
      (decide_eq_true h2)) (decide_eq_true h3)) (decide_eq_true h4)) (decide_eq_true h5)) (followsLast_of hl)
    exact told_command rfl hc (need_ok (decide_eq_true hi) (need_ok ho (need_ok hp (need_ok hvalid (need_ok hs rfl)))))
  case withdraw => exact fun hc hi hu => told_command rfl hc (need_ok (decide_eq_true hi) (need_ok hu rfl))
  case grant => exact fun hp hg => told_live rfl hp (if_pos hg)
  case commit => exact fun hp hc => told_live rfl hp (if_pos hc)
  case deadline => exact fun hp hu ht hd hl => told_live rfl hp (if_pos ⟨hu, ht, hd, hl⟩)
  case bell =>
    intro st hp he hst hm hr hf hpres hw h1 h2
    refine told_live rfl hp ?_
    simp [execBell, SlotState.isCommitted, he, hst, hm, hr, hf, hpres, hw, h1, h2]
  case firstBell =>
    intro st hp he hst hm hr hf hpres hw h1 h2
    refine told_live rfl hp ?_
    simp [execBell, SlotState.isCommitted, he, hst, hm, hr, hf, hpres, hw, h1, h2]

/-! What the axes do with the web: they change the axes, the compare outputs on them and what a posted event changes. -/

/-- A state that differs in the axes, the compare outputs, the trace, the faults, the rings and the outputs alone. -/
def AxesMoved (s t : State) : Prop :=
  ∃ ax cs tr fs it o, t = { s with axes := ax, compares := cs, trace := tr, faults := fs, intake := it, out := o }

namespace AxesMoved

variable {s t u : State}

theorem refl (s : State) : AxesMoved s s := ⟨_, _, _, _, _, _, rfl⟩

theorem trans (h : AxesMoved s t) (h' : AxesMoved t u) : AxesMoved s u := by
  obtain ⟨ax, cs, tr, fs, it, o, rfl⟩ := h
  obtain ⟨ax', cs', tr', fs', it', o', rfl⟩ := h'
  exact ⟨_, _, _, _, _, _, rfl⟩

/-- A fold of such changes is one. -/
theorem foldl {f : State → Nat → State} (h : ∀ s n, AxesMoved s (f s n)) : ∀ (l : List Nat) (s : State), AxesMoved s (l.foldl f s)
  | [], s => refl s
  | n :: l, s => (h s n).trans (foldl h l (f s n))

theorem modAxis (s : State) (a : Nat) (f : Axis → Axis) : AxesMoved s (s.modAxis a f) := ⟨_, _, _, _, _, _, rfl⟩

theorem modCmp (s : State) (n : Nat) (f : Compare → Compare) : AxesMoved s (s.modCmp n f) := ⟨_, _, _, _, _, _, rfl⟩

theorem postEvent (s : State) (d ev subject data : Nat) : AxesMoved s (s.postEvent d ev subject data) := by
  obtain ⟨tr, fs, it, o, h⟩ := postEvent_eq s d ev subject data
  exact ⟨_, _, _, _, _, _, h⟩

theorem postEventIf (c : Bool) (h : AxesMoved s t) (d ev subject data : Nat) :
    AxesMoved s (if c then t.postEvent d ev subject data else t) := by
  split
  · exact h.trans (postEvent t d ev subject data)
  · exact h

theorem cmpFire (s : State) (n k : Nat) (first : Int) : AxesMoved s (s.cmpFire n k first) := by
  refine postEventIf _ ?_ _ _ _ _
  split <;> exact ⟨_, _, _, _, _, _, rfl⟩

theorem cmpUpdate (s : State) (n : Nat) (u v : Rat) : AxesMoved s (s.cmpUpdate n u v) := by
  unfold State.cmpUpdate
  dsimp only
  split
  · exact refl s
  · split
    · split
      · exact refl s
      · exact (modCmp s n _).trans (cmpFire _ _ _ _)
    · split
      · exact refl s
      · exact (modCmp s n _).trans (cmpFire _ _ _ _)

theorem sourceMoved (s : State) (src : Nat) (u v : Rat) : AxesMoved s (s.sourceMoved src u v) := by
  unfold State.sourceMoved
  split
  · exact refl s
  · exact foldl (fun s n => cmpUpdate s n u v) _ s

theorem moveCommanded (s : State) (a : Nat) (v : Rat) : AxesMoved s (s.moveCommanded a v) :=
  (modAxis s a _).trans (sourceMoved _ _ _ _)

theorem catchUp (s : State) (a : Nat) : AxesMoved s (s.catchUp a) := by
  unfold State.catchUp
  dsimp only
  split
  · exact modAxis s a _
  · exact (modAxis s a _).trans (moveCommanded _ _ _)

theorem setVelocity (s : State) (a : Nat) (v : Rat) : AxesMoved s (s.setVelocity a v) :=
  (catchUp s a).trans (modAxis _ a _)

theorem gearRest (s : State) (a : Nat) : AxesMoved s (s.gearRest a) := by
  unfold State.gearRest
  split
  · exact (catchUp s a).trans (modAxis _ a _)
  · exact setVelocity s a _
  · exact refl s

theorem gearsRest (s : State) : AxesMoved s s.gearsRest := foldl gearRest _ s

end AxesMoved

/-! A web at rest: the timetable, the part that leads the phases, and the rest position are as they were. -/

theorem atRest_moved (s : State) :
    AxesMoved { s with web := { s.web with moving := false, speed := 0, winAt := s.timebase, winW := s.w } } s.atRest :=
  AxesMoved.gearsRest _

@[simp] theorem atRest_tt (s : State) : s.atRest.tt = s.tt := by
  obtain ⟨ax, cs, tr, fs, it, o, h⟩ := atRest_moved s
  rw [h]

@[simp] theorem atRest_leadsPhases (s : State) : s.atRest.leadsPhases = s.leadsPhases := by
  obtain ⟨ax, cs, tr, fs, it, o, h⟩ := atRest_moved s
  rw [h]
  rfl

@[simp] theorem atRest_restInBand (s : State) : s.atRest.restInBand = s.restInBand := by
  obtain ⟨ax, cs, tr, fs, it, o, h⟩ := atRest_moved s
  rw [h]
  rfl

/-- Settles O14: each event of a halt meets its guard; a web at rest leaves the guards as they were. -/
theorem haltEvents : Obligations.HaltEvents := by
  unfold Obligations.HaltEvents
  refine fun s hp => ⟨?decelerate, ?rest, ?ended, ?stopped, ?reverse, ?moved, ?restart, ?speed, ?nip⟩
  case decelerate => exact fun ht hd hw => told_live rfl hp (if_pos ⟨ht, hd, hw⟩)
  case rest =>
    intro ht hd hl
    refine told_live rfl hp ?_
    simp [execWebAtRest, ht, hd, hl]
  case ended =>
    intro ht hd hl
    refine told_live rfl hp ?_
    simp [execWebAtRest, ht, hd, hl]
  case stopped =>
    intro ht he
    refine told_live rfl hp ?_
    simp [execWebAtRest, ht, he]
  case reverse =>
    intro ht hc hb
    refine told_live rfl hp ((if_pos ⟨ht, hc⟩).trans ?_)
    refine (if_pos (Or.inl ((atRest_restInBand s).trans hb))).trans ?_
    rw [atRest_tt]
  case moved =>
    intro ht hc hb
    refine told_live rfl hp ((if_pos hc).trans ?_)
    simp [hb, ht]
  case restart =>
    intro i hn ht hc hl hr hm hh hz
    refine told_live rfl hp ?_
    rw [execRestart, hn]
    exact if_pos ⟨ht, hc, hl, hr, hm, hh, hz⟩
  case speed => exact fun ht hl => told_live rfl hp (if_pos ⟨ht, hl⟩)
  case nip =>
    intro hn ht hw
    refine told_live rfl hp (if_pos ⟨hn, ?_, hw⟩)
    unfold State.webOnward
    rcases ht with ht | ht | ⟨ht | ht, hd⟩ <;> simp [*]

theorem operational_ready {s : State} (ho : s.nmt.state = .operational) (hd : s.nmt.pending = .none) (hf : s.faults.fatal = false)
    (hg : s.groupReady = true) :
    (decide (s.nmt.state = .operational) && decide (s.nmt.pending = .none) && !s.faults.fatal && s.groupReady) = true := by
  rw [hf, decide_eq_true ho, decide_eq_true hd, hg]
  rfl

/-- Settles O15: RUN, HALT and END meet the checks of R51 in the states that take them. -/
theorem timetableCommands : Obligations.TimetableCommands := by
  unfold Obligations.TimetableCommands
  refine fun s hc => ⟨?run, ?resume, ?halt, ?hold, ?endRunning, ?endStopped, ?endMoving⟩
  case run =>
    intro ho hd hf hg ht hr hw hh
    refine told_command rfl hc ((need_ok (operational_ready ho hd hf hg) ?_))
    rcases ht with ht | ht <;> rw [ht] <;> exact need_ok hr (need_ok hw (congrArg Except.ok (if_pos hh)))
  case resume =>
    intro ho hd hf hg ht hm
    refine told_command rfl hc ((need_ok (operational_ready ho hd hf hg) ?_))
    rw [ht]
    refine congrArg Except.ok (if_neg ?_)
    rw [show s.releaseHolds.tt.corrective = .none from hm]
    decide
  case halt =>
    intro ht
    exact told_command rfl hc (by rw [opTimetableHalt, ht])
  case hold =>
    intro ht
    refine told_command rfl hc ?_
    rcases ht with ht | ht | ht <;> rw [opTimetableHalt, ht]
  case endRunning =>
    intro ht
    exact told_command rfl hc (by rw [opTimetableEnd, ht])
  case endStopped =>
    intro ht hw
    exact told_command rfl hc (by rw [opTimetableEnd, ht, hw]; rfl)
  case endMoving =>
    intro ht hw
    exact told_command rfl hc (by rw [opTimetableEnd, ht, hw]; rfl)
end Sys2Proof.Proofs
end

section
/-! PROOF. The lane window and the lane commands (R146, R163), the start of a lane's program (R137), and the commitment of a line (R216). -/

namespace Sys2Proof.Proofs

open Sys2Proof Sys2Proof.Machine Sys2Proof.Laws

/-- A lane command whose checks hold acts on every lane of its scope. -/
theorem laneCommand_ok {s : State} {image scope l : Nat} {load : Bool} {from_ : LaneState → Bool} (f : State → Nat → State)
    (h : s.laneCheck image scope l load from_ = .ok ()) :
    s.laneCommand image scope l load from_ f = ((s.scopeLanes scope l).foldl f s).laneAccepted image scope l load := by
  rw [State.laneCommand, h]

theorem execLaneMemoryWrite_word {s : State} {lane offset value : Nat} (ha : offset % 4 = 0) (hl : lane < 1024)
    (hp : s.present (laneStation lane) = true) (ho : offset < 0x4000) :
    execLaneMemoryWrite lane offset 4 value s =
      if (s.lane lane).state ≠ .stopped ∨ s.laneLoading lane then s.modLane lane fun l => { l with wrRefused := true }
      else if offset < 0x2000 then
        s.modLane lane fun l => { l with prog := mapSetList 0 l.prog (offset / 4) [value % 2 ^ 32], hostWritten := true }
      else s.modLane lane fun l => l.setData (offset - 0x2000) (bytes4 (value % 2 ^ 32)) := by
  rw [execLaneMemoryWrite, if_neg (by omega), if_neg (by simp [hl, hp]), if_neg (by omega), if_neg (by omega), if_neg (by omega)]
  simp [upTo]

/-- Settles O26: each lane command past the checks of R163 acts on its scope, and a program starts where its line is due, its code
line free and its window full. -/
theorem laneCommands : Obligations.LaneCommands := by
  unfold Obligations.LaneCommands
  refine fun s hp => ⟨?write, ?refused, ?load, ?start, ?stop, ?release, ?tone, ?program⟩
  case write =>
    intro lane offset value ha hl hpres ho hs hload
    refine completes_live rfl hp ((execLaneMemoryWrite_word ha hl hpres (by omega)).trans ?_)
    rw [if_neg (by simp [hs, hload]), if_pos ho]
  case refused =>
    intro lane offset value ha hl hpres ho hr
    exact completes_live rfl hp ((execLaneMemoryWrite_word ha hl hpres ho).trans (if_pos hr))
  case load => exact fun image scope l hb hw hs hc => completes_serve rfl hp hw hb hs (laneCommand_ok _ hc)
  case start => exact fun scope l hb hw hs hc => completes_serve rfl hp hw hb hs (laneCommand_ok _ hc)
  case stop => exact fun scope l hb hw hs hc => completes_serve rfl hp hw hb hs (laneCommand_ok _ hc)
  case release =>
    exact fun scope l hb hw hs hc => completes_serve rfl hp hw hb hs (congrArg State.errorReset (laneCommand_ok _ hc))
  case tone =>
    intro st hc hst hpres hgen
    refine completes_command rfl hc (need_ok (and_true_intro (decide_eq_true hst) hpres) (need_ok rfl (need_ok ?_ rfl)))
    rw [hgen]
    rfl
  case program =>
    intro lane slot n facet f hbeam hl hpres hrun hact hcom hmask hused y hy hyh hlast hprev hsel hbusy hbank hbslot hby hfull
    refine completes_live rfl hp ?_
    subst hy
    have hin : ((s.lane lane).bank0.busy && decide ((s.lane lane).bank0.slot = slot) &&
        decide ((s.lane lane).bank0.y = f + s.sweepStep (laneStation lane) * n) && (s.lane lane).bank0.full (s.slot slot).h) = true :=
      and_true_intro (and_true_intro (and_true_intro hbank (decide_eq_true hbslot)) (decide_eq_true hby)) hfull
    rw [execProgramStart, hbeam]
    dsimp only
    rw [if_pos ⟨hl, hpres, hrun, hact, hcom, hmask, hused, hyh, hlast, hprev, by rw [hsel]; exact hbusy, Or.inl hin⟩]
    rw [State.modLane, mapMod, show mapGet {} s.lanes lane = s.lane lane from rfl, if_neg (by rw [hsel]; decide), hin]
    rfl

/-! The commitment of a line while the web does not run forward (R186, R216). -/

/-- An edge of a scanner that is locked and numbered. -/
def restEdge : Edge := { t16 := 0, wl := 0, facet := 0, locked := true, inferred := false, numbered := true }

/-- Scanner 0 with the edge of a sweep of slot 0, a carry line in hand, and the web at rest. -/
def edgeAtRest : State :=
  { State.reset with
    slots := [(0, { state := .exposing, mask := 1, h := 32 })]
    chans := [(0, { p1 := 1 })]
    scanners := [(0, {
      state := .locked, laser := true, carry := [(0, 1)]
      edge := some restEdge })] }

/-- Its state once the edge is taken for commitment, 250 ns on. -/
def edgeTaken : State := (edgeAtRest.advanceTo ((0 + 6400) / 16)).modScanner 0 fun x => { x with edge := none }

/-- What O27 says of such an edge: the carry line is emptied. -/
def darkAsStated (g : Nat) (e : Edge) (t : State) : State :=
  ((t.modScanner g fun x => { x with carry := [], carryFor := none }).darkHeader g e.facet e.t16).darkDue g e.wl

/-- The edge of a sweep that is due while the web does not run forward leaves the carry line in hand (R186). -/
theorem commitEdge_noForward {t : State} {g i n : Nat} {e : Edge} (hw : t.webForwards = false) (hd : t.dueSweep g e.wl = some (i, n)) :
    t.commitEdge g e = (t.darkHeader g e.facet e.t16).darkDue g e.wl := by
  rw [State.commitEdge, hd]
  simp [hw]

theorem told_lineStartCommitment {s : State} {g : Nat} {e : Edge} (hp : s.powered = true) (he : (s.scanner g).edge = some e)
    (hg : s.scannerPresent g = true) :
    CompletesTold (.lineStartCommitment g) s
      (((s.advanceTo ((e.t16 + 6400) / 16)).modScanner g fun x => { x with edge := none }).commitEdge g e) := by
  refine told_live rfl hp ?_
  rw [execLineStartCommitment, he]
  exact if_neg (by rw [hg]; decide)

/-- A command leaves one state only, so a scanner holds one carry line in both accounts of that state. -/
theorem carry_eq_of_told {c : Instr} {s t u : State} (ht : CompletesTold c s t) (hu : CompletesTold c s u) (g : Nat) :
    (t.settleGroup.scanner g).carry = (u.settleGroup.scanner g).carry := by
  have heq : finish s t.settleGroup = finish s u.settleGroup := Host.Outcome.next.inj (ht.symm.trans hu)
  change ((finish s t.settleGroup).scanner g).carry = ((finish s u.settleGroup).scanner g).carry
  rw [heq]

theorem carry_kept : ((((edgeTaken.darkHeader 0 0 0).darkDue 0 0).settleGroup).scanner 0).carry = [(0, 1)] := by decide +kernel

theorem carry_asStated : ((darkAsStated 0 restEdge edgeTaken).settleGroup.scanner 0).carry = [] := by decide +kernel

/-- Refutes O27: its third clause empties the carry line where the web does not run forward, but there the model leaves it, as the
carry line survives a halt (R186); it empties it where the web runs forward and the sweep is dark. Scanner 0 with a carry line and the
web at rest keeps it. -/
theorem not_sweepWork : ¬ Obligations.SweepWork := by
  intro h
  have hp : edgeAtRest.powered = true := by decide +kernel
  have hg : edgeAtRest.scannerPresent 0 = true := by decide +kernel
  have hw : edgeTaken.webForwards = false := by decide +kernel
  have hd : edgeTaken.dueSweep 0 restEdge.wl = some (0, 0) := by decide +kernel
  obtain ⟨-, -, hstated⟩ := h.1 edgeAtRest hp
  have hmodel : CompletesTold (.lineStartCommitment 0) edgeAtRest (edgeTaken.commitEdge 0 restEdge) :=
    told_lineStartCommitment hp rfl hg
  have heq := carry_eq_of_told hmodel (hstated 0 restEdge 0 0 rfl hg edgeTaken rfl hw hd) 0
  rw [commitEdge_noForward hw hd] at heq
  have hkept := carry_kept.symm.trans (heq.trans carry_asStated)
  exact List.cons_ne_nil _ _ hkept

end Sys2Proof.Proofs
end

section
/-! PROOF. Drafts, knot rings and stitch settings (R169 to R188), and flip requests (R189 to R195). -/

namespace Sys2Proof.Proofs

open Sys2Proof Sys2Proof.Machine Sys2Proof.Laws

/-- An aligned write of 8 bytes to a draft of a lane that is present. -/
theorem execDraftWrite_aligned {s : State} {lane offset value : Nat} (ha : offset % 8 = 0) (ho : offset < 0x2080) (hl : lane < 1024)
    (hp : s.present (laneStation lane) = true) :
    execDraftWrite lane offset 8 value s =
      if (s.lane lane).draftState ≠ .ready then s.modLane lane fun x => { x with meshRefused := true }
      else if offset < 0x2000 then s.modLane lane fun x => { x with
        draft := x.draft.setKnot (offset / 8) (knotOf (patchWord (knotWord ((s.lane lane).draft.knot (offset / 8))) offset 8 value)) }
      else s.modLane lane fun x => { x with
        draft := x.draft.setFacet ((offset - 0x2000) / 8)
          (facetOf (patchWord (facetWord ((s.lane lane).draft.facet ((offset - 0x2000) / 8))) offset 8 value)) } := by
  rw [execDraftWrite, if_neg (by omega), if_neg (by simp [hl, hp])]
  dsimp only
  by_cases hr : (s.lane lane).draftState = .ready
  · simp only [hr, ho, decide_true, if_true, ne_eq, not_true_eq_false, if_false]
  · simp only [hr, ho, decide_false, Bool.false_eq_true, if_true, if_false, ne_eq, not_false_eq_true, ite_self]

/-- A ring of knots or facets whose data have come writes them to a draft that is READY. -/
theorem knotWrite_ready {s : State} {q op : Nat} {h : Head} (put : Mesh → Nat → Nat → Mesh) (hh : (s.ring q).head = some h)
    (hk : s.ringKind q = 3) (hm : h.moving = true) (hop : descOp h.raw = op) (hb : descLength h.raw ≤ h.buf.length)
    (hd : descLength h.raw ≤ h.moved) (hr : (s.lane (knotLane h.raw)).draftState = .ready) :
    s.knotWrite q op put = (s.modLane (knotLane h.raw) fun x => { x with
      draft := (words8 h.buf).zipIdx.foldl (fun m p => put m (knotFirst h.raw + p.2) p.1) x.draft }).endHead q 0 := by
  rw [State.knotWrite, hh]
  dsimp only
  rw [if_neg (by simp [hk, hm, hop, hb, hd]), if_neg (not_not_intro hr)]

/-- Settles O29: each write meets the checks of its own rules, in a draft that is READY or not. -/
theorem draftsAndStitches : Obligations.DraftsAndStitches := by
  unfold Obligations.DraftsAndStitches
  refine fun s hp => ⟨?knot, ?facet, ?refused, ?object, ?copied, ?knots, ?facets, ?stitch⟩
  case knot =>
    intro lane offset value ha ho hl hpres hr
    refine completes_live rfl hp ((execDraftWrite_aligned ha (by omega) hl hpres).trans ?_)
    rw [if_neg (not_not_intro hr), if_pos ho]
  case facet =>
    intro lane offset value ha hlo ho hl hpres hr
    refine completes_live rfl hp ((execDraftWrite_aligned ha ho hl hpres).trans ?_)
    rw [if_neg (not_not_intro hr), if_neg (by omega)]
  case refused =>
    intro lane offset value ha ho hl hpres hr
    exact completes_live rfl hp ((execDraftWrite_aligned ha ho hl hpres).trans (if_pos hr))
  case object =>
    intro lane bytes hb hw hs hn hl hpres hlen hr hok
    refine completes_serve rfl hp hw hb hs ?_
    rw [execDraftObjectWrite, if_neg hn, if_neg (by simp [hl, hpres]), if_neg (not_not_intro hlen), if_neg (not_not_intro hr),
      if_neg (by rw [hok]; decide)]
  case copied => exact fun lane hc hf => completes_live rfl hp (if_pos ⟨hc, hf⟩)
  case knots => exact fun q h hh hk hm hop hb hd hr => completes_live rfl hp (knotWrite_ready _ hh hk hm hop hb hd hr)
  case facets => exact fun q h hh hk hm hop hb hd hr => completes_live rfl hp (knotWrite_ready _ hh hk hm hop hb hd hr)
  case stitch =>
    intro st hc hst hpres hpre hok hl
    refine completes_command rfl hc (need_ok (and_true_intro (decide_eq_true hst) hpres) (need_ok hpre (need_ok rfl ?_)))
    exact need_ok hok (need_ok hl rfl)

/-! Flip requests. -/

section Flip

variable {s : State} {when_ seq scope l : Nat}

theorem flipRequest_ok (h : s.flipCheck when_ seq scope l = .ok ()) :
    s.flipRequest when_ seq scope l =
      ({ s.requestFlip when_ seq scope l with flips := { (s.requestFlip when_ seq scope l).flips with result := 0 } }, none) := by
  rw [State.flipRequest, h]

theorem flipObject_ok (hn : s.nmt.state ≠ .stopped) (h : s.flipCheck when_ seq scope l = .ok ()) :
    s.flipObject when_ seq scope l =
      State.accept { s.requestFlip when_ seq scope l with
        flips := { (s.requestFlip when_ seq scope l).flips with result := 0 } } 0x2800 := by
  rw [State.flipObject, if_neg hn, flipRequest_ok h]

/-- A cancel with no pending lane in its scope changes nothing. -/
theorem requestFlip_cancel_none (h : ∀ k, k ∈ s.scopeLanes scope l → (s.lane k).draftState ≠ .pending) :
    s.requestFlip 2 seq scope l = s := by
  have hnone : ((s.scopeLanes scope l).filterMap fun k =>
      if (s.lane k).draftState = .pending then some (s.lane k).flipReq else none) = [] :=
    List.filterMap_eq_nil_iff.2 fun k hk => if_neg (h k hk)
  rw [State.requestFlip, if_pos rfl]
  dsimp only
  rw [hnone]
  rfl

/-- A cancel of one lane that waits for a request of lane or scanner scope takes that lane back to READY. -/
theorem requestFlip_cancel_lane (h : (s.lane l).draftState = .pending) (hs : (s.flipReq (s.lane l).flipReq).scope < 2) :
    s.requestFlip 2 seq 0 l = { s with
      lanes := mapEach {} s.lanes fun i x =>
        if x.flipReq = (s.lane l).flipReq ∧ x.draftState = .pending ∧ [l].contains i then
          { x with draftState := .ready, flipReq := 0 } else x
      flips := { s.flips with cancelled := wrapInc 32 s.flips.cancelled } } := by
  have hone : (([l].filterMap fun k =>
      if (s.lane k).draftState = .pending then some (s.lane k).flipReq else none).eraseDups) = [(s.lane l).flipReq] := by
    simp only [List.filterMap_cons, List.filterMap_nil, h, if_true]
    rfl
  rw [State.requestFlip, if_pos rfl, show s.scopeLanes 0 l = [l] from rfl]
  dsimp only
  rw [hone]
  exact if_neg (Nat.not_le.2 hs)

/-- A descriptor of a flip request that passes its checks ends with completion code 0. -/
theorem execFlipDescriptor_ok {q : Nat} {h : Head} (hh : (s.ring q).head = some h) (hk : s.ringKind q = 3)
    (hop : descOp h.raw = 0x32) (hm : h.moving = true) (hscope : bits h.raw 199 198 = scope)
    (hl : (if bits h.raw 199 198 = 3 then 0 else knotLane h.raw) = l)
    (hc : s.flipCheck (bits h.raw 197 196) (bits h.raw 255 224) scope l = .ok ()) :
    execFlipDescriptor q s =
      State.endHead { s.requestFlip (bits h.raw 197 196) (bits h.raw 255 224) scope l with
        flips := { (s.requestFlip (bits h.raw 197 196) (bits h.raw 255 224) scope l).flips with result := 0 } } q 0 := by
  rw [execFlipDescriptor, hh]
  dsimp only
  rw [if_neg (by simp [hk, hop, hm]), hl, hscope, flipRequest_ok hc]

end Flip

/-- Settles O30: a request that passes R190's checks is taken, and its result is 0. -/
theorem flipCommands : Obligations.FlipCommands := by
  unfold Obligations.FlipCommands
  refine fun s hp => ⟨?named, ?next, ?cancelNone, ?cancelLane, ?wholePart, ?lanes⟩
  case named =>
    rintro seq scope l hb hw hs hn hc t rfl
    exact completes_serve rfl hp hw hb hs (flipObject_ok hn hc)
  case next =>
    rintro scope l hb hw hs hn hc t rfl u rfl
    exact completes_serve rfl hp hw hb hs (flipObject_ok hn hc)
  case cancelNone =>
    intro scope l hb hw hs hn hc hnone
    refine completes_serve rfl hp hw hb hs ((flipObject_ok hn hc).trans ?_)
    rw [requestFlip_cancel_none hnone]
  case cancelLane =>
    intro k hb hw hs hn hc hk hscope
    refine completes_serve rfl hp hw hb hs ((flipObject_ok hn hc).trans ?_)
    rw [requestFlip_cancel_lane hk hscope]
  case wholePart =>
    rintro q h hh hk hop hm hscope hc t rfl
    exact completes_live rfl hp (execFlipDescriptor_ok hh hk hop hm hscope (if_pos hscope) hc)
  case lanes =>
    rintro q h hh hk hop hm hscope hc t rfl
    exact completes_live rfl hp (execFlipDescriptor_ok hh hk hop hm rfl (if_neg hscope) hc)

end Sys2Proof.Proofs
end

section
/-! PROOF. Edges, samples and the watchdog of a scanner (R200 to R220, R253), and the frames and commands of its Pulse link (chapter 8). -/

namespace Sys2Proof.Proofs

open Sys2Proof Sys2Proof.Machine Sys2Proof.Laws

section Edge

variable {s : State} {g ns : Nat} {falling : Bool}

theorem edge_taken (hf : falling = decide (s.cfg (0x2900 + g) 6 = 1)) (hn : 10 ≤ ns) :
    ¬ (falling ≠ decide (s.cfg (0x2900 + g) 6 = 1) ∨ ns < 10) :=
  fun h => h.elim (fun h => h hf) fun h => absurd h (Nat.not_lt.2 hn)

theorem scanner_judges (hg : s.scannerPresent g = true) (hl : (s.scanner g).state.lit = true) (hlaser : (s.scanner g).laser = true) :
    ¬ (s.scannerPresent g = false ∨ (s.scanner g).state.lit = false ∨ (s.scanner g).laser = false) := by
  rw [hg, hl, hlaser]
  decide

end Edge

/-- Settles O31: each event of a lit scanner meets its guard. -/
theorem scannerEvents : Obligations.ScannerEvents := by
  unfold Obligations.ScannerEvents
  refine fun s g hp hg => ⟨?first, ?ignored, ?spurious, ?missing, ?phase, ?lineStart, ?lineEnd, ?search, ?coast, ?watchdog, ?retry⟩
  case first =>
    intro t16 falling ns hf hn hl hlaser hfirst
    refine told_live rfl hp ?_
    exact (if_neg (edge_taken hf hn)).trans ((if_neg (scanner_judges hg hl hlaser)).trans (if_pos hfirst))
  case ignored => exact fun t16 falling ns h => told_live rfl hp (if_pos h)
  case spurious =>
    rintro t16 falling ns t hf hn hl hlaser hfirst rfl hlate
    refine told_live rfl hp ((if_neg (edge_taken hf hn)).trans ((if_neg (scanner_judges hg hl hlaser)).trans ?_))
    exact (if_neg (by rw [hfirst]; decide)).trans (if_pos hlate)
  case missing =>
    intro last hlast hl hlaser hfirst
    refine told_live rfl hp ?_
    rw [execBdMissing, hlast]
    exact if_neg (by simp [hg, hl, hlaser, hfirst])
  case phase =>
    rintro ph t hph hl hphased hi rfl hper
    refine told_live rfl hp ?_
    rw [execPhaseSample, hph]
    dsimp only
    rw [if_neg (by simp [hg, hl]), if_neg (by rw [hphased]; decide), if_neg (not_or.2 ⟨hi, hper⟩)]
  case lineStart =>
    intro l hline hs ha
    refine told_live rfl hp ?_
    rw [execLineStart, hline]
    exact if_neg (by simp [hs, ha])
  case lineEnd =>
    intro l hline
    refine told_live rfl hp ?_
    rw [execLineEnd, hline]
  case search =>
    rintro t hs rfl hlaser
    exact told_live rfl hp ((if_pos ⟨hg, hs⟩).trans (if_pos hlaser))
  case coast =>
    rintro t hs rfl hlaser
    exact told_live rfl hp ((if_pos ⟨hg, hs⟩).trans (if_neg (by rw [hlaser]; decide)))
  case watchdog =>
    rintro last t hlaser hl hs hlast rfl
    refine told_live rfl hp ?_
    rw [execBdWatchdog, hlast]
    exact (if_neg (by simp [hg, hl, hlaser])).trans (if_neg hs)
  case retry => exact fun h => told_live rfl hp (if_pos ⟨hg, h⟩)

/-! A line whose lanes fell into detention: its codes are formed again before the next CODE frame (R165). -/

/-- A line of scanner 0 with one frame of 16 cells to send, its trims sent, and codes formed before a lane was detained. -/
def staleLine : Line :=
  { slot := 0, n := 0, tag := 0, seq := 0, facet := 0, tls16 := 0, period := 0, dir := 0, cells := 16, codes := [], slates := []
    stale := true, trimsSent := 1024 }

/-- Scanner 0 with that line, its link as at reset. -/
def staleAtReset : State := { State.reset with scanners := [(0, { line := some staleLine })] }

/-- Whether the line that a scanner holds is stale. -/
def lineStale (s : State) (g : Nat) : Option Bool := (s.scanner g).line.map (·.stale)

/-- The CODE frame of O33, sent with the codes in hand. -/
def codeFrameAsStated (s : State) (g : Nat) (l : Line) : State :=
  (s.sendFrame g .codeFrame 0x4B (16 * l.codesSent) ((upTo 16).flatMap fun i =>
    cellBlocks (l.codes.map fun m => mapGet 0 m (16 * l.codesSent + i)))).modScanner g fun x =>
      { x with line := some { l with codesSent := l.codesSent + 1 } }

/-- Its dwell count. -/
def dwellAsStated (g : Nat) (l : Line) (t : State) : State :=
  t.modLink g fun x => { x with runs := (dwellStep (64 * t.cfg (0x2A00 + g) 4) l l.codesSent (t.link g).runs).1 }

theorem completes_codeFrameSend {s : State} (g : Nat) (hp : s.powered = true) :
    Completes (.codeFrameSend g) s (execCodeFrameSend g s) :=
  completes_live rfl hp rfl

theorem stale_sent :
    lineStale (finish staleAtReset (execCodeFrameSend 0 staleAtReset)) 0 = some false := by decide +kernel

theorem stale_asStated :
    lineStale (finish staleAtReset (dwellAsStated 0 staleLine (codeFrameAsStated staleAtReset 0 staleLine))) 0 = some true := by
  decide +kernel

/-- Refutes O33: its CODE clause sends the codes that a line holds, for every line; but where a lane was detained since they were
formed (R165), the model forms them again first and the line is stale no more. A stale line of scanner 0 shows it. -/
theorem not_linkFrames : ¬ Obligations.LinkFrames := by
  intro h
  have hp : staleAtReset.powered = true := by decide +kernel
  have hready : staleLine.trimsReady staleLine.codesSent = true := by decide +kernel
  have hsent : staleLine.codesSent < staleLine.endedFrames staleAtReset.timebase + 64 := by decide +kernel
  have hlink : (staleAtReset.link 0).state ≠ .disabled := by decide +kernel
  have hdwell : (dwellStep (64 * (codeFrameAsStated staleAtReset 0 staleLine).cfg (0x2A00 + 0) 4) staleLine staleLine.codesSent
      ((codeFrameAsStated staleAtReset 0 staleLine).link 0).runs).2 = false := by decide +kernel
  obtain ⟨hstated, -⟩ := h staleAtReset 0 hp
  have heq := finish_eq_of_completes (completes_codeFrameSend 0 hp)
    (hstated staleLine rfl rfl (by decide) hready hsent hlink (codeFrameAsStated staleAtReset 0 staleLine) rfl hdwell)
  have hstale := stale_sent
  rw [heq] at hstale
  exact absurd (hstale.symm.trans stale_asStated) (by decide)

/-- Settles O34: each timer and command of a link meets its guard. -/
theorem linkCommands : Obligations.LinkCommands := by
  unfold Obligations.LinkCommands
  refine fun s g hg => ⟨?bad, ?status, ?ident, ?retrain, ?enable, ?disable, ?clear, ?readback⟩
  case bad => exact fun hp => completes_live rfl hp (if_pos hg)
  case status => exact fun hp hs => told_live rfl hp (if_pos ⟨hg, hs⟩)
  case ident => exact fun hp hs => told_live rfl hp (if_pos ⟨hg, hs⟩)
  case retrain =>
    rintro t hp hs rfl
    exact told_live rfl hp (if_pos ⟨hg, hs⟩)
  case enable =>
    intro hc hf hs
    exact told_command rfl hc (need_ok hg (need_ok (by rw [hf]; rfl) (congrArg Except.ok (if_pos hs))))
  case disable =>
    intro hc hn
    exact told_command rfl hc (need_ok hg (need_ok (by rw [hn]; rfl) rfl))
  case clear => exact fun hc => told_command rfl hc (need_ok hg rfl)
  case readback => exact fun hp hl => told_live rfl hp (if_pos ⟨hg, hl⟩)

end Sys2Proof.Proofs
end

section
/-! PROOF. Feedback channels (R255 to R269), latches and compare outputs (R259 to R273). -/

namespace Sys2Proof.Proofs

open Sys2Proof Sys2Proof.Machine Sys2Proof.Laws

theorem serialLive_of {s : State} {ch : Nat} (h16 : 16 ≤ ch) (hp : s.chanPresent ch = true) (hs : (s.chan ch).state = .run) :
    s.serialLive ch = true := by
  simp [State.serialLive, h16, hp, hs]

/-- A word without a CRC and an error bit, in binary and counted upwards, moves its channel by its difference to the word before. -/
theorem execSerialWord_plain {s : State} {ch word w n p t0 : Nat} (hl : s.serialLive ch = true) (hr : (s.chan ch).reading = some t0)
    (hw : w = s.chanCfg ch) (hn : n = bits w 57 52 + 1) (hp : p = bits w 51 46 + 1) (hk : bits w 45 41 = 0) (he : bit w 59 = false)
    (hg : bit w 61 = false) (hd : bit w 62 = false) :
    execSerialWord ch word s =
      (((s.modChan ch fun c => { c with reading := none, readyAt := s.timebase + s.recovery ch }).modChan ch fun c =>
        { c with lastWord := some (word % 2 ^ n / 2 ^ (n - p)), bad := 0 }).channelMoved ch (t0 - 64 * bits w 9 2)
          ((if (s.chan ch).lastWord.isSome then (s.chan ch).position else 0) +
            toSigned p (word % 2 ^ n / 2 ^ (n - p) + 2 ^ p - (s.chan ch).lastWord.getD 0))) := by
  subst hw hn hp
  rw [execSerialWord, hr]
  dsimp only
  rw [if_pos hl, hk, he, hg, hd]
  rfl

/-- Settles O35: each edge and word meets its guard. -/
theorem feedbackEvents : Obligations.FeedbackEvents := by
  unfold Obligations.FeedbackEvents
  refine fun s ch hp hc => ⟨?count, ?both, ?alarm, ?index, ?armed, ?start, ?skipped, ?first, ?word, ?timeout⟩
  case count =>
    intro a b t h16 hs hab hn hb
    refine told_live rfl hp ?_
    have h1 : ¬ ((s.chan ch).state ≠ .run ∨ ((s.chan ch).a = a ∧ (s.chan ch).b = b)) :=
      fun h => h.elim (· hs) fun h => hab.1 h.1 h.2
    have h2 : ¬ (((s.chan ch).a ≠ a ∧ (s.chan ch).b ≠ b) ∨ ((s.chan ch).counted ∧ t < (s.chan ch).t1 + 40)) := by
      rw [hn]
      exact fun h => h.elim (fun h => h.1 (hab.2 h.2)) fun h => Bool.false_ne_true h.1
    refine (if_neg (by simp [hc, h16])).trans ((if_neg h1).trans ((if_neg h2).trans ?_))
    dsimp only
    rw [hb]
    rfl
  case both =>
    intro a b t h16 hs ha hb
    refine told_live rfl hp ((if_neg (by simp [hc, h16])).trans ((if_neg ?_).trans (if_pos (Or.inl ⟨ha, hb⟩))))
    exact fun h => h.elim (· hs) fun h => ha h.1
  case alarm => exact fun h16 hs hb => told_live rfl hp (if_pos ⟨h16, hc, hs, hb⟩)
  case index =>
    intro t h16 hs hw h1
    refine completes_live rfl hp ((if_neg (by simp [hc, h16, hs, hw])).trans (if_neg fun h => h1 h.1))
  case armed =>
    rintro t h16 hs hw h1 ha u rfl -
    exact completes_live rfl hp ((if_neg (by simp [hc, h16, hs, hw])).trans (if_pos ⟨h1, ha⟩))
  case start =>
    intro t h16 hs hr ht
    have hbusy : ¬ ((s.chan ch).reading.isSome ∨ t < (s.chan ch).readyAt) := by simp [hr, ht]
    exact told_live rfl hp ((if_pos (serialLive_of h16 hc hs)).trans ((if_neg hbusy).trans (if_neg (by decide))))
  case skipped =>
    intro t t0 h16 hs hr low
    have hbusy : (s.chan ch).reading.isSome ∨ t < (s.chan ch).readyAt := by simp [hr]
    exact told_live rfl hp ((if_pos (serialLive_of h16 hc hs)).trans (if_pos hbusy))
  case first =>
    rintro w word p n t0 t h16 hs hr hw hn hpos hk he hg hd hlast rfl
    refine told_live rfl hp ((execSerialWord_plain (serialLive_of h16 hc hs) hr hw hn hpos hk he hg hd).trans ?_)
    rw [hlast]
    rfl
  case word =>
    rintro w word p n t0 t l h16 hs hr hw hn hpos hk he hg hd hlast rfl
    refine told_live rfl hp ((execSerialWord_plain (serialLive_of h16 hc hs) hr hw hn hpos hk he hg hd).trans ?_)
    rw [hlast]
    rfl
  case timeout =>
    intro t0 h16 hs hr hb
    refine told_live rfl hp ((if_pos ⟨serialLive_of h16 hc hs, by rw [hr]; rfl, hb⟩).trans ?_)
    rw [hr]
    rfl

/-! Channels, latches and compare outputs. -/

/-- The axes homed on a channel lose their position; nothing else changes. -/
theorem cfg_loseAxes (l : List Nat) (s : State) (i k : Nat) :
    (l.foldl (fun v a => v.modAxis a fun x => { x with lost := true }) s).cfg i k = s.cfg i k := by
  obtain ⟨ax, cs, tr, fs, it, o, h⟩ := AxesMoved.foldl (fun s a => AxesMoved.modAxis s a fun x => { x with lost := true }) l s
  rw [h]
  rfl

/-- The time since the last capture lets a latch take another (R270). -/
def latchRested (last : Option Nat) (t : Nat) : Bool := match last with
  | some l => decide (l + 160 ≤ t)
  | none => true

theorem latchRested_of {last : Option Nat} {t : Nat} (h : ∀ l, last = some l → l + 160 ≤ t) : latchRested last t = true := by
  cases last with
  | none => rfl
  | some l => exact decide_eq_true (h l rfl)

/-- The edge that a latch is set to is the one that came. -/
theorem latchEdge_of {e : Nat} {rising : Bool} (h : e = 2 ∨ e = (if rising then 0 else 1)) :
    (decide (e = 2) || (decide (e = 0) && rising) || (decide (e = 1) && !rising)) = true := by
  rcases h with rfl | rfl
  · rfl
  · cases rising <;> rfl

/-- Settles O36: each command meets its checks, and each latch and compare event its guard. -/
theorem channelsLatchesCompares : Obligations.ChannelsLatchesCompares := by
  unfold Obligations.ChannelsLatchesCompares
  refine fun s => ⟨?clear, ?clearError, ?arm, ?set, ?capture, ?queue, ?pulse, ?append, ?appendRing, ?enable, ?disable⟩
  case clear => exact fun ch hc hp hs => completes_command rfl hc (need_ok hp (if_neg hs))
  case clearError =>
    rintro ch hc hp hs hne t rfl
    refine completes_command rfl hc (need_ok hp ((if_pos hs).trans (congrArg Except.ok (if_neg ?_))))
    split
    · rw [cfg_loseAxes]
      exact hne
    · exact hne
  case arm => exact fun ch hc hp => completes_command rfl hc (need_ok hp rfl)
  case set => exact fun ch hc hp => completes_command rfl hc (need_ok hp rfl)
  case capture =>
    rintro n t rising hp hl hw hb he hlast pos cap u v rfl rfl rfl rfl hm
    refine completes_live rfl hp ((if_pos ?_).trans (if_neg ?_))
    · exact and_true_intro (and_true_intro (and_true_intro (and_true_intro hl hw) hb) (latchRested_of hlast)) (latchEdge_of he)
    · exact fun h => Bool.false_ne_true (hm.symm.trans h.1)
  case queue => exact fun n hp hb hw hs hl => completes_serve rfl hp hw hb hs (if_pos hl)
  case pulse =>
    intro n t hp ht
    refine completes_live rfl hp ?_
    rw [execComparePulseEnd, ht]
  case append =>
    intro n es hc hn hp he ho hlen
    refine completes_command rfl hc (need_ok (and_true_intro (decide_eq_true hn) hp) (need_ok (decide_eq_true he) ?_))
    exact need_ok ho (need_ok (decide_eq_true hlen) rfl)
  case appendRing =>
    rintro q h n es hp hh hk hop hm hb hd rfl rfl ho hlen
    refine completes_live rfl hp ?_
    rw [execCompareAppendDescriptor, hh]
    refine (if_neg (by simp [hk, hop, hm, hb, hd])).trans ((if_neg (by rw [ho]; decide)).trans (if_neg (Nat.not_lt.2 hlen)))
  case enable =>
    intro n v hc hn hp hok hnames hv hw hmode ha
    refine completes_command rfl hc (need_ok (and_true_intro (decide_eq_true hn) hp) (need_ok hok (need_ok hnames ?_)))
    refine need_ok (by rw [hv, hw, ha]; rfl) (need_ok (by rw [decide_eq_false hmode, Bool.and_false]; rfl) ?_)
    simp only [hv, if_true]
  case disable =>
    intro n v hc hn hp hok hnames hv
    refine completes_command rfl hc (need_ok (and_true_intro (decide_eq_true hn) hp) (need_ok hok (need_ok hnames ?_)))
    refine need_ok (by rw [hv]; rfl) (need_ok (by rw [hv]; rfl) ?_)
    simp only [hv, Bool.false_eq_true, if_false]

end Sys2Proof.Proofs
end

section
/-! PROOF. Axis commands and events (R274 to R289), and the loop slots of a die (R300 to R308). -/

namespace Sys2Proof.Proofs

open Sys2Proof Sys2Proof.Machine Sys2Proof.Laws

theorem axisEither {s : State} {a : Nat} {x y : AxisState} (hf : s.axisFree a = true) (h : (s.axis a).state = x ∨ (s.axis a).state = y) :
    (s.axisFree a && (decide ((s.axis a).state = x) || decide ((s.axis a).state = y))) = true := by
  simp [hf, h]

theorem axisAnyOf {s : State} {a : Nat} {x y z : AxisState} (hf : s.axisFree a = true)
    (h : (s.axis a).state = x ∨ (s.axis a).state = y ∨ (s.axis a).state = z) :
    (s.axisFree a && (decide ((s.axis a).state = x) || decide ((s.axis a).state = y) || decide ((s.axis a).state = z))) = true := by
  simp [hf, or_assoc, h]

theorem axisRunning {s : State} {a : Nat} (code : Nat) (hc : commanded s (0x3000 + a) = true) :
    (decide (s.nmt.state ≠ .stopped) || !startsAxis code) = true := by
  rw [decide_eq_true (commanded_running hc)]
  rfl

/-- Settles O37: each axis command meets the checks of Table 9-10 in the states that take it. -/
theorem axisCommands : Obligations.AxisCommands := by
  unfold Obligations.AxisCommands
  refine fun s a hc hp => ⟨?enable, ?disable, ?move, ?jog, ?gear, ?halt, ?stop, ?position, ?clear, ?tension⟩
  case enable =>
    intro hf hs hw hh hr
    refine completes_command rfl hc (need_ok hp (need_ok (axisRunning 1 hc) (need_ok ?_ (need_ok hr rfl))))
    exact and_true_intro (and_true_intro (axisEither hf hs) hw) (by rw [hh]; rfl)
  case disable =>
    exact fun hf hs => completes_command rfl hc (need_ok hp (need_ok (axisRunning 2 hc) (need_ok (axisEither hf hs) rfl)))
  case move =>
    exact fun hf hs => completes_command rfl hc (need_ok hp (need_ok (axisRunning 3 hc) (need_ok (axisEither hf hs) rfl)))
  case jog =>
    exact fun hf hs => completes_command rfl hc (need_ok hp (need_ok (axisRunning 4 hc) (need_ok (axisEither hf hs) rfl)))
  case gear =>
    intro t hf hs hg
    refine completes_command rfl hc (need_ok hp (need_ok (axisRunning 5 hc) (need_ok (axisEither hf hs) ?_)))
    rw [State.axisArgs, hg]
  case halt =>
    exact fun hf hs => completes_command rfl hc (need_ok hp (need_ok (axisRunning 6 hc) (need_ok (axisAnyOf hf hs) rfl)))
  case stop =>
    intro ho hd hg
    refine completes_command rfl hc (need_ok hp (need_ok (axisRunning 7 hc) (need_ok ?_ (congrArg Except.ok (if_neg ?_)))))
    · exact and_true_intro (decide_eq_true ho) (decide_eq_true hd)
    · rw [hg]
      decide
  case position => exact fun hf => completes_command rfl hc (need_ok hp (need_ok (axisRunning 8 hc) (need_ok hf rfl)))
  case clear =>
    intro hf hs hk
    refine completes_command rfl hc (need_ok hp (need_ok (axisRunning 9 hc) (need_ok (and_true_intro hf (decide_eq_true hs)) ?_)))
    have h0 := hk 0 (by decide)
    have h1 := hk 1 (by decide)
    have h2 := hk 2 (by decide)
    have h3 := hk 3 (by decide)
    simp only [upTo, List.range, List.range.loop, List.foldl, h0, h1, h2, h3]
  case tension =>
    exact fun hf hs => completes_command rfl hc (need_ok hp (need_ok (axisRunning 10 hc) (need_ok (axisAnyOf hf hs) rfl)))

/-- Settles O38: each event of an axis meets its guard. -/
theorem axisEvents : Obligations.AxisEvents := by
  unfold Obligations.AxisEvents
  refine fun s a hp ha => ⟨?moved, ?halted, ?crossed, ?forward, ?back, ?fault, ?period, ?up, ?down⟩
  case moved =>
    rintro t u ht hs rfl
    refine told_live rfl hp ?_
    rw [execMoveComplete, ht]
    exact if_pos ⟨ha, hs⟩
  case halted => exact fun hs hh => told_live rfl hp (if_pos ⟨ha, hs, hh⟩)
  case crossed =>
    intro r wc hr hs hw
    refine completes_live rfl hp ?_
    rw [execGearArmCrossing, hr]
    exact if_pos ⟨ha, hs, hw⟩
  case forward =>
    intro levels k o h16 hb hk ho hne
    refine told_live rfl hp ((if_neg (by simp [ha, h16, hb])).trans ?_)
    dsimp only
    rw [hk, ho]
    dsimp only
    rw [hne]
    exact if_pos rfl
  case back =>
    intro levels k o h16 hb hk ho hne
    refine told_live rfl hp ((if_neg (by simp [ha, h16, hb])).trans ?_)
    dsimp only
    rw [hk, ho]
    exact (if_neg (by omega)).trans (if_pos hne)
  case fault =>
    intro levels h16 hb hk hoff hd
    refine told_live rfl hp ((if_neg (by simp [ha, h16, hb])).trans ?_)
    dsimp only
    rw [hk]
    exact if_pos (and_true_intro (decide_eq_true hoff) (decide_eq_true hd))
  case period =>
    rintro t h16 hoff hd hb rfl
    exact told_live rfl hp ((if_neg (by simp [ha, hoff, hd, hb])).trans (if_pos h16))
  case up =>
    rintro u inc n setup t h16 hs rfl hv rfl hi rfl rfl rfl
    refine told_live rfl hp ((if_neg (by simp [ha, h16, hs])).trans ?_)
    generalize (s.catchUp a).axisGoal a = gr
    obtain ⟨goal, rate⟩ := gr
    dsimp only
    rw [if_neg fun h => Rat.ne_of_gt hv h.1]
    simp only [decide_eq_true hv, Bool.true_or, if_true, if_neg hi]
    rfl
  case down =>
    rintro u inc n setup t h16 hs rfl hv rfl hi rfl rfl rfl
    refine told_live rfl hp ((if_neg (by simp [ha, h16, hs])).trans ?_)
    generalize (s.catchUp a).axisGoal a = gr
    obtain ⟨goal, rate⟩ := gr
    dsimp only
    rw [if_neg fun h => Rat.ne_of_lt hv h.1]
    simp only [decide_eq_false (Rat.not_lt.2 (Rat.le_of_lt hv)), decide_eq_false (Rat.ne_of_lt hv), Bool.false_and,
      Bool.or_false, Bool.false_eq_true, if_false, if_neg hi]
    rfl

/-- Settles O39: each event of a loop slot meets its guard. -/
theorem loopCommands : Obligations.LoopCommands := by
  unfold Obligations.LoopCommands
  refine fun s j => ⟨?conversion, ?due, ?again, ?next, ?computed, ?lost⟩
  case conversion =>
    intro u n rest c hp hr hc hpres code
    refine told_live rfl hp ?_
    rw [execConversionComplete, hr]
    exact if_neg (by simp [Nat.mod_eq_of_lt hc, hpres, hc])
  case due =>
    intro hp hj he hw hd
    refine told_live rfl hp ((if_neg (by simp [hj, he])).trans ?_)
    dsimp only
    rw [hw]
    exact if_pos hd
  case again =>
    intro t hp hj he hw ht
    refine told_live rfl hp ((if_neg (by simp [hj, he])).trans ?_)
    dsimp only
    rw [hw, ht]
    rfl
  case next =>
    intro t hp hj he hw hn ht
    refine told_live rfl hp ((if_neg (by simp [hj, he])).trans ?_)
    dsimp only
    rw [hw, hn, ht]
    rfl
  case computed =>
    rintro t u y hp hj he ht rfl hy
    refine told_live rfl hp ?_
    rw [execLoopComputation, ht]
    dsimp only
    rw [if_pos ⟨he, hj⟩, hy]
  case lost =>
    rintro t u hp hj he ht rfl hy
    refine told_live rfl hp ?_
    rw [execLoopComputation, ht]
    dsimp only
    rw [if_pos ⟨he, hj⟩, hy]

end Sys2Proof.Proofs
end

section
/-! PROOF. Delta-sigma inputs and HV channels (R311 to R317), and the zones and nip of the fuser (R319 to R326). -/

namespace Sys2Proof.Proofs

open Sys2Proof Sys2Proof.Machine Sys2Proof.Laws

/-- Settles O41: each filter output is judged against the trips of its channel, and each HV command meets its checks. -/
theorem highVoltageCommands : Obligations.HighVoltageCommands := by
  unfold Obligations.HighVoltageCommands
  refine fun s => ⟨?main, ?mainTrip, ?fast, ?fastTrip, ?lost, ?blank, ?enable, ?disable, ?clear⟩
  case main =>
    rintro i n h r density v t hp rfl hh rfl rfl rfl rfl hok
    refine completes_live rfl hp ((if_neg (by rw [hh]; decide)).trans (if_neg ?_))
    rintro ⟨hi, hl, ht⟩
    rcases hok with hok | hok | hok
    · exact absurd (hi.symm.trans hok) (by decide)
    · exact Bool.false_ne_true (hok.symm.trans hl)
    · exact absurd ht (Rat.not_lt.2 hok)
  case mainTrip =>
    rintro i n h r density v t hp rfl hh rfl rfl rfl rfl hi hl ht
    exact completes_live rfl hp ((if_neg (by rw [hh]; decide)).trans (if_pos ⟨hi, hl, ht⟩))
  case fast =>
    rintro i n v t hp hh rfl rfl hok
    exact completes_live rfl hp ((if_neg (by rw [hh]; decide)).trans (if_pos hok))
  case fastTrip =>
    rintro i n v t hp hh rfl rfl hi hl ht
    refine completes_live rfl hp ((if_neg (by rw [hh]; decide)).trans ((if_neg ?_).trans (if_pos ht)))
    exact fun h => h.elim (fun h => absurd (hi.symm.trans h) (by decide)) fun h => Bool.false_ne_true (h.symm.trans hl)
  case lost =>
    rintro i t hp hh rfl hl
    exact told_live rfl hp ((if_neg (by rw [hh]; decide)).trans (if_pos hl))
  case blank => exact fun h hp hh hs => completes_live rfl hp (if_pos ⟨hh, hs⟩)
  case enable =>
    intro h hc hh hs h17 h18 hslot hw ho hr
    refine completes_command rfl hc (need_ok hh (need_ok (decide_eq_true hs) (need_ok ?_ ?_)))
    · exact and_true_intro (and_true_intro (decide_eq_true h17) (decide_eq_true h18)) hslot
    · exact need_ok (and_true_intro hw ho) (need_ok hr rfl)
  case disable => exact fun h hc hh hs => completes_command rfl hc (need_ok hh (need_ok (decide_eq_true hs) rfl))
  case clear => exact fun h hc hh hs => completes_command rfl hc (need_ok hh (need_ok (decide_eq_true hs) rfl))

/-- Settles O42: each event of a zone's mains, sensor and bands meets its guard. -/
theorem fuserEvents : Obligations.FuserEvents := by
  unfold Obligations.FuserEvents
  refine fun s z hp hz => ⟨?falling, ?rising, ?firing, ?timeout, ?sample, ?hold⟩
  case falling =>
    intro t ht ha
    exact told_live rfl hp ((if_neg (by simp [hz, ht, ha])).trans (if_pos rfl))
  case rising =>
    rintro t r u ht ha hr rfl hm
    refine told_live rfl hp ((if_neg (by simp [hz, ht, ha])).trans ((if_neg (by decide)).trans ?_))
    rw [show ((s.advanceTo t).zone z).lastRising = some r from hr]
    exact if_pos hm
  case firing =>
    intro t hlast ht hl hf hfired
    refine completes_live rfl hp ?_
    rw [execFiringDelayElapsed, hlast]
    exact if_pos ⟨hz, ht, hl, hf, hfired⟩
  case timeout =>
    intro t hlast ht hl hper
    refine told_live rfl hp ?_
    rw [execZeroCrossTimeout, hlast]
    exact if_pos ⟨hz, ht, hl, hper⟩
  case sample =>
    rintro t hd hs rfl hw
    refine told_live rfl hp ((if_neg (by simp [hz, hd])).trans ?_)
    dsimp only
    rw [hs, hw]
    rfl
  case hold =>
    intro t hb hs hi
    refine told_live rfl hp ?_
    rw [execBandHoldElapsed, hb]
    exact if_pos ⟨hz, hs, hi⟩

/-- Settles O43: each command of a zone and of the nip meets its checks. -/
theorem fuserCommands : Obligations.FuserCommands := by
  unfold Obligations.FuserCommands
  refine fun s => ⟨?start, ?stop, ?clear, ?setbackWarm, ?setback, ?resume, ?run, ?opened, ?closed⟩
  case start =>
    intro z hc hz hs hd h18 hslot hw ho hr
    refine told_command rfl hc (need_ok hz (need_ok (decide_eq_true hs) (need_ok ?_ ?_)))
    · exact and_true_intro (and_true_intro (decide_eq_true hd) (decide_eq_true h18)) hslot
    · exact need_ok (and_true_intro hw ho) (need_ok hr rfl)
  case stop => exact fun z hc hz hs => told_command rfl hc (need_ok hz (need_ok (decide_eq_true hs) rfl))
  case clear => exact fun z hc hz hs => told_command rfl hc (need_ok hz (need_ok (decide_eq_true hs) rfl))
  case setbackWarm =>
    intro z hc hz hs
    refine told_command rfl hc (need_ok hz (need_ok (by rw [hs]; rfl) ?_))
    rw [State.zoneToSetback, hs]
  case setback =>
    intro z hc hz hs
    refine told_command rfl hc (need_ok hz (need_ok (by rw [hs]; rfl) ?_))
    rw [State.zoneToSetback, hs]
  case resume =>
    intro z hc hz hs
    exact told_command rfl hc (need_ok hz (need_ok (decide_eq_true hs) (congrArg Except.ok (if_pos hs))))
  case run =>
    intro z v hc hz hv hb hle
    refine completes_command rfl hc (need_ok hz (need_ok (and_true_intro (decide_eq_true hv) (by rw [hb]; rfl)) ?_))
    exact need_ok (decide_eq_true hle) rfl
  case opened => exact fun hc ht => told_command rfl hc (need_ok (decide_eq_true ht) (need_ok rfl rfl))
  case closed =>
    intro hc ht hf hh
    exact told_command rfl hc (need_ok (decide_eq_true ht) (need_ok (by rw [hf, hh]; rfl) rfl))

end Sys2Proof.Proofs
end

section
/-! PROOF. PLLs and clock outputs (R331 to R342), the ring's membership (R355 to R364), group time and group frames (R347 to R379). -/

namespace Sys2Proof.Proofs

open Sys2Proof Sys2Proof.Machine Sys2Proof.Laws

section Pll

variable {s : State} {die pll : Nat}

/-- A PLL that is not locked, and not one of the first two once locked, is still to lock. -/
theorem pll_locks (hs : s.pllServes die pll = true) (hl : bit (s.dieClock die).lock pll = false)
    (he : 2 ≤ pll ∨ bit (s.dieClock die).ever pll = false) :
    ¬ (s.pllServes die pll = false ∨ bit (s.dieClock die).lock pll ∨ (pll < 2 ∧ bit (s.dieClock die).ever pll)) := by
  rw [hs, hl]
  rintro (h | h | ⟨h2, h⟩)
  · exact Bool.false_ne_true h.symm
  · exact Bool.false_ne_true h
  · exact he.elim (fun he => absurd h2 (Nat.not_lt.2 he)) fun he => Bool.false_ne_true (he.symm.trans h)

end Pll

/-- Settles O44: each lock event meets its guard, and each clock command its checks. -/
theorem clockCommands : Obligations.ClockCommands := by
  unfold Obligations.ClockCommands
  refine fun s die => ⟨?reference, ?lock, ?timeout, ?again, ?loss, ?lostForGood, ?refclk, ?divider, ?output, ?aux⟩
  case reference =>
    rintro pll u t hp hs hl h2 he rfl rfl
    refine told_live rfl hp ((if_neg (pll_locks hs hl (Or.inr he))).trans ?_)
    exact (if_neg (by omega)).trans (if_neg (by omega))
  case lock =>
    rintro pll t hp hs hl h2 rfl
    have h1 : ¬ (pll = 1 ∧ s.timebaseRuns = false) := fun h => absurd h.1 (by omega)
    have hlock := pll_locks hs hl (Or.inl h2)
    refine ⟨fun h => ?_, fun h => ?_, fun h => ?_⟩ <;> refine told_live rfl hp ((if_neg hlock).trans ?_) <;> dsimp only <;>
      rw [if_neg h1]
    · exact if_pos h
    · exact (if_neg (by omega)).trans (if_pos h)
    · exact (if_neg (by omega)).trans (if_neg (by omega))
  case timeout =>
    intro pll hp hs hl he hr
    exact told_live rfl hp ((if_neg (pll_locks hs hl he)).trans (if_neg (by rw [hr]; decide)))
  case again =>
    intro pll hp hs hl he hr
    exact told_live rfl hp ((if_neg (pll_locks hs hl he)).trans (if_pos hr))
  case loss =>
    intro pll hp hs hl
    exact told_live rfl hp (if_neg (by rw [hs, hl]; decide))
  case lostForGood =>
    intro pll hp hs hl h2 he
    exact ⟨told_live rfl hp (if_pos (Or.inr (Or.inr ⟨h2, he⟩))), told_live rfl hp (if_pos (Or.inr (Or.inr ⟨h2, he⟩))),
      told_live rfl hp (if_pos (Or.inr hl))⟩
  case refclk => exact fun hp => told_live rfl hp rfl
  case divider =>
    intro v hc hd hp hv hl
    refine completes_command rfl hc (need_ok (and_true_intro (decide_eq_true hd) hp) ?_)
    exact need_ok (decide_eq_true hv) (need_ok (decide_eq_true hl) rfl)
  case output =>
    intro v hc hd hp hv hl hk
    refine completes_command rfl hc (need_ok (and_true_intro (decide_eq_true hd) hp) ?_)
    refine need_ok (decide_eq_true hv) (need_ok (decide_eq_true hl) (need_ok (List.all_eq_true.2 fun k hmem => ?_) rfl))
    have hk5 : k < 5 := List.mem_range.1 hmem
    cases hb : bit v k
    · rfl
    · cases ho : bit (s.cfg (0x3808 + die) 13) k
      · obtain ⟨hw, hf⟩ := hk k hk5 hb ho
        rw [hw, hf]
        rfl
      · rfl
  case aux =>
    intro sub v hc hd hp hsub hn ho hb hv
    refine completes_command rfl hc (need_ok (and_true_intro (decide_eq_true hd) hp) (need_ok ?_ (need_ok ?_ (need_ok hv rfl))))
    · rcases hsub with rfl | rfl <;> rfl
    · exact and_true_intro (and_true_intro (decide_eq_true hn) (decide_eq_true ho)) (by rw [hb]; rfl)

/-! Frames of the ring. -/

section Frame

variable {s : State} {port : Nat} {h : Header}

theorem takesFrame_of (hp : port < 2) (hu : s.portUp port = true) (hh : h.hops < 1023) : s.takesFrame port h = true :=
  and_true_intro (and_true_intro (decide_eq_true hp) hu) (decide_eq_true hh)

theorem takesFrame_worn (hh : 1023 ≤ h.hops) : s.takesFrame port h = false := by
  rw [State.takesFrame, decide_eq_false (Nat.not_lt.2 hh), Bool.and_false]

/-- A fresh broadcast frame is passed on, then acts. -/
theorem onBroadcast_fresh {kind : OutKind} {payload : List Nat} {effect : State → State} (ht : s.takesFrame port h = true)
    (hf : s.freshFrame h = true) : s.onBroadcast kind port h payload effect = effect (s.relay kind port h payload) :=
  if_neg (by rw [ht, hf]; decide)

/-- A frame to this seat acts. -/
theorem onUnicast_here {kind : OutKind} {payload : List Nat} {effect : State → State} (ht : s.takesFrame port h = true)
    (hd : h.dest = s.seat) : s.onUnicast kind port h payload effect = effect s :=
  (if_neg (by rw [ht]; decide)).trans (if_pos hd)

theorem onBroadcast_dropped {kind : OutKind} {payload : List Nat} {effect : State → State} (ht : s.takesFrame port h = false) :
    s.onBroadcast kind port h payload effect = s := if_pos (Or.inl ht)

theorem onUnicast_dropped {kind : OutKind} {payload : List Nat} {effect : State → State} (ht : s.takesFrame port h = false) :
    s.onUnicast kind port h payload effect = s := if_pos ht

end Frame

/-- Settles O45: each frame and event of the ring meets its guard, and a frame of 1,023 hops is discarded. -/
theorem ringMembership : Obligations.RingMembership := by
  unfold Obligations.RingMembership
  refine fun s hp => ⟨?up, ?down, ?bad, ?roll, ?own, ?rollSend, ?worn, ?census, ?censusSend, ?silent⟩
  case up => exact fun port h2 he hu => completes_live rfl hp (if_neg (by simp [Nat.not_le.2 h2, he, hu]))
  case down =>
    intro port h2 hu he
    refine told_live rfl hp ((if_neg (by simp [Nat.not_le.2 h2, hu])).trans ?_)
    rw [he]
    rfl
  case bad => exact fun port h2 hu => completes_live rfl hp (if_neg (by simp [Nat.not_le.2 h2, hu]))
  case roll =>
    rintro port h r t h2 hu hsrc hh hf hpu rfl hkept
    refine told_live rfl hp ((if_neg (by rw [takesFrame_of h2 hu hh]; decide)).trans ((if_neg hsrc).trans ?_))
    refine (onBroadcast_fresh (takesFrame_of h2 hpu hh) hf).trans (congrArg State.formCensus (if_neg ?_))
    rintro ⟨hfell, hnew, -⟩
    rcases hkept with hkept | hkept
    · exact of_decide_eq_true hfell hkept
    · rw [hkept] at hnew
      exact absurd hnew (by decide)
  case own =>
    rintro port h r h2 hu hh hsrc hlast hd t rfl
    refine told_live rfl hp ((if_neg (by rw [takesFrame_of h2 hu hh]; decide)).trans ((if_pos hsrc).trans ?_))
    exact (if_neg fun h => hlast h.1).trans (if_neg (by rw [show (s.modPeer s.seat _).haling.duplicate = false from hd]; decide))
  case rollSend => exact fun hg => completes_live rfl hp (if_pos hg)
  case worn =>
    intro port h r seats d w seq x hh
    have hworn : s.takesFrame port h = false := takesFrame_worn hh
    refine ⟨told_live rfl hp (if_pos hworn), told_live rfl hp (onBroadcast_dropped hworn),
      told_live rfl hp (onBroadcast_dropped hworn), told_live rfl hp (onBroadcast_dropped hworn), ?_,
      told_live rfl hp (onBroadcast_dropped hworn)⟩
    refine told_live rfl hp ?_
    unfold execLate
    split
    · exact onBroadcast_dropped hworn
    · exact onUnicast_dropped hworn
  case census =>
    rintro port h seats d t h2 hu hh hf rfl hg hs hr
    refine told_live rfl hp ((onBroadcast_fresh (takesFrame_of h2 hu hh) hf).trans ?_)
    refine (if_neg (by rw [hg]; decide)).trans ((if_pos hs).trans (congrArg State.settleRoll (if_neg ?_)))
    rw [decide_eq_false hr]
    decide
  case censusSend => exact fun hg hh => completes_live rfl hp (if_pos ⟨hg, hh⟩)
  case silent =>
    rintro seat t hseat hheard rfl hc hr
    refine told_live rfl hp ((if_neg hseat).trans ((if_neg (by rw [hheard]; decide)).trans (congrArg State.formCensus ?_)))
    dsimp only
    rw [if_pos hc]
    exact if_neg fun h => hr.elim (· h.1) (· h.2)

/-- A part other than the homeroom, and not in a minority, follows the time of its upstream port (R366). -/
theorem follows_upstream {t : State} {port : Nat} (hh : t.isHomeroom = false) (hu : t.upstream = port) (hr : t.haling.roll ≠ .minority) :
    ¬ (t.isHomeroom ∨ t.upstream ≠ port ∨ t.haling.roll = .minority) := by
  rw [hh]
  exact fun h => h.elim Bool.false_ne_true fun h => h.elim (· hu) hr

/-- Settles O46: each frame of group time and of the web's alignment meets its guard. -/
theorem groupTimeFrames : Obligations.GroupTimeFrames := by
  unfold Obligations.GroupTimeFrames
  refine fun s hp => ⟨?sync, ?sendA, ?sendB, ?replyA, ?replyB, ?align, ?alignSend⟩
  case sync => exact fun port h time h2 => completes_live rfl hp (if_neg (Nat.not_le.2 h2))
  case sendA => exact fun hu => completes_live rfl hp (if_neg (by simp [hu]))
  case sendB => exact fun hu => completes_live rfl hp (if_neg (by simp [hu]))
  case replyA =>
    rintro h t1 t2 t3 time t err hu hs rfl hh hup hr rfl
    refine told_live rfl hp ((if_neg (by simp [hu])).trans ?_)
    rw [if_pos rfl]
    dsimp only
    rw [hs]
    exact if_neg (follows_upstream hh hup hr)
  case replyB =>
    rintro h t1 t2 t3 time t err hu hs rfl hh hup hr rfl
    refine told_live rfl hp ((if_neg (by simp [hu])).trans ?_)
    rw [if_neg (by decide)]
    dsimp only
    rw [hs]
    exact if_neg (follows_upstream hh hup hr)
  case align =>
    rintro port h w t h2 hu hh hf rfl hg hhome hsrc hr ha
    exact told_live rfl hp ((onBroadcast_fresh (takesFrame_of h2 hu hh) hf).trans (if_pos ⟨hg, hhome, hsrc, hr, ha⟩))
  case alignSend => exact fun hg hh ha => completes_live rfl hp (if_pos ⟨hg, hh, ha⟩)

end Sys2Proof.Proofs
end

section
/-! PROOF. Votes, commits, states, halts, stitch frames and the tunnel of a group (R63, R64, R183, R370 to R379). -/

namespace Sys2Proof.Proofs

open Sys2Proof Sys2Proof.Machine Sys2Proof.Laws

/-- What wakes the lead pair acts at once where it is awake. -/
theorem waking_awake {s : State} {f : State → State} (h : leadAwake s = true) : waking f s = f s := by
  rw [waking, awake_of_leadAwake h]

/-- A dictionary access through the tunnel, at a part that answers. -/
theorem tunnel_answers {s : State} (ha : s.answers = true) (hr : s.flash.recovery = false) :
    ¬ (s.answers = false ∨ s.flash.recovery) := by
  rw [ha, hr]
  decide

/-- Settles O47: each frame of the group meets its guard, and each access through the tunnel its own. -/
theorem groupFrames : Obligations.GroupFrames := by
  unfold Obligations.GroupFrames
  refine ⟨fun s hp => ⟨?vote, ?commit, ?late, ?shortfall, ?state, ?stateSend, ?halt, ?stitch, ?stitchOne, ?stitchNone⟩,
    fun s => ⟨?read, ?readFails, ?written, ?waits, ?response, ?bytes, ?send, ?unheard, ?timeout⟩⟩
  case vote =>
    rintro port h seq ready origin hg restart t h2 hu hh hd hgrp hhome rfl
    exact told_live rfl hp ((onUnicast_here (takesFrame_of h2 hu hh) hd).trans (if_pos ⟨hgrp, hhome⟩))
  case commit =>
    rintro port h seq i t h2 hu hh hf rfl hg hsrc hr hopen hs hearly hc
    refine told_live rfl hp ((onBroadcast_fresh (takesFrame_of h2 hu hh) hf).trans ((if_neg ?_).trans ?_))
    · rw [hg]
      exact fun h => h.elim (fun h => Bool.false_ne_true h.symm) fun h => h.elim (· hsrc) hr
    · rw [hopen]
      refine (if_pos ⟨hs, ?_⟩).trans (if_pos hc)
      rcases hearly with he | he | he <;> simp [he]
  case late =>
    intro port h seq h2 hu hh hb hd
    refine told_live rfl hp ((if_neg (by rw [hb]; decide)).trans ?_)
    exact onUnicast_here (takesFrame_of h2 hu hh) hd
  case shortfall =>
    rintro port h seq t h2 hu hh hb hf rfl hg hsrc
    exact told_live rfl hp ((if_pos hb).trans ((onBroadcast_fresh (takesFrame_of h2 hu hh) hf).trans (if_pos ⟨hg, hsrc⟩)))
  case state =>
    rintro port h x t u h2 hu hh hf rfl hg hhome hsrc hm hl hd rfl hnh hne
    refine told_live rfl hp ((onBroadcast_fresh (takesFrame_of h2 hu hh) hf).trans ((if_neg ?_).trans ?_))
    · rw [hg, hhome]
      exact fun h => h.elim (fun h => Bool.false_ne_true h.symm) fun h => h.elim Bool.false_ne_true fun h => h.elim (· hsrc) fun h =>
        h.elim hm hl
    · have hcalm := not_or.2 ⟨hnh, hne⟩
      dsimp only
      rw [if_neg hcalm, if_pos hd, if_neg hcalm]
  case stateSend =>
    intro hg hh ht
    exact completes_live rfl hp (if_pos ⟨hg, hh, decide_eq_false ht⟩)
  case halt =>
    intro port h wrest h2 hu hh hd hg hhome
    exact told_live rfl hp ((onUnicast_here (takesFrame_of h2 hu hh) hd).trans (if_pos ⟨hg, hhome⟩))
  case stitch =>
    rintro port h station side err locked t h2 hu hh hf rfl
    exact completes_live rfl hp (onBroadcast_fresh (takesFrame_of h2 hu hh) hf)
  case stitchOne =>
    intro j hg hj
    refine completes_live rfl hp ((if_pos hg).trans ?_)
    rw [hj]
    rfl
  case stitchNone =>
    intro hg hj
    refine completes_live rfl hp ((if_pos hg).trans ?_)
    rw [hj]
    rfl
  case read =>
    rintro port h index sub bytes t hp h2 hu hh hd hw ha hrec rfl hresp
    refine told_live rfl hp ((waking_awake hw).trans ((onUnicast_here (takesFrame_of h2 hu hh) hd).trans ?_))
    refine (if_neg (tunnel_answers ha hrec)).trans ?_
    exact congrArg ((s.readObject index sub).tunnelAnswer h.src) (if_pos hresp)
  case readFails =>
    rintro port h index sub bytes t a hp h2 hu hh hd hw ha hrec rfl hresp
    refine told_live rfl hp ((waking_awake hw).trans ((onUnicast_here (takesFrame_of h2 hu hh) hd).trans ?_))
    refine (if_neg (tunnel_answers ha hrec)).trans ?_
    exact congrArg ((s.readObject index sub).tunnelAnswer h.src) (if_neg (by rw [hresp]; exact Option.some_ne_none a))
  case written =>
    rintro port h index sub bytes t hp h2 hu hh hd hw ha hrec rfl hq
    refine told_live rfl hp ((waking_awake hw).trans ((onUnicast_here (takesFrame_of h2 hu hh) hd).trans ?_))
    exact (if_neg (tunnel_answers ha hrec)).trans (if_neg (by rw [hq]; decide))
  case waits =>
    rintro port h index sub bytes t hp h2 hu hh hd hw ha hrec rfl hq
    refine told_live rfl hp ((waking_awake hw).trans ((onUnicast_here (takesFrame_of h2 hu hh) hd).trans ?_))
    exact (if_neg (tunnel_answers ha hrec)).trans (if_pos hq)
  case response =>
    intro port h result bytes hp hw h2 hu hh hd hb hsrc hr
    refine completes_live rfl hp ((waking_awake hw).trans ((onUnicast_here (takesFrame_of h2 hu hh) hd).trans ?_))
    refine (if_pos ⟨hb, hsrc⟩).trans (if_neg fun h => ?_)
    exact hr.elim (fun hr => hr h.1) fun hr => Bool.false_ne_true (hr.symm.trans h.2)
  case bytes =>
    intro port h bytes hp hw h2 hu hh hd hb hsrc hr
    refine completes_live rfl hp ((waking_awake hw).trans ((onUnicast_here (takesFrame_of h2 hu hh) hd).trans ?_))
    exact (if_pos ⟨hb, hsrc⟩).trans (if_pos ⟨rfl, hr⟩)
  case send =>
    rintro t hc hb rfl hheard
    exact completes_command rfl hc (need_ok rfl (need_ok (by rw [hb]; rfl) (if_pos hheard)))
  case unheard =>
    rintro t hc hb rfl hheard
    exact completes_command rfl hc (need_ok rfl (need_ok (by rw [hb]; rfl) (if_neg (by rw [hheard]; decide))))
  case timeout => exact fun hp hb => completes_live rfl hp (if_pos hb)

end Sys2Proof.Proofs
end

section
/-! PROOF. The hazard net (R375 to R389), the maker fuses and the seal (R390 to R397). -/

namespace Sys2Proof.Proofs

open Sys2Proof Sys2Proof.Machine Sys2Proof.Laws

section Source

variable {s : State} {src cause k : Nat}

theorem pairOf_demanded : ((s.setLevel src (s.demandsHigh src)).sourceDemands src).pairOf src = s.pairOf src := by
  unfold State.setLevel
  split <;> rfl

theorem pairOf_gone : ((s.setLevel src (!s.demandsHigh src)).sourceGone src).pairOf src = s.pairOf src := by
  unfold State.setLevel
  split <;> rfl

/-- A demand of one source of a pair: its level, its presence and its pair, then the net. -/
theorem execHazardDemand_pair (h : src < 10) (hk : s.pairOf src = some k) :
    execHazardDemand src cause s =
      (((s.setLevel src (s.demandsHigh src)).sourceDemands src).pairDemand src k).hazardNet src 0 := by
  rw [execHazardDemand, if_neg (by omega), if_neg (by omega)]
  dsimp only
  rw [pairOf_demanded, hk]

theorem execHazardDemand_single (h : src < 10) (hk : s.pairOf src = none) :
    execHazardDemand src cause s = ((s.setLevel src (s.demandsHigh src)).sourceDemands src).hazardNet src 0 := by
  rw [execHazardDemand, if_neg (by omega), if_neg (by omega)]
  dsimp only
  rw [pairOf_demanded, hk]

theorem source_clears (h : src < 10) (hp : bit s.hazard.present src = true) : ¬ (10 ≤ src ∨ bit s.hazard.present src = false) := by
  rw [hp]
  exact fun h' => h'.elim (absurd h ∘ Nat.not_lt.2) fun h' => Bool.false_ne_true h'.symm

theorem execHazardSourceClear_pair (h : src < 10) (hp : bit s.hazard.present src = true) (hk : s.pairOf src = some k) :
    execHazardSourceClear src s = ((s.setLevel src (!s.demandsHigh src)).sourceGone src).pairClear src k := by
  rw [execHazardSourceClear, if_neg (source_clears h hp)]
  dsimp only
  rw [pairOf_gone, hk]

theorem execHazardSourceClear_single (h : src < 10) (hp : bit s.hazard.present src = true) (hk : s.pairOf src = none) :
    execHazardSourceClear src s = (s.setLevel src (!s.demandsHigh src)).sourceGone src := by
  rw [execHazardSourceClear, if_neg (source_clears h hp)]
  dsimp only
  rw [pairOf_gone, hk]

end Source

/-- The automatic release of a source outside any pair: it leaves the sources, and where it was the last the net is released. -/
theorem execAutomaticRelease_single {s : State} {src u : Nat} (h : src < 10) (hu : mapGet 0 s.hazard.clearSince src = u) (h0 : u ≠ 0)
    (hpair : s.pairOf src = none) (ha : bit (s.cfg 0x4000 6) src = true) (hpres : bit s.hazard.present src = false)
    (hsrc : bit s.hazard.sources src = true) {t : State} (ht : t = s.advanceTo (u - 1 + s.cfg 0x4000 9 * ticksPerMs)) :
    execAutomaticRelease src s =
      if setBit s.hazard.sources src false = 0 ∧ s.hazard.active ∧ s.anyBlocked = false ∧ s.faults.fatal = false then
        State.releaseNet { t with hazard := { t.hazard with sources := setBit s.hazard.sources src false } }
      else { t with hazard := { t.hazard with sources := setBit s.hazard.sources src false } } := by
  subst hu ht
  rw [execAutomaticRelease, hpair]
  exact if_neg (by simp [h, h0, ha, hpres, hsrc])

/-! What a minority stops, in turn (R379): its lasers, its drives and zones, and its axes. -/

def minorityDark (s : State) : State := (upTo 32).foldl State.settleLaser (s.toRoll .minority)

def drivesQuiet (s : State) : State := ((s.hv.map (·.1)).foldl State.hvOff s).zonesToSetback

def axesHalted (s : State) : State :=
  (s.axes.map (·.1)).foldl (fun s a =>
    if s.webAxis = some a ∨ ((s.axis a).state ≠ .moving ∧ (s.axis a).state ≠ .geared ∧ (s.axis a).state ≠ .tension) then s
    else s.beginAxisHalt a 0) s

theorem execMinorityStop_runs {s : State} (hg : s.inGroup = true) (hc : (s.haling.census.any fun x => !s.half.contains x) = true)
    (hq : s.quorum = false) (hr : s.haling.roll ≠ .minority) (hs : s.slotsWhere SlotState.isCommitted = []) (hw : s.webQuiet = true) :
    execMinorityStop s =
      (if ((axesHalted (drivesQuiet (minorityDark s))).stopTimetable 4).tt.state = .idle then
        ((axesHalted (drivesQuiet (minorityDark s))).stopTimetable 4).clearHalt.enterTT .stopped
      else (axesHalted (drivesQuiet (minorityDark s))).stopTimetable 4).raise 0x29 0 0 6 :=
  if_pos ⟨hg, hc, hq, hr, hs, hw⟩

/-- Settles O48: each input, release and frame of the hazard net meets its guard. -/
theorem hazardCommands : Obligations.HazardCommands := by
  unfold Obligations.HazardCommands
  refine ⟨fun s => ⟨?pairDemand, ?demand, ?internal, ?gone, ?pairGone, ?auto, ?autoLast, ?discrepancy, ?release, ?quiet⟩,
    fun s hp => ⟨?heard, ?again, ?others, ?none, ?minority⟩⟩
  case pairDemand => exact fun src k hp h8 hk => told_input rfl hp (execHazardDemand_pair (by omega) hk)
  case demand => exact fun src hp h10 hk => told_input rfl hp (execHazardDemand_single h10 hk)
  case internal => exact fun cause hp => told_input rfl hp rfl
  case gone => exact fun src hp h10 hpres hk => told_input rfl hp (execHazardSourceClear_single h10 hpres hk)
  case pairGone => exact fun src k hp h10 hpres hk => told_input rfl hp (execHazardSourceClear_pair h10 hpres hk)
  case auto =>
    intro src u t hp h10 hu h0 hk ha hpres hsrc ht hrest
    exact told_live rfl hp ((execAutomaticRelease_single h10 hu h0 hk ha hpres hsrc ht).trans (if_neg fun h => hrest h.1))
  case autoLast =>
    intro src u t hp h10 hu h0 hk ha hpres hsrc ht hrest hact hb hf
    exact told_live rfl hp ((execAutomaticRelease_single h10 hu h0 hk ha hpres hsrc ht).trans (if_pos ⟨hrest, hact, hb, hf⟩))
  case discrepancy =>
    rintro pair u t hp h4 hd hc hb rfl
    refine told_live rfl hp ?_
    rw [execDiscrepancyTimeout, hd]
    exact if_neg (by simp [h4, hc, hb])
  case release =>
    intro hc hq hf hb ha
    exact told_command rfl hc (need_ok rfl (need_ok (by rw [hq, hf, hb]; rfl) (congrArg Except.ok (if_pos ha))))
  case quiet =>
    intro hc hq hf hb ha
    refine told_command rfl hc (need_ok rfl (need_ok (by rw [hq, hf, hb]; rfl) (congrArg Except.ok (if_neg ?_))))
    rw [ha]
    decide
  case heard =>
    rintro port origin hops t h2 hu ho rfl
    exact told_live rfl hp (if_neg (by simp [h2, hu, ho]))
  case again => exact fun ha hr => completes_live rfl hp (if_pos ⟨ha, hr⟩)
  case others =>
    rintro origin t left rfl h0 rfl hleft u rfl
    exact completes_live rfl hp ((if_neg h0).trans (if_neg hleft))
  case none =>
    rintro origin t rfl h0 hleft u rfl
    refine completes_live rfl hp ((if_neg h0).trans ((if_pos hleft).trans ?_))
    rw [← hleft]
    rfl
  case minority =>
    intro t u v hg hc hq hr hs hw ht hu hv hstate
    refine told_live rfl hp ((execMinorityStop_runs hg hc hq hr hs hw).trans ?_)
    rw [← show t = minorityDark s from ht, ← show u = drivesQuiet t from hu, ← show v = axesHalted u from hv, if_neg hstate]

/-- A command of the dictionary that keeps its own result, too. -/
theorem execFuseProgram_ok {s t : State} {key : Nat} (hc : commanded s 0x4018 = true) (h : opFuseProgram key s = .ok t) :
    execFuseProgram key s = t.accept 0x4018 := by
  rw [execFuseProgram, command_ok hc h]
  rfl

theorem completes_served {c : Instr} {index : Nat} {s t : State} {f : State → State} (h : exec c s = live s (serve index f))
    (hc : commanded s index = true) (hf : f s = t) : Completes c s t := by
  simp only [commanded, Bool.and_eq_true] at hc
  obtain ⟨⟨⟨⟨hp, hb⟩, hs⟩, -⟩, hw⟩ := hc
  exact completes_serve h hp hw hb hs hf

/-- Settles O49: a fuse is programmed and read back twice, and the seal is set, past the checks of R390 to R397. -/
theorem fusesAndSeal : Obligations.FusesAndSeal := by
  unfold Obligations.FusesAndSeal
  refine fun s => ⟨?program, ?good, ?bad, ?sealing⟩
  case program =>
    intro die top hc hfield hp hv hs hn hh hl hb
    refine completes_served rfl hc (execFuseProgram_ok hc (need_ok rfl ?_))
    rw [hfield]
    refine need_ok hp (need_ok (decide_eq_true hv) (need_ok (by rw [hs]; rfl) (need_ok ?_ rfl)))
    rw [decide_eq_true hn, hh, hl, hb]
    rfl
  case good =>
    intro k v hp hb
    refine completes_live rfl hp ?_
    rw [execFuseProgramDone, hb]
    simp only [decide_true, Bool.and_self, Bool.not_true, if_true]
  case bad =>
    intro k v a b hp hb hab
    have hbad : (decide (a = v) && decide (b = v)) = false := by
      rcases hab with h | h <;> simp [h]
    refine completes_live rfl hp ?_
    rw [execFuseProgramDone, hb]
    simp only [hbad, Bool.not_false, Bool.false_eq_true, if_false]
  case sealing =>
    intro hc hn hs
    exact completes_command rfl hc (need_ok (and_true_intro rfl (decide_eq_true hn)) (need_ok (by rw [hs]; rfl) rfl))

end Sys2Proof.Proofs
end

section
/-! PROOF. The fault collector, injection and the net's nodes (R380 to R410), the sequencer (R417 to R425), and rails, heat and recess
(R422 to R436). -/

namespace Sys2Proof.Proofs

open Sys2Proof Sys2Proof.Machine Sys2Proof.Laws

/-- Settles O50: each fault event meets its guard, and each command of the collector and of injection its checks. -/
theorem faultCommands : Obligations.FaultCommands := by
  unfold Obligations.FaultCommands
  refine ⟨fun s => ⟨?collect, ?pulse, ?latch, ?low, ?driven, ?log, ?lockstep, ?watchdog, ?lead⟩,
    fun s => ⟨?arm, ?absent, ?cancel, ?nothing, ?gate, ?leadGate, ?node⟩⟩
  case collect => exact fun codes hp => told_live rfl hp rfl
  case pulse =>
    rintro t hp ht u rfl
    refine completes_live rfl hp ?_
    rw [execFaultPulseEnd, ht]
    rfl
  case latch => exact fun hc hf => completes_command rfl hc (need_ok rfl (need_ok (by rw [hf]; rfl) rfl))
  case low =>
    intro hp hd
    refine completes_live rfl hp ?_
    rw [execFaultnExternalLow, hd, Bool.not_false, Bool.or_true]
  case driven =>
    intro hp hd
    refine completes_live rfl hp ?_
    rw [execFaultnExternalLow, hd, Bool.not_true, Bool.or_false]
  case log => exact fun hc => completes_command rfl hc (need_ok rfl rfl)
  case lockstep =>
    intro die cause hp hd hlt hk
    refine told_live rfl hp ?_
    simp [execLockstepMismatch, hlt, Nat.mod_eq_of_lt hlt, hd, hk]
  case watchdog => exact fun die hp hd hr => told_live rfl hp (if_neg (by simp [hd, hr]))
  case lead => exact fun hp hm => completes_live rfl hp (if_neg (by rw [hm]; decide))
  case arm =>
    intro hc hi ht hs hn
    refine completes_command rfl hc (need_ok hi (need_ok ht (need_ok (and_true_intro (decide_eq_true hs) ?_) rfl)))
    rcases hn with hn | hn
    · rw [decide_eq_true hn]
      rfl
    · rw [show s.ttIdle = true from decide_eq_true hn, Bool.or_true]
  case absent => exact fun hc hi ht => completes_refused rfl hc (need_ok hi (need_error ht))
  case cancel => exact fun hc hs => completes_command rfl hc (congrArg Except.ok (if_pos hs))
  case nothing => exact fun hc hs => completes_command rfl hc (congrArg Except.ok (if_neg hs))
  case gate =>
    intro n hp hn hcode
    refine told_live rfl hp ((if_pos ⟨by omega, hcode⟩).trans ?_)
    rw [if_pos hn]
  case leadGate =>
    intro n hp hlo hn hcode
    refine told_live rfl hp ((if_pos ⟨hn, hcode⟩).trans ?_)
    rw [if_neg (Nat.not_lt.2 hlo)]
  case node => exact fun die hp hd => told_live rfl hp (if_pos hd)

/-- Settles O51: each event of the sequencer meets its guard; the standby domain takes it in any power state. -/
theorem sequencerEvents : Obligations.SequencerEvents := by
  unfold Obligations.SequencerEvents
  refine fun s => ⟨?boot, ?applied, ?loss, ?delay, ?step, ?done, ?timeout, ?down, ?discharge, ?cool, ?edge, ?alarm⟩
  case boot =>
    rintro hv t rfl h3
    exact completes_always rfl ((if_neg (by rw [hv]; decide)).trans (if_pos h3))
  case applied =>
    rintro hv t rfl h3
    exact completes_always rfl ((if_neg (by rw [hv]; decide)).trans (if_neg h3))
  case loss =>
    rintro t rfl
    exact completes_always rfl rfl
  case delay =>
    rintro r t hs hr rfl
    exact completes_always rfl (if_pos ⟨hs, hr⟩)
  case step =>
    rintro readings t j hs hr rfl hj
    refine completes_always rfl ((if_pos ⟨hs, hr⟩).trans ?_)
    dsimp only
    rw [hj]
  case done =>
    rintro readings t hs hr rfl hj u rfl
    refine completes_always rfl ((if_pos ⟨hs, hr⟩).trans ?_)
    dsimp only
    rw [hj]
  case timeout =>
    rintro r readings t hs hr hw rfl u rfl
    exact completes_always rfl (if_pos ⟨hs, hr, hw⟩)
  case down => exact fun readings hs hr => completes_always rfl (if_pos ⟨hs, hr⟩)
  case discharge =>
    rintro r readings t hs hr hd rfl u rfl
    exact completes_always rfl (if_pos ⟨hs, hr, hd⟩)
  case cool =>
    rintro t rfl
    exact completes_always rfl rfl
  case edge => exact fun falling h0 h1 => completes_always rfl (if_pos ⟨h0, h1⟩)
  case alarm => exact fun h2 => completes_always rfl (if_pos h2)

/-- A rail that leaves its window while the part is on: the branch of its role (R422). -/
theorem told_railDeparture {s : State} {r : Nat} {readings : List Nat} {t : State} (hp : s.powered = true)
    (h : execRailDeparture r readings s = t) : CompletesTold (.railDeparture r readings) s t := by
  have hrow : exec (.railDeparture r readings) s = always s fun s =>
      if s.powered then (execRailDeparture r readings s).settleGroup
      else if s.straps.porLow then execRailDeparture r readings s else s := rfl
  exact completes_always hrow ((if_pos hp).trans (congrArg State.settleGroup h))

theorem rail_departs {s : State} {r : Nat} {readings : List Nat} {role : Nat} (hs : s.power.seq = .on) (hr : r < 8)
    (hrole : s.railRole r = role) (h0 : role ≠ 0) (hw : (s.setReadings readings).inWindow r = false) :
    ¬ (s.power.seq ≠ .on ∨ 8 ≤ r ∨ s.railRole r = 0 ∨ (s.setReadings readings).inWindow r) := by
  simp [hs, hr, hrole, h0, hw]

/-- A round without a bad sensor or node changes nothing in that part of it. -/
theorem foldl_noBits (f : State → Nat → State) (p : State → Nat → Bool) (l : List Nat) (s : State) :
    l.foldl (fun s k => if bit 0 k && p s k then f s k else s) s = s := by
  induction l with
  | nil => rfl
  | cons k l ih =>
    have hbit : bit 0 k = false := by simp [bit]
    rw [List.foldl_cons, hbit, Bool.false_and, if_neg Bool.false_ne_true, ih]

/-- Settles O52: each event of rails and heat meets its guard, and STANDBY the checks of R435. -/
theorem powerAndThermalCommands : Obligations.PowerAndThermalCommands := by
  unfold Obligations.PowerAndThermalCommands
  refine fun s => ⟨?core, ?rails, ?heat, ?grace, ?round, ?speed, ?enter, ?enterAll, ?leave, ?leaveAll, ?standby⟩
  case core =>
    rintro r readings t hp hs hr hrole rfl hw
    refine told_railDeparture hp ((if_neg (rail_departs hs hr hrole (by decide) hw)).trans ?_)
    rw [hrole]
    rfl
  case rails =>
    rintro r readings t hp hs hr rfl hw
    refine ⟨fun h => ?_, fun h => ?_, fun h => ?_, fun h => ?_, fun h => ?_⟩ <;>
      refine told_railDeparture hp ((if_neg (rail_departs hs hr h (by decide) hw)).trans ?_) <;> rw [h] <;> rfl
  case heat =>
    intro die p b hp hd hb
    exact told_live rfl hp (if_neg (by simp [hd, hb]))
  case grace => exact fun hp hg => told_live rfl hp (if_pos hg)
  case round =>
    rintro diodes readings clockBad t hp rfl u v rfl rfl
    refine told_live rfl hp ?_
    rw [execHousekeepingRound]
    dsimp only
    rw [foldl_noBits, foldl_noBits]
  case speed =>
    intro die t hp hh hd
    refine told_live rfl hp ?_
    rw [execSpeedRequestTimer, hh]
    exact if_neg (by rw [hd]; decide)
  case enter =>
    rintro die t hp hd hr rfl hall
    refine completes_live rfl hp ((if_neg (by simp [hd, hr])).trans (if_neg ?_))
    exact fun h => Bool.false_ne_true (hall.symm.trans h.1)
  case enterAll =>
    rintro die t u hp hd hr rfl hall hpause rfl
    exact completes_live rfl hp ((if_neg (by simp [hd, hr])).trans (if_pos ⟨hall, hpause⟩))
  case leave =>
    rintro die t hp hr rfl hpause
    have hin : ¬ (mapGet {} s.thermal die).recess = false := fun h => Bool.false_ne_true (h.symm.trans hr)
    exact completes_live rfl hp ((if_neg hin).trans (if_neg fun h => Bool.false_ne_true (hpause.symm.trans h)))
  case leaveAll =>
    rintro die t hp hr rfl hpause
    have hin : ¬ (mapGet {} s.thermal die).recess = false := fun h => Bool.false_ne_true (h.symm.trans hr)
    exact completes_live rfl hp ((if_neg hin).trans (if_pos hpause))
  case standby =>
    rintro t u hc htt hq hs hf rfl rfl hfatal
    have hstate : ((decide (s.tt.state = .idle) || decide (s.tt.state = .stopped)) && decide (s.flash.queue = []) &&
        decide (s.power.seq = .on)) = true := by simp [htt, hq, hs]
    refine completes_command rfl hc (need_ok rfl (need_ok hstate ?_))
    dsimp only at hfatal ⊢
    simp only [hfatal, Bool.false_eq_true, if_false]

end Sys2Proof.Proofs
end

section
/-! PROOF. The ways into the dictionary (R441 to R443, R456), NMT requests (R447 to R449), and CAN errors and heartbeats (R450, R462). -/

namespace Sys2Proof.Proofs

open Sys2Proof Sys2Proof.Machine Sys2Proof.Laws

theorem usdo_served {s : State} {ctrl : Nat} (h : s.usdoServed ctrl = true) : ¬ s.usdoServed ctrl = false := by
  rw [h]
  decide

/-- A mirror that is not busy takes the interrupt of the request and starts it. -/
theorem mirrorAccess_free {s : State} {n request vector : Nat} {irq : Bool} (hn : n < 2048) (hb : (s.mirror n).busy = false) :
    s.mirrorAccess n request irq vector =
      (s.modMirror n fun m => { m with vectorOn := irq, vector := vector % 2048 }).mirrorStart n request :=
  (if_neg (Nat.not_le.2 hn)).trans (if_neg (by rw [hb]; decide))

theorem barSizeOk_of {offset size : Nat} (hs : size = 4 ∨ size = 8) (ha : offset % size = 0) : barSizeOk offset size = true := by
  refine and_true_intro ?_ (decide_eq_true ha)
  rcases hs with rfl | rfl <;> rfl

/-- Settles O53: each access meets the guard of its way in. -/
theorem dictionaryPaths : Obligations.DictionaryPaths := by
  unfold Obligations.DictionaryPaths
  refine fun s hp =>
    ⟨?read, ?write, ?begins, ?segment, ?last, ?timeout, ?mirrorRead, ?mirrorWrite, ?object, ?bar0, ?bar2, ?badSize, ?config⟩
  case read => exact fun ctrl index sub hw hs => told_live rfl hp ((waking_awake hw).trans (if_neg (usdo_served hs)))
  case write => exact fun ctrl index sub bs hw hs => told_live rfl hp ((waking_awake hw).trans (if_neg (usdo_served hs)))
  case begins => exact fun ctrl index sub bs hw hs => told_live rfl hp ((waking_awake hw).trans (if_neg (usdo_served hs)))
  case segment =>
    intro ctrl bytes u hw hs hu
    refine told_live rfl hp ((waking_awake hw).trans ((if_neg (usdo_served hs)).trans ?_))
    rw [hu]
    rfl
  case last =>
    intro ctrl bytes u hw hs hu
    refine told_live rfl hp ((waking_awake hw).trans ((if_neg (usdo_served hs)).trans ?_))
    rw [hu]
    rfl
  case timeout =>
    rintro c u t hu rfl
    refine completes_live rfl hp ?_
    rw [execUsdoTimeout, hu]
    rfl
  case mirrorRead =>
    exact fun n index sub irq vector tag hn hw hb => told_live rfl hp ((waking_awake hw).trans (mirrorAccess_free hn hb))
  case mirrorWrite =>
    exact fun n index sub len irq vector tag hn hw hb => told_live rfl hp ((waking_awake hw).trans (mirrorAccess_free hn hb))
  case object =>
    intro index sub v hw hb
    refine told_live rfl hp ((if_pos hb).trans ?_)
    rw [awake_of_leadAwake hw]
  case bar0 =>
    exact fun offset size v hs ha ho =>
      told_live rfl hp ((if_neg (Nat.not_le.2 ho)).trans (if_pos (barSizeOk_of hs ha)))
  case bar2 =>
    exact fun offset size v hs ha ho =>
      told_live rfl hp ((if_neg (Nat.not_le.2 ho)).trans (if_pos (barSizeOk_of hs ha)))
  case badSize =>
    intro offset size v hs ho
    have hbad : ¬ barSizeOk offset size = true := by
      rw [hs]
      decide
    exact ⟨told_live rfl hp ((if_neg (Nat.not_le.2 ho)).trans (if_neg hbad)),
      told_live rfl hp ((if_neg (by omega)).trans (if_neg hbad))⟩
  case config => exact fun v => ⟨told_live rfl hp rfl, told_live rfl hp rfl, told_live rfl hp rfl, told_live rfl hp rfl⟩

/-! NMT. -/

section Nmt

variable {s : State} {x : NmtPending}

/-- A transition asked for while no job runs is made at once (R448). -/
theorem askNmt_now (hb : s.nmt.booted = true) (ht : s.tt.state = .idle ∨ s.tt.state = .stopped) : s.askNmt x = s.makeNmt x := by
  simp [State.askNmt, State.jobOver, hb, ht]

/-- One asked for during a job waits for the job's end (R448). -/
theorem askNmt_later (hb : s.nmt.booted = true) (hi : s.tt.state ≠ .idle) (hs : s.tt.state ≠ .stopped) :
    s.askNmt x = State.concludeJob { s with nmt := { s.nmt with pending := x } } := by
  simp [State.askNmt, State.jobOver, hb, hi, hs]

end Nmt

/-- Settles O54: START's refusals and transition, and each other request by the state of the timetable. -/
theorem nmtCommands : Obligations.NmtCommands := by
  unfold Obligations.NmtCommands
  refine fun s hp hb hw => ⟨?unsealed, ?fatal, ?start, ?stop, ?stopLater, ?preOp, ?preOpLater, ?reset, ?resetLater, ?communication,
    ?deferred, ?pin⟩
  case unsealed => exact fun hs => told_live rfl hp ((waking_awake hw).trans (execNmtStart_unsealed hb hs))
  case fatal => exact fun hs hf => told_live rfl hp ((waking_awake hw).trans (execNmtStart_fatal hb hs hf))
  case start =>
    intro hs hf hn
    refine told_live rfl hp ((waking_awake hw).trans ((if_neg (by rw [hb]; decide)).trans ?_))
    exact (if_neg (by rw [hs]; decide)).trans ((if_neg (by rw [hf]; decide)).trans (if_neg hn))
  case stop =>
    intro ht hn
    exact told_live rfl hp ((waking_awake hw).trans ((askNmt_now hb ht).trans (if_neg hn)))
  case stopLater => exact fun hi hs => told_live rfl hp ((waking_awake hw).trans (askNmt_later hb hi hs))
  case preOp =>
    intro ht hn
    exact told_live rfl hp ((waking_awake hw).trans ((askNmt_now hb ht).trans (if_neg hn)))
  case preOpLater => exact fun hi hs => told_live rfl hp ((waking_awake hw).trans (askNmt_later hb hi hs))
  case reset => exact fun ht => told_live rfl hp ((waking_awake hw).trans (askNmt_now hb ht))
  case resetLater => exact fun hi hs => told_live rfl hp ((waking_awake hw).trans (askNmt_later hb hi hs))
  case communication => exact told_live rfl hp ((waking_awake hw).trans (if_neg (by rw [hb]; decide)))
  case deferred => exact fun hn ht => told_live rfl hp (if_pos ⟨hn, ht⟩)
  case pin => exact fun hl ht => completes_live rfl hp ((if_neg (by rw [hl]; decide)).trans (askNmt_now hb ht))

/-- Settles O55: each event of a controller and of the heartbeats meets its guard. -/
theorem canEvents : Obligations.CanEvents := by
  unfold Obligations.CanEvents
  refine fun s hp => ⟨?off, ?offZero, ?passive, ?silent, ?send, ?heard, ?back⟩
  case off =>
    intro ctrl hr hs h0
    exact told_live rfl hp ((if_neg (by simp [hr, hs])).trans (if_neg h0))
  case offZero =>
    intro hr hs
    exact told_live rfl hp ((if_neg (by simp [hr, hs])).trans (if_pos rfl))
  case passive => exact fun ctrl hr hs => completes_live rfl hp (if_neg (by simp [hr, hs]))
  case silent =>
    rintro k x t u rfl ht hb h1 h8 hc hx rfl
    refine told_live rfl hp ?_
    rw [execHeartbeatTimeout]
    dsimp only
    rw [ht]
    exact if_neg (by simp [hb, hc, hx]; omega)
  case send =>
    rintro t rfl hb hc
    exact completes_live rfl hp (if_neg fun h => h.elim (fun h => Bool.false_ne_true (h.symm.trans hb)) hc)
  case heard =>
    intro node hw hb hc
    refine completes_live rfl hp ((waking_awake hw).trans (if_neg ?_))
    exact fun h => h.elim (fun h => Bool.false_ne_true (h.symm.trans hb)) hc
  case back => exact fun ctrl hr hs => completes_live rfl hp (if_neg (by simp [hr, hs]))

end Sys2Proof.Proofs
end

section
/-! PROOF. PDOs, SYNC, TIME, the error list and the trace (R458 to R470), and the commands of the flash manager (R474 to R491). -/

namespace Sys2Proof.Proofs

open Sys2Proof Sys2Proof.Machine Sys2Proof.Laws

section Pdo

variable {s : State} {k : Nat} {bytes : List Nat} {l : List (Nat × List Nat)}

theorem rpdo_splits (h : splitPdo (s.mapping (0x1600 + k)) bytes = some l) : ¬ splitPdo (s.mapping (0x1600 + k)) bytes = none := by
  rw [h]
  exact Option.some_ne_none l

theorem tpdo_sends (ho : s.tpdoOn k = true) (h : 254 ≤ s.cfg (0x1800 + k) 2) :
    ¬ (s.tpdoOn k = false ∨ s.cfg (0x1800 + k) 2 < 254) := by
  rw [ho]
  exact fun h' => h'.elim (fun h' => Bool.false_ne_true h'.symm) (Nat.not_lt.2 h)

end Pdo

/-- Settles O56: each message and timer meets its guard, and each command its checks. -/
theorem pdoAndTraceCommands : Obligations.PdoAndTraceCommands := by
  unfold Obligations.PdoAndTraceCommands
  refine fun s => ⟨?waits, ?applies, ?changed, ?timer, ?sync, ?syncRuns, ?time, ?errors, ?read, ?off, ?on⟩
  case waits =>
    intro k bytes l hp hw hr hs h240
    refine told_live rfl hp ((waking_awake hw).trans ((if_neg (by rw [hr]; decide)).trans ?_))
    exact (if_neg (rpdo_splits hs)).trans (if_pos h240)
  case applies =>
    intro k bytes l hp hw hr hs h240
    refine told_live rfl hp ((waking_awake hw).trans ((if_neg (by rw [hr]; decide)).trans ?_))
    exact (if_neg (rpdo_splits hs)).trans (if_neg (Nat.not_le.2 h240))
  case changed =>
    intro k t hp ho h254 hv hl
    refine completes_live rfl hp ((if_neg (tpdo_sends ho h254)).trans ((if_pos hv).trans ?_))
    rw [hl]
  case timer =>
    intro k t hp ho h254 hv hl ht
    refine completes_live rfl hp ((if_neg (tpdo_sends ho h254)).trans ((if_neg (not_not_intro hv)).trans ?_))
    rw [hl]
    exact if_neg ht
  case sync =>
    intro counter hp hw hc hn
    exact told_live rfl hp ((waking_awake hw).trans ((if_neg (by rw [hc]; decide)).trans (if_neg hn)))
  case syncRuns =>
    intro counter t hp hw hc hn ht
    refine told_live rfl hp ((waking_awake hw).trans ((if_neg (by rw [hc]; decide)).trans ((if_pos hn).trans ?_)))
    dsimp only
    rw [← ht]
  case time =>
    rintro value t u hp hw hc hb rfl
    exact completes_live rfl hp ((waking_awake hw).trans (if_neg (by rw [hc, hb]; decide)))
  case errors => exact fun hc => completes_command rfl hc (need_ok rfl rfl)
  case read => exact fun hp hb hw hs => completes_serve rfl hp hw hb hs rfl
  case off => exact fun hc => completes_command rfl hc (need_ok rfl rfl)
  case on => exact fun hc => completes_command rfl hc (need_ok rfl rfl)

/-! The flash manager. -/

section Queue

variable {s : State} {op : State → FlashOp}

/-- Every operation but a host read joins the queue at its end (R474). -/
theorem opFlash_queued (ht : s.flashTakes = true) (hr : (op s).isRead = false) :
    opFlash op s = .ok { s with flash := { s.flash with queue := s.flash.queue ++ [{ op := op s, asker := s.flash.asker }] } } := by
  refine need_ok ht (congrArg Except.ok (if_neg ?_))
  rw [hr]
  exact fun h => Bool.false_ne_true h.1

/-- So does a host read while no erase is in flight. -/
theorem opFlash_read (ht : s.flashTakes = true) (he : s.flash.erasing = false) :
    opFlash op s = .ok { s with flash := { s.flash with queue := s.flash.queue ++ [{ op := op s, asker := s.flash.asker }] } } := by
  refine need_ok ht (congrArg Except.ok (if_neg ?_))
  rw [he]
  exact fun h => Bool.false_ne_true h.2

/-- A host read during an erase suspends it and goes before it (R474). -/
theorem opFlash_suspends (ht : s.flashTakes = true) (hr : (op s).isRead = true) (he : s.flash.erasing = true) :
    opFlash op s = .ok { s with flash := { s.flash with
      queue := s.flash.leadingReads ++ { op := op s, asker := s.flash.asker } :: s.flash.afterReads, suspended := true } } :=
  need_ok ht (congrArg Except.ok (if_pos ⟨hr, he⟩))

end Queue

/-- PIECE of whole length and of a number below 2,048, past its first two checks. -/
theorem opPiece_checked {s : State} {bytes : List Nat} (hl : bytes.length = 4100) (hn : bytesNum (bytes.take 4) < 2048) {why : Option Abort}
    (hw : (if s.flash.queue = [] then s.flash.pieceRefused (bytesNum (bytes.take 4)) (bytes.drop 4) else none) = why) :
    opPiece bytes s = why.elim
      (if s.flash.queue = [] ∧ s.flash.received (bytesNum (bytes.take 4)) then .ok s
        else opFlash (fun _ => .piece (bytesNum (bytes.take 4)) (bytes.drop 4)) s) Except.error := by
  refine need_ok (decide_eq_true hl) (need_ok (decide_eq_true hn) ?_)
  rw [hw]
  cases why <;> rfl

/-- Settles O57: each command that passes its checks joins the queue, and the others are refused. -/
theorem flashCommands : Obligations.FlashCommands := by
  unfold Obligations.FlashCommands
  refine fun s ht => ⟨?read, ?suspend, ?program, ?erase, ?store, ?restore, ?begins, ?cancel, ?verify, ?incomplete, ?piece, ?held, ?bad,
    ?confirm, ?notReached, ?revert, ?noTrial⟩
  case read => exact fun hc he => completes_command rfl hc (opFlash_read ht he)
  case suspend => exact fun hc he => completes_command rfl hc (opFlash_suspends ht rfl he)
  case program => exact fun hc => completes_command rfl hc (opFlash_queued ht rfl)
  case erase => exact fun hc => completes_command rfl hc (opFlash_queued ht rfl)
  case store =>
    intro index hc hr hi
    have hlisted : (decide (index = 0xFFFF) || indexListed index) = true := by
      rcases hi with h | ⟨h, -⟩
      · rw [decide_eq_true h, Bool.true_or]
      · rw [h, Bool.or_true]
    have hpresent : (decide (index = 0xFFFF) || s.objPresent index 0 true) = true := by
      rcases hi with h | ⟨-, h⟩
      · rw [decide_eq_true h, Bool.true_or]
      · rw [h, Bool.or_true]
    exact completes_command rfl hc (need_ok (by rw [hr]; rfl) (need_ok hlisted (need_ok hpresent (opFlash_queued ht rfl))))
  case restore => exact fun hc => completes_command rfl hc (need_ok rfl (opFlash_queued ht rfl))
  case begins => exact fun hc hs => completes_command rfl hc (need_ok (decide_eq_true hs) (opFlash_queued ht rfl))
  case cancel => exact fun hc => completes_command rfl hc (opFlash_queued ht rfl)
  case verify =>
    intro hc hq
    refine completes_command rfl hc (need_ok ?_ (opFlash_queued ht rfl))
    rcases hq with h | h
    · rw [decide_eq_true h, Bool.true_or]
    · rw [h, Bool.or_true]
  case incomplete =>
    intro hc hq hf
    exact completes_refused rfl hc (need_error (by rw [hq, hf]; rfl))
  case piece =>
    rintro bytes n hc hl rfl hn hq
    have hwhy : (if s.flash.queue = [] then s.flash.pieceRefused (bytesNum (bytes.take 4)) (bytes.drop 4) else none) = none := by
      rcases hq with h | ⟨h, -⟩
      · exact if_neg h
      · rw [h, ite_self]
    refine completes_command rfl hc ((opPiece_checked hl hn hwhy).trans ((if_neg fun h => ?_).trans (opFlash_queued ht rfl)))
    exact hq.elim (· h.1) fun hq => Bool.false_ne_true (hq.2.symm.trans h.2)
  case held =>
    rintro bytes n hc hl rfl hn hq hr hh
    exact completes_command rfl hc ((opPiece_checked hl hn ((if_pos hq).trans hr)).trans (if_pos ⟨hq, hh⟩))
  case bad =>
    rintro bytes n a hc hl rfl hn hq hr
    exact completes_refused rfl hc (opPiece_checked hl hn ((if_pos hq).trans hr))
  case confirm =>
    intro hc hr ht'
    exact completes_command rfl hc (need_ok (and_true_intro hr (decide_eq_true ht')) (opFlash_queued ht rfl))
  case notReached =>
    intro hc h
    refine completes_refused rfl hc (need_error ?_)
    rcases h with h | h
    · rw [h, Bool.false_and]
    · rw [h]
      exact Bool.and_false _
  case revert => exact fun hc hs => completes_command rfl hc (need_ok (decide_eq_true hs) (opFlash_queued ht rfl))
  case noTrial =>
    intro hc hs
    exact completes_refused rfl hc (need_error (by rw [hs]; rfl))

end Sys2Proof.Proofs
end

section
/-! PROOF. The end of a device operation of the flash manager and its firmware operations (R474 to R491), and boot, balls, straps and the
test port (R445 to R513). -/

namespace Sys2Proof.Proofs

open Sys2Proof Sys2Proof.Machine Sys2Proof.Laws

/-- The head of the flash queue after its device operation in flight has ended. -/
def headEnded (ok : Bool) (j : FlashJob) (rest : List FlashJob) (s : State) : State :=
  match s.flash.stepsOf j with
  | .error a => s.endFlashJob j rest (some a)
  | .ok [] => s.endFlashJob j rest none
  | .ok (x :: more) => (if ok then s.finishStep x else s.failStep x).afterStep j rest more

/-- An erase suspended for reads goes on after the last of them (R474). -/
def readsPassed (s : State) : State :=
  { s with flash := { s.flash with suspended := s.flash.suspended && !s.flash.leadingReads.isEmpty } }

section Head

variable {s : State} {ok : Bool} {j : FlashJob} {rest : List FlashJob} {a : Abort} {x : FlashStep} {more : List FlashStep}

theorem execFlashOperationComplete_head (hq : s.flash.queue = j :: rest) :
    execFlashOperationComplete ok s =
      if (readsPassed (headEnded ok j rest s)).power.grace then (readsPassed (headEnded ok j rest s)).dropFlash.thermalShutdown 5
      else readsPassed (headEnded ok j rest s) := by
  rw [execFlashOperationComplete, hq]
  rfl

theorem headEnded_refused (h : s.flash.stepsOf j = .error a) : headEnded ok j rest s = s.endFlashJob j rest (some a) := by
  rw [headEnded, h]

theorem headEnded_empty (h : s.flash.stepsOf j = .ok []) : headEnded ok j rest s = s.endFlashJob j rest none := by
  rw [headEnded, h]

theorem headEnded_step (h : s.flash.stepsOf j = .ok (x :: more)) :
    headEnded ok j rest s = (if ok then s.finishStep x else s.failStep x).afterStep j rest more := by
  rw [headEnded, h]

/-- Outside the grace period of a thermal shut-down the queue goes on. -/
theorem completes_head {u : State} (hp : s.powered = true) (hq : s.flash.queue = j :: rest) (hu : headEnded ok j rest s = u)
    (hg : u.power.grace = false) :
    Completes (.flashOperationComplete ok) s
      { u with flash := { u.flash with suspended := u.flash.suspended && !u.flash.leadingReads.isEmpty } } := by
  refine completes_live rfl hp ((execFlashOperationComplete_head hq).trans ?_)
  rw [hu]
  refine if_neg fun h => Bool.false_ne_true (hg.symm.trans h)

/-- A device operation other than a read acts on the flash where the device takes it (R475, R476). -/
theorem finishStep_act (hr : ∀ a, x ≠ .read a) (hs : s.flash.stepStatus x = 0) :
    s.finishStep x = State.setFlashStatus { s with flash := s.flash.apply x } 0 := by
  refine (if_neg (not_not_intro hs)).trans ?_
  cases x with
  | read a => exact absurd rfl (hr a)
  | _ => rfl

end Head

/-- Settles O58: each end of a device operation, and the operations that CONFIRM and REVERT are made of. -/
theorem flashAndFirmware : Obligations.FlashAndFirmware := by
  unfold Obligations.FlashAndFirmware
  refine fun s => ⟨?refused, ?empty, ?declined, ?read, ?acts, ?fails, ?grace, ?confirm, ?confirmFirst, ?revert⟩
  case refused =>
    rintro ok j rest a t hp hq hs rfl hg
    exact completes_head hp hq (headEnded_refused hs) hg
  case empty =>
    rintro ok j rest t hp hq hs rfl hg
    exact completes_head hp hq (headEnded_empty hs) hg
  case declined =>
    rintro j rest x more st t u hp hq hs rfl hst rfl rfl hg
    refine completes_head hp hq ((headEnded_step hs).trans ?_) hg
    exact congrArg (State.afterStep · j rest more) (if_pos hst)
  case read =>
    rintro j rest a more t u hp hq hs hst rfl rfl hg
    refine completes_head hp hq ((headEnded_step hs).trans ?_) hg
    exact congrArg (State.afterStep · j rest more) (if_neg (not_not_intro hst))
  case acts =>
    rintro j rest x more t u hp hq hs hr hst rfl rfl hg
    refine completes_head hp hq ((headEnded_step hs).trans ?_) hg
    exact congrArg (State.afterStep · j rest more) (finishStep_act hr hst)
  case fails =>
    rintro j rest x more t u hp hq hs rfl rfl hg
    exact completes_head hp hq (headEnded_step hs) hg
  case grace =>
    rintro ok j rest x more t u v hp hq hs rfl rfl rfl hg
    refine completes_live rfl hp ((execFlashOperationComplete_head hq).trans ?_)
    rw [headEnded_step hs]
    exact if_pos hg
  case confirm =>
    rintro k j b p hk hj rfl hb
    simp only [Flash.plan, hk, hj, hb]
  case confirmFirst =>
    rintro k b p hk hj rfl hb
    simp only [Flash.plan, hk, hj, hb]
  case revert =>
    intro k p hk hb
    simp only [Flash.plan, hk, hb]

/-- Settles O59: each event of boot, the balls and the test port meets its guard, and each pad word its checks. -/
theorem bootAndBalls : Obligations.BootAndBalls := by
  unfold Obligations.BootAndBalls
  refine fun s => ⟨?boot, ?release, ?pull, ?straps, ?function, ?pad, ?clock, ?output⟩
  case boot =>
    intro t u v hp hb ht hu hv
    refine completes_always rfl ((if_neg (by simp [hb, hp])).trans ?_)
    dsimp only
    rw [← ht, ← hu, ← hv]
  case release => exact fun legacy boot0 boot1 hl => completes_always rfl ((if_pos rfl).trans (if_pos hl))
  case pull =>
    intro legacy boot0 boot1 t hl hs ht
    refine completes_always rfl ((if_neg (by decide)).trans ((if_neg (by rw [hl]; decide)).trans ?_))
    dsimp only
    rw [if_pos hs, ← ht]
  case straps => exact fun levels hl hb => completes_always rfl (if_neg (by simp [hl, hb]))
  case function =>
    intro n v hc hn hp hpre hok hd ht hold hnew h13
    have h192 : ¬ 192 ≤ n := by omega
    refine completes_command rfl hc (need_ok (decide_eq_true (by omega)) (need_ok rfl (need_ok ?_ (need_ok ?_ (need_ok hpre ?_)))))
    · rw [hp, Bool.or_true]
    · rw [decide_eq_false h192]
      rfl
    · have hfree : (!s.mfioTaken n v) = true := by rw [ht]; rfl
      have hoff : (decide (192 ≤ n) && decide (n ≤ 207) || s.mfioUnitOff (s.mfioWord n) && s.mfioUnitOff v) = true := by
        rw [hold, hnew]
        exact Bool.or_true _
      refine (if_pos rfl).trans (need_ok hok ?_)
      dsimp only
      cases hm : mfioDie v with
      | none => exact need_ok hfree (need_ok hoff (if_neg fun h => h13 h.2))
      | some d =>
        have hdie : (decide (192 ≤ n) || decide (d = n / 24)) = true := by rw [decide_eq_true (hd d hm), Bool.or_true]
        have hpres : s.present d = true := by rw [hd d hm, hp]
        exact need_ok hdie (need_ok hpres (need_ok hfree (need_ok hoff (if_neg fun h => h13 h.2))))
  case pad =>
    intro n v hc hn hp hpre hv h0 h65 hold
    have h192 : ¬ 192 ≤ n := by omega
    refine completes_command rfl hc (need_ok (decide_eq_true (by omega)) (need_ok rfl (need_ok ?_ (need_ok ?_ (need_ok hpre ?_)))))
    · rw [hp, Bool.or_true]
    · rw [decide_eq_false h192]
      rfl
    · have hpad : (decide (v < 256) && !bit v 0 && decide (bits v 6 5 ≠ 3)) = true :=
        and_true_intro (and_true_intro (decide_eq_true hv) (by rw [h0]; rfl)) (decide_eq_true h65)
      have hoff : (decide (192 ≤ n) && decide (n ≤ 207) || s.mfioUnitOff (s.mfioWord n) && s.mfioUnitOff (s.mfioWord n)) = true := by
        rw [hold]
        exact Bool.or_true _
      exact (if_neg (by decide)).trans (need_ok hpad (need_ok hoff (if_neg fun h => absurd h.1 (by decide))))
  case clock =>
    rintro tms tdi t hs rfl hb
    refine completes_always rfl ((if_neg hs).trans ?_)
    dsimp only
    rw [hb]
  case output =>
    rintro tms tdi t b hs rfl hb
    refine completes_always rfl ((if_neg hs).trans ?_)
    dsimp only
    rw [hb]

end Sys2Proof.Proofs
end
